-- ==== Sys2Proof/Word.lean ====
section
/-! DEFINITION. The plainest types of the model: register values and sparse tables (01, 02 of spec/). -/

namespace Sys2Proof

/-- A value of a dictionary object: an unsigned number of the object's size, most significant byte first (R19). -/
abbrev Reg := Nat

/-- One byte of a message; a well-formed message holds bytes below 256. -/
abbrev Byte := Nat

/-- A sparse table: the rows that differ from what an unlisted row reads as, keys strictly rising. -/
abbrev Tbl (α : Type) := List (Nat × α)

/-- A port number, P00 to P95 (R3). -/
abbrev PortId := Fin 96

/-- A lane number, L000 to L407 (R3). -/
abbrev LaneId := Fin 408

/-- A slice number, S00 to S47, or a middle (Table 1-1, R104). -/
abbrev SliceId := Fin 48

/-- A tenant number, T00 to T63 (Table 0-3). -/
abbrev TenantId := Fin 64

/-- A VMD number, 16 * tenant + local number (Table 0-3). -/
abbrev VmdId := Fin 1024

/-- A home slice number (Table 1-1). -/
abbrev HomeId := Fin 8

/-- A migration engine number, J0 to J3. -/
abbrev EngineId := Fin 4

/-- A slot channel number, SLOT00 to SLOT31. -/
abbrev SlotId := Fin 32

/-- A Beryl bank number (R162). -/
abbrev BankId := Fin 32

/-- A lane-group (power domain) number, G00 to G23. -/
abbrev GroupId := Fin 24

/-- An access-control unit number, ACU00 to ACU56. -/
abbrev AcuId := Fin 57

/-- An event-source number (Table 0-3). -/
abbrev SourceId := Fin 4096

end Sys2Proof
end

