-- ==== Sys2Proof/Syntax.lean ====
section
/-! DEFINITION. The commands of the block: one constructor of Instr per row of spec/opcode_table.json, with the
row's operands. Unit numbers are Fin types, so a command names only units that exist. An operand that the outside
world measures (a margin, a temperature, a latency) stands in the command as the measured value. -/

namespace Sys2Proof

/-- Privileges, R20 and R350. -/
inductive Priv where
  | observer | operator | owner | secure
  deriving DecidableEq, Repr

/-- How a dictionary request reached the server: over a management port, over the I3C target, or from an entry
switch that forwarded it with the privilege of its session (R39). -/
inductive Transport where
  | mgmtA | mgmtB | i3c
  | proxy (priv : Priv)
  deriving DecidableEq, Repr

/-- The fields of a JDP message (Table 2-7) that its row of the command table does not fix. -/
structure JdpEnv where
  /-- Where the message arrived. -/
  via : Transport
  version : Nat
  flags : Nat
  alive : Nat
  session : Nat
  segment : Nat
  /-- The Length field. -/
  length : Nat
  proxyTarget : Nat
  row : Nat
  payload : List Byte
  /-- The 16-byte tag field. -/
  tag : Nat
  /-- The CRC field. -/
  crc : Nat
  /-- Size of the datagram in bytes (R29). -/
  size : Nat
  /-- The Echo and Abort code fields of the message. -/
  echo : Nat := 0
  abort : Nat := 0
  /-- The datagram arrived in fragments (R29). -/
  fragmented : Bool := false
  deriving DecidableEq, Repr

/-- What an answer carries: its payload and its more-segments flag. -/
structure Segment where
  bytes : List Byte
  more : Bool := false
  deriving DecidableEq, Repr

/-- The transport of an FM API request (R40). -/
inductive FmVia where
  | i3c | pcie
  deriving DecidableEq, Repr

/-- MetaValue of a CXL.mem request: the state asked for or left. -/
inductive MetaVal where
  | invalid | shared | any
  deriving DecidableEq, Repr

/-- AtomicOps of Table 4-3. -/
inductive AtomicKind where
  | fetchAdd | swap | cas
  deriving DecidableEq, Repr

/-- An AtomicOp's operands: size in bytes, byte offset in the line, operand and compare value. -/
structure AtomicReq where
  kind : AtomicKind
  size : Nat
  offset : Nat
  operand : Nat
  compare : Nat
  deriving DecidableEq, Repr

/-- Responses a host may give to a snoop (R187, R188): the state it keeps. -/
inductive BiState where
  | i | s | e
  deriving DecidableEq, Repr

/-- What a HOST port's CXL.mem or AtomicOp request asks for (R185, R191, Table 13-4), and the BIRsp with which a host answers a
snoop of a region line (R188). -/
inductive MemOp where
  | memRd (mv : MetaVal)
  | memRdData
  | memInv (mv : MetaVal)
  | memClnEvct
  | memWr (mv : MetaVal) (snpNoOp : Bool) (data : Nat)
  | atomic (a : AtomicReq)
  | biRsp (region : Fin 256) (line : Nat) (keeps : BiState)
  deriving DecidableEq, Repr

/-- A request at a HOST port: the VMD that the tenant's virtual switch selects, the VMD address (R165), the host
physical address (Table 15-5), the host's tag, and the header with prefixes, and the ECRC, of an AtomicOp's TLP. -/
structure MemReq where
  op : MemOp
  vmd : VmdId
  dpa : Nat
  hpa : Nat
  tag : Nat
  head : List Byte := List.replicate 16 0
  ecrc : List Byte := []
  deriving DecidableEq, Repr

/-- CXL.cache messages of a channel pair of Table 5-1. -/
inductive CacheKind where
  | req | rsp | data
  deriving DecidableEq, Repr

/-- PCIe and CXL.io TLP kinds, and the CXL.cache messages that pass through to a device bound whole (Table 4-3). -/
inductive TlpKind where
  | memRead | memWrite | cfgRead | cfgWrite | atomicOp | message | completion
  | cache (k : CacheKind)
  deriving DecidableEq, Repr

/-- A whole TLP that has passed the link layer (R116), or a CXL.cache message: the vPPB it goes to, its address, routing ID
and register for configuration requests, the bytes of data that it carries or asks for, its tag, whether it is addressed
to the tenant's own presented objects, its header with prefixes and its ECRC as received (R103), and its Relaxed Ordering and
ID-Based Ordering attributes (R114). Of a TLP from a device bound whole: whether the device on that vPPB is addressed instead of the
host (R252), its address type, and whether its Requester ID lies outside its port's buses (Table 4-3). -/
structure TlpReq where
  kind : TlpKind
  vppb : Fin 32
  addr : Nat
  routingId : Nat
  register : Nat
  bytes : Nat
  data : Nat
  tag : Nat
  own : Bool
  head : List Byte := List.replicate 16 0
  ecrc : List Byte := []
  attrs : Nat := 0
  peer : Bool := false
  addrType : Nat := 0
  stranger : Bool := false
  deriving DecidableEq, Repr

/-- What a completion brings: its data and their bytes, and of a TLP its header with prefixes, its ECRC and its ordering attributes as
received (R103, R114). -/
structure CplBody where
  data : Nat
  len : Nat := 4
  head : List Byte := List.replicate 12 0
  ecrc : List Byte := []
  attrs : Nat := 0
  deriving DecidableEq, Repr

/-- What the auditor finds in a QUEUED cell's descriptor: the cell, whether its predecessor links it, and an error that its ECC
has corrected or cannot correct (R125, Table 14-2). -/
structure DescFind where
  number : Nat
  linked : Bool := true
  corrected : Bool := false
  uncorrectable : Bool := false
  deriving DecidableEq, Repr

/-- Link channels of Table 5-1. -/
inductive Chan where
  | posted | nonPosted | completion | m2sReq | m2sRwd | s2mNdr | s2mDrs | biSnp | biRsp
  | d2hReq | h2dReq | d2hRsp | h2dRsp | d2hData | h2dData
  deriving DecidableEq, Repr

/-- Beat sources in the order of Table 19-4. -/
inductive BeatSrc where
  | beatA | beatB | link
  deriving DecidableEq, Repr

/-- The unit that receives a mesh packet (R15). -/
inductive MeshUnit where
  | slice (s : SliceId) | bank (b : BankId) | home (h : HomeId) | atomicEngine | engine (n : EngineId)
  | control (x : Fin 8)
  deriving DecidableEq, Repr

/-- Classes of mesh packets, in the strict order in which routers serve them (01, The Epkan mesh). -/
inductive MeshClass where
  | coord | control | management
  deriving DecidableEq, Repr

/-- A mesh packet: its number, class, the router input at which it came in, and its endpoints. -/
structure MeshPacket where
  id : Nat
  cls : MeshClass
  input : Fin 8
  sender : MeshUnit
  dest : MeshUnit
  deriving DecidableEq, Repr

/-- A failing SRAM row found by BIST (R324). -/
structure BistFind where
  memInst : Nat
  row : Nat
  bit : Nat
  deriving DecidableEq, Repr

/-- A fabric hello (R230). -/
structure Hello where
  identity : Nat
  switchPid : Nat
  port : Nat
  width : Nat
  rate : Nat
  deriving DecidableEq, Repr

/-- One link of a link-state record (R233, Table 12-5). -/
structure LsrLink where
  localPort : Nat
  peer : Option Nat
  peerPort : Nat
  weuri : Bool
  delay : Nat
  width : Nat
  rate : Nat
  deriving DecidableEq, Repr

/-- A link-state record (R233). -/
structure Lsr where
  identity : Nat
  switchPid : Nat
  beatRoot : Bool
  proxyAdmit : Bool
  /-- Assigned rows of PortPids: port and row value. -/
  pids : List (Nat × Nat)
  links : List LsrLink
  sequence : Nat
  stamp : Nat
  deriving DecidableEq, Repr

/-- A received Weuri marker copy: the physical lane on which it came and its 128 bits (Table 4-4). -/
structure MarkerCopy where
  lane : Fin 17
  word : BitVec 128
  deriving DecidableEq, Repr

/-- Cumulative credits of a channel that the partner grants: dedicated, and shared as PCIe permits (R89). -/
structure Credits where
  dedicated : Nat
  shared : Nat := 0
  deriving DecidableEq, Repr

/-- A NAK: the sequence number it names, and whether it is PCIe flit mode's selective NAK (R94). -/
structure Nak where
  sequence : Fin 4096
  selective : Bool := false
  deriving DecidableEq, Repr

/-- What a training settles for its lanes: those whose inversion is detected, whether the partner agrees to train on stored
coefficients, and whether lane reversal is negotiated (R70, R87). -/
structure LaneTraining where
  inverted : List LaneId := []
  agrees : Bool := false
  reversed : Bool := false
  deriving DecidableEq, Repr

/-- What a message on a fabric link is, in the kinds of Table 5-6. -/
inductive FabricKind where
  | memRead | memNoData | memWrite | ioNonPosted | ioPosted | cache | response
  deriving DecidableEq, Repr

/-- Answers of Table 5-6 to a message that reaches no port. -/
inductive FabricReply where
  | poisonedData | completion | unsupportedRequest | discarded
  deriving DecidableEq, Repr

/-- A message that arrives over a fabric link or for it (R241): source and destination PID, class byte of R247, kind, data, bytes
in its internal form, the address and tag that it carries (R108), its tenant, and the answer of Table 5-6 that it is, if it is
one. -/
structure FabricMsg where
  src : Fin 4096
  dst : Fin 4096
  classByte : Nat
  kind : FabricKind
  payload : Nat
  bytes : Nat := 16
  addr : Option Nat := none
  tag : Nat := 0
  tenant : TenantId := 0
  reply : Option FabricReply := none
  deriving DecidableEq, Repr

/-- A write of SwitchPid that RemotePidAssign delivers (R236): the PID, the switch that asks for it, and the switch that it is for,
none for this one. -/
structure PidWrite where
  pid : Nat
  origin : Nat
  target : Option Nat := none
  deriving DecidableEq, Repr

/-- What the slot die measures in one 10 µs sample (R302): sense voltage in 0.01 mV, output and input in mV, and the
gate drive of HSG above OUT in mV. -/
structure SlotMeas where
  sense : Nat
  output : Nat
  input : Nat
  hsgAboveOut : Nat
  deriving DecidableEq, Repr

/-- What the fast-trip comparator of a slot channel sees: the channel, and the sense voltage in 0.01 mV (R303). -/
structure SlotPeak where
  slot : SlotId
  sense : Nat
  deriving DecidableEq, Repr

/-- The commands of the block, one constructor per row of spec/opcode_table.json. -/
inductive Instr where
  -- start-up, supplies and temperature (17, 18)
  | pwronRstNAssert
  | pwronRstNRelease (powerOn : Bool)
  | fuseLoadComplete (corrected : Nat) (uncorrectable : Bool)
  | logicBistComplete (failed : BitVec 12)
  | memoryBistComplete (found : List BistFind)
  | fwLoadComplete
  | fwInitComplete
  | restorePhaseComplete
  | avsAcknowledge
  | avsTimeout
  | supplyOutOfRange (rails : BitVec 7)
  | temperatureReading (temps : List Int)
  -- the dictionary and JDP (02)
  | stateRequestStart (env : JdpEnv)
  | stateRequestStop (env : JdpEnv)
  | stateRequestReset (env : JdpEnv)
  | registerWrite (env : JdpEnv) (index sub : Nat)
  | readBlock (env : JdpEnv) (index sub : Nat)
  | writeBlock (env : JdpEnv) (index sub : Nat)
  | blockIdleTimeout (session : Nat)
  | hello (env : JdpEnv)
  | proof (env : JdpEnv)
  | challengeTimeout (session : Nat)
  | close (env : JdpEnv)
  | sessionIdleTimeout (session : Nat)
  | subscribe (env : JdpEnv)
  | proxyRequest (env : JdpEnv) (operation index sub : Nat)
  | proxyAnswer (request : Nat) (abort : Nat) (payload : Segment)
  | proxyTimeout (request : Nat)
  | credentialInstall (env : JdpEnv)
  | store (env : JdpEnv)
  | storeComplete (badWords : List Nat) (repeatBad : List Nat)
  | restore (env : JdpEnv)
  | checkCompute (env : JdpEnv)
  | checkComputeComplete (data : List Byte) (poisoned : Bool)
  | checkBytes (env : JdpEnv)
  -- the FM API (19)
  | identify (via : FmVia)
  | backgroundOperationStatus (via : FmVia)
  | getResponseMessageLimit (via : FmVia)
  | setResponseMessageLimit (via : FmVia) (limit : Nat)
  | identifySwitchDevice (via : FmVia)
  | getPhysicalPortState (via : FmVia) (ports : List PortId)
  | physicalPortControl (via : FmVia) (port : PortId) (opcode : Nat)
  | sendPpbCxlIoConfigurationRequest (via : FmVia) (port : PortId) (routingId register : Nat) (write : Bool) (data : Nat)
  | getVirtualCxlSwitchInfo (via : FmVia) (tenant : TenantId)
  | bindVppb (via : FmVia) (tenant : TenantId) (vppb : Fin 32) (port ld : Nat)
  | unbindVppb (via : FmVia) (tenant : TenantId) (vppb : Fin 32) (option : Nat)
  | managedRemoveTimeout
  | tunnelManagementCommand (via : FmVia) (target : Nat) (opcode : Nat) (payload : List Byte)
  | getLdInfo (via : FmVia) (tenant : TenantId)
  | getLdAllocations (via : FmVia) (tenant : TenantId)
  | setLdAllocations (via : FmVia) (tenant : TenantId) (start : Fin 16) (sizes : List Nat)
  | fmApiOtherCommand (via : FmVia) (opcode : Nat)
  -- the beat and commits (03)
  | beatPulseEdge (input : Fin 2) (error phase : Int)
  | beatFrame (input : Fin 2) (frame : BitVec 64)
  | linkBeat (port : PortId) (number offset : Nat) (arrival early : Int)
  | linkDelayMeasurement (port : PortId) (roundTrip : Nat)
  | sourceJudgement
  | holdoverLimitReached
  | beatBoundary
  | armingCutoff
  | applyPreparation
  | commitArm (env : JdpEnv)
  | stagedDiscard (env : JdpEnv)
  | commitCancel (env : JdpEnv)
  | commitCancelReceive (port : PortId) (tag target : Nat)
  | beatReacquire (env : JdpEnv)
  | beatReacquireAdopt (src : BeatSrc)
  -- the Epkan mesh (01)
  | meshPacketReceive (unit : MeshUnit) (packet : MeshPacket) (good : Bool)
  | meshAgeTick (router : Nat) (packet : MeshPacket)
  -- lanes and ports (04)
  | lossOfSignal (lane : LaneId)
  | lossOfSignalDeassert (lane : LaneId)
  | lossOfLock (lane : LaneId)
  | eyeScanComplete (lane : LaneId) (marginH marginV : Nat)
  | portLockLost (port : PortId)
  | portLockRegained (port : PortId)
  | lockLossHoldExpiry (port : PortId)
  | partnerRecovery (port : PortId)
  | trainingReachesL0 (port : PortId) (rate width : Nat) (partnerFlit partnerLopt : Bool) (polarity : LaneTraining)
      (partnerCount partnerLast : Nat) (partnerRetired : List Nat)
  | trainingAttemptFailure (port : PortId)
  | detectNoReceiver (port : PortId)
  | hotReset (port : PortId)
  | weuriMarkerTransmit (port : PortId)
  | weuriMarkerReceive (port : PortId) (copies : List MarkerCopy)
  | laneParkExitReady (port : PortId)
  | ideKeyRefresh (env : JdpEnv)
  | ideMacFailure (port : PortId)
  -- link reliability (05)
  | flitReceive (port : PortId) (sequence : Fin 4096) (crcGood : Bool) (payload : Nat) (corrected : Nat)
  | ackReceive (port : PortId) (sequence : Fin 4096)
  | nakReceive (port : PortId) (sequence : Nak)
  | replayTimerExpiry (port : PortId)
  | creditUpdateReceive (port : PortId) (chan : Chan) (headers datas : Credits)
  | creditUpdateRepeat (port : PortId)
  | creditTimeout (port : PortId) (chan : Chan)
  -- ingress and the switch core (06)
  | memRequestIngress (port : PortId) (req : MemReq)
  | tlpIngress (port : PortId) (req : TlpReq)
  | ingressStagingEntry (port : PortId) (chan : Chan)
  | stageOneSend (input : SliceId) (slot : Nat)
  | poolCellArrival (middle : SliceId)
  | stageTwoRead (middle : SliceId) (slot : Nat)
  | internalDestinationTake (dest : Fin 13) (middle : SliceId) (headerError : BitVec 128)
      (payloadError : BitVec 1920)
  | resequencingArrival (output : SliceId)
  | cellRelease (output : SliceId) (headerError : BitVec 128) (payloadError : BitVec 1920)
  | deliveredCellFree (middle : SliceId)
  | auditSegment (middle : SliceId) (found : List DescFind)
  | auditSegmentAbandon (middle : SliceId)
  -- egress (07)
  | egressTransmitDecision (port : PortId)
  | queueSample (port : PortId)
  -- tenants and VMDs (08)
  | tenantReset (env : JdpEnv)
  | directorySweepComplete (home : HomeId) (tenant : TenantId)
  | tenantCleanupEnd (tenant : TenantId)
  | completionReceive (port : PortId) (dtag : Nat) (data : CplBody) (poisoned : Bool) (good : Bool)
  | vmdCreate (env : JdpEnv)
  | vmdDestroy (env : JdpEnv)
  | vmdDrainComplete (vmd : VmdId)
  | emulatedPowerControlWrite (tenant : TenantId) (vppb : Fin 32) (off : Bool)
  | emulatedAttentionAcknowledge (tenant : TenantId) (vppb : Fin 32)
  | attentionPress (env : JdpEnv)
  | hdmDecoderCommit (vmd : VmdId) (decoder : Fin 4)
  -- the extent map (09)
  | entryTableWrite (env : JdpEnv)
  | descriptorTableWrite (env : JdpEnv)
  | regionRunTableWrite (env : JdpEnv)
  | deviceInventoryWrite (env : JdpEnv)
  | entryRunWrite (env : JdpEnv)
  | entryRunWriteComplete
  | entryReplace (env : JdpEnv)
  | rowSettled (region : Bool) (row : Nat)
  | backgroundWrite (bank : BankId)
  | extentCacheRefill (slice : SliceId) (entry : Nat) (eccUncorrectable eccCorrected : Bool) (waitNs : Nat)
  | poisonScrubComplete
  -- the coherence home (10)
  | homeAcquireArrival (home : HomeId)
  | homeAcquireStart (home : HomeId)
  | homeRelease (home : HomeId)
  | biconflict (port : PortId) (region : Fin 256) (line : Nat)
  | birspArrival (home : HomeId) (region : Fin 256) (line : Nat) (tenant : TenantId) (keeps : BiState)
  | homeMemoryCompletion (home : HomeId) (dtag : Nat) (data : Nat) (poisoned : Bool)
  | snoopAge (home : HomeId) (region : Fin 256) (line : Nat) (tenant : TenantId)
  | directoryScrub (home : HomeId) (set : Fin 16384) (way : Fin 16) (corrected uncorrectable : Bool)
  | copyLockRequest (engine : EngineId) (line : Nat)
  | regionCreate (env : JdpEnv)
  | regionDestroy (env : JdpEnv)
  | regionRecall (env : JdpEnv)
  | regionRecallComplete
  | atomicEngineRequest
  | atomicWriteCompletion (dtag : Nat)
  -- live migration (11)
  | jobCreate (env : JdpEnv)
  | jobCancel (env : JdpEnv)
  | armSettled (engine : EngineId)
  | chunkStart (engine : EngineId)
  | copyLineReadback (engine : EngineId) (line : Nat) (data : Nat) (poisoned : Bool)
  | dualWrite (engine : EngineId)
  | dualWriteCompletion (engine : EngineId) (line : Nat) (legA legB : Bool)
  | commitSettled (job : Fin 1024)
  -- the fabric (12)
  | fabricHelloReceive (port : PortId) (hello : Hello)
  | foreignNeighbour (port : PortId)
  | helloLoss (port : PortId)
  | lsrReceive (port : PortId) (lsr : Lsr)
  | lsrRefresh
  | lsrExpiry (identity : Nat)
  | remotePidAssign (env : JdpEnv)
  | remotePidAssignDelivery (pid : PidWrite)
  | remotePidAssignConfirm (admitted : Bool)
  | remotePidAssignTimeout
  | routeProbe (env : JdpEnv)
  | fabricForward (port : Option PortId) (arrivedDown : Bool) (msg : FabricMsg)
  -- access control (13)
  | acuSettled (unit : AcuId)
  | swapWrite (env : JdpEnv) (unit : AcuId)
  -- Onyx (14)
  | onyxSweep
  | notificationDeadline
  | force (env : JdpEnv) (source : SourceId)
  | forceDry (env : JdpEnv) (source : SourceId)
  | latchClear (env : JdpEnv) (source : SourceId)
  | occurrencesClear (env : JdpEnv) (source : SourceId)
  | clearLatches (env : JdpEnv)
  -- telemetry (15)
  | counterWindowRead (env : JdpEnv)
  | snapshotArm (env : JdpEnv)
  | shadowRelease (env : JdpEnv)
  | sampleRecordComplete (record : Nat) (toEgress toCompletion : Nat) (outcome : Fin 6)
  | sampleTailWrite (env : JdpEnv)
  | readCounters (tenant : TenantId) (shadow : Bool)
  | readSamples (tenant : TenantId) (start : Nat)
  -- slot power (16)
  | presenceChange (slot : SlotId) (long short : Bool)
  | presenceSeated (slot : SlotId)
  | attemptStart (slot : SlotId)
  | slotSample (slot : SlotId) (m : SlotMeas)
  | prechargeComplete (slot : SlotId)
  | pcgTurnOff (slot : SlotId)
  | prechargeTimeout (slot : SlotId)
  | rampComplete (slot : SlotId)
  | rampTimeout (slot : SlotId)
  | faultTimerExpiry (slot : SlotId)
  | fastTrip (slot : SlotPeak)
  | retryOffTimeElapsed (slot : SlotId)
  | retriesUsedReset (slot : SlotId)
  | gateStuck (slot : SlotId)
  | shortedPassTransistor (slot : SlotId)
  | reverseCurrent (slot : SlotId) (feed : Fin 2)
  | feedRecovery (slot : SlotId) (feed : Fin 2)
  | inputLow (slot : SlotId)
  | inputRestored (slot : SlotId)
  | powerRequestOn (env : JdpEnv) (slot : SlotId)
  | powerRequestOff (env : JdpEnv) (slot : SlotId)
  | presenceLostTurnOff (slot : SlotId)
  | slotPortTrainingStart (slot : SlotId)
  -- firmware and domains (17)
  | flashSlotWrite (env : JdpEnv) (slotB : Bool)
  | imageCheck (env : JdpEnv)
  | firmwareActivate (env : JdpEnv)
  | firmwareActivationEnd
  | repairListClear (env : JdpEnv)
  | domainDrainEnd (group : GroupId)
  | domainDrainTimeout (group : GroupId)
  | domainPowerOff (group : GroupId)
  | domainPowerUpEnd (group : GroupId) (found : List BistFind)
  -- further rows of the table
  | restoreComplete
  | copyReadCompletion (engine : EngineId) (line : Nat) (data : Nat) (poisoned : Bool)
  | copyWriteCompletion (engine : EngineId) (line : Nat)
  | atomicReadCompletion (dtag : Nat) (data : Nat) (poisoned : Bool)
  | debugPortAccess (space : Fin 5) (write : Bool) (target ld addr : Nat) (data : Nat)
  | clearEventRecords (vmd : VmdId) (handles : Option (List Nat))
  | ideKmRequest (tenant : TenantId) (port : PortId)
  deriving DecidableEq, Repr

end Sys2Proof
end

