-- ==== Sys2Proof/Decode.lean ====
section
/-! DEFINITION. The decoder of table words. The command table of the spec gives no row any bits (a command of this block is
an event or a message, not a word), so no word spells a command. -/

namespace Sys2Proof

/-- The command that a word spells by the table's bits: none, since no row of the table gives bits. Log entry 2 (DESIGN
CHOICE). -/
def decodeTableWord (_nbits _w : Nat) : Option Instr := none

end Sys2Proof
end

