-- ==== Sys2Proof/Config.lean ====
section
/-! DEFINITION. What an implementation fixes (fused values) and the free values: constants with no body, so a
statement about them holds whatever they are. -/

namespace Sys2Proof

/-- Free values, drawn in order by the counter `freeCtr` of State: every value that the spec leaves open or does not
state. Log entry 6 (DESIGN CHOICE). -/
opaque Config.freeValue : Nat → Nat

/-- The fused 64-bit fabric identity (Table 19-2). -/
opaque Config.fabricIdentity : Nat

/-- Version of the always-on island's code (Table 19-2). -/
opaque Config.bootVersion : Nat

/-- The fused AVS set point in mV (R343). -/
opaque Config.avsFused : Nat

/-- The 8-bit SEC-DED check of a 64-bit extent-map entry (R162): a function of the entry, whose code the manual does not give. -/
opaque Config.entryCheck : Nat → Nat

/-- The answer of a memory unit to an access outside the switch (SPDM, DOE and internal debug spaces): a function of
the space and the address. -/
opaque Config.debugSpace : Nat → Nat → Nat

/-- The memory instance number that RetireTarget shows for a source whose array the manual does not place (Table 14-4): a
function of the source's number. -/
opaque Config.arrayOf : Nat → Nat

/-- What a tenant's host finds at a register of its hierarchy (R150, R160): the objects that the spec gives the presented
functions, of VMD v or of vPPB b (32: the virtual upstream port), the DOE mailboxes of the tenant and of its VMDs, the margins of a
lane of the tenant's port (Table 4-3), and every other register of a VMD or of the virtual switch. -/
inductive OwnReg where
  | capacity (v : Nat) | serial (v : Nat) | memoryKind (v : Nat) | decoderCap (v : Nat) | decoder (v k field : Nat)
  | mailboxCommand (v : Nat) | mailboxAnswer (v i : Nat) | vmd (v reg : Nat)
  | doeRequest (v : Option Nat) | doeAnswer (v : Option Nat) (i : Nat)
  | slotCap (b : Nat) | slotControl (b : Nat) | slotStatus (b : Nat) | errors (b : Nat)
  | ariCap (b : Nat) | acsCap (b : Nat) | acsControl (b : Nat) | margin (lane : Nat) (vertical : Bool) | switch (reg : Nat)
  deriving DecidableEq, Repr, Inhabited

/-- Where a tenant's host finds each object of its hierarchy: a function of the tenant, the routing ID and the register, which PCI
Express, CXL and the host's enumeration fix. Log entry 7 (DESIGN CHOICE). -/
opaque Config.ownReg : Nat → Nat → Nat → OwnReg

/-- The value of a presented register that the spec does not give: a function of the tenant, the routing ID and the register. -/
opaque Config.presented : Nat → Nat → Nat → Nat

/-- What such a register holds after a write, which PCI Express and CXL fix: a function of the tenant, the routing ID, the register,
what it held and what is written. -/
opaque Config.presentedWrite : Nat → Nat → Nat → Nat → Nat → Nat

/-- What a DOE mailbox answers to a request of SPDM, IDE_KM or CDAT, whose contents the spec does not give: a function of the mailbox
and the request. -/
opaque Config.doeAnswer : Nat → Nat → List Nat

/-- What a VMD's mailbox returns with Get Health Info and Get Log, whose contents the spec does not give: a function of the VMD and
the command. -/
opaque Config.mailboxAnswer : Nat → Nat → List Nat

end Sys2Proof
end

