-- ==== Sys2Proof/Machine/Bits.lean ====
section
/-! DEFINITION. Bit fields, byte strings and two's complement. Every multi-byte value stands most significant byte
first (R19), and a field map runs from the most significant bit down (R4). -/

namespace Sys2Proof

/-- Bits hi to lo of a value. -/
def bits (v hi lo : Nat) : Nat := (v >>> lo) % 2 ^ (hi + 1 - lo)

/-- A value with bits hi to lo replaced. -/
def setBits (v hi lo x : Nat) : Nat :=
  let w := 2 ^ (hi + 1 - lo)
  ((v >>> (hi + 1)) * w + x % w) * 2 ^ lo + v % 2 ^ lo

/-- Bit n of a value. -/
def bit (v n : Nat) : Bool := v.testBit n

/-- A Bool as the bit it is encoded by. -/
def ofBool (b : Bool) : Nat := if b then 1 else 0

/-- A value with bit n set to b. -/
def setBit (v n : Nat) (b : Bool) : Nat := setBits v n n (ofBool b)

/-- The n bytes of a value, most significant first. -/
def toBytes : Nat → Nat → List Byte
  | 0, _ => []
  | n + 1, v => (v >>> (8 * n)) % 256 :: toBytes n v

/-- The value that a byte string spells, most significant byte first. -/
def ofBytes (l : List Byte) : Nat := l.foldl (fun a b => a * 256 + b) 0

/-- Bytes off to off + n - 1 of a byte string as a value. -/
def fieldAt (l : List Byte) (off n : Nat) : Nat := ofBytes ((l.drop off).take n)

/-- The n-bit two's complement of an integer. -/
def toTwos (n : Nat) (x : Int) : Nat := (x % (2 ^ n : Nat)).toNat

/-- The integer that an n-bit two's complement value stands for. -/
def ofTwos (n v : Nat) : Int := if v % 2 ^ n < 2 ^ (n - 1) then (v % 2 ^ n : Nat) else (v % 2 ^ n : Nat) - (2 ^ n : Nat)

/-- The set bits of the low n bits of a value, in rising order. -/
def bitsSet (n v : Nat) : List Nat := (upTo n).filter (fun k => v.testBit k)

/-- The value whose set bits are the listed ones. -/
def ofBitsSet (l : List Nat) : Nat := l.foldl (fun a k => a ||| 1 <<< k) 0

/-- A BEAT object's encoding: bits 57:10 the beat number, bits 9:0 the tick (Table 2-1). -/
def beatVal (n t : Nat) : Nat := n * 1024 + t % 1024

/-- The byte string cut into pieces of n bytes. -/
def pieces (n : Nat) (fuel : Nat) (l : List Byte) : List (List Byte) :=
  match fuel with
  | 0 => []
  | k + 1 => if l.isEmpty then [] else l.take n :: pieces n k (l.drop n)

end Sys2Proof
end

