-- ==== Sys2Proof/Machine/Objects.lean ====
section
/-! DEFINITION. The keys of the dictionary's objects (the object tables of 02 to 19): one name per object. A key holds
the index, the sub-index and the row, so the objects are one register file. -/

namespace Sys2Proof.Machine

/-- The key of sub-index `s` of index `i`, row 0: the address in the upper bits, 32 bits of row below (written byte by byte
so that two symbolic keys are told apart quickly). -/
def obj (i s : Nat) : Nat := (i * 256 + s) * 256 * 256 * 256 * 256

/-- The index of a key. -/
def objIndex (k : Nat) : Nat := k / 4294967296 / 256

/-- The sub-index of a key. -/
def objSub (k : Nat) : Nat := k / 4294967296 % 256

/-- The row of a key. -/
def objRow (k : Nat) : Nat := k % 4294967296

namespace K

/-- VendorName, Table 19-2. -/
def identVendorName : Nat := obj 0x1000 0x01
/-- DeviceName, Table 19-2. -/
def identDeviceName : Nat := obj 0x1000 0x02
/-- VendorId, Table 19-2. -/
def identVendorId : Nat := obj 0x1000 0x03
/-- DeviceId, Table 19-2. -/
def identDeviceId : Nat := obj 0x1000 0x04
/-- Stepping, Table 19-2. -/
def identStepping : Nat := obj 0x1000 0x05
/-- OrderingCode, Table 19-2. -/
def identOrderingCode : Nat := obj 0x1000 0x06
/-- FabricIdentity, Table 19-2. -/
def identFabricIdentity : Nat := obj 0x1000 0x07
/-- Member, Table 19-2. -/
def identMember : Nat := obj 0x1000 0x08
/-- FirmwareVersion, Table 19-2. -/
def versionsFirmwareVersion : Nat := obj 0x1001 0x01
/-- BootVersion, Table 19-2. -/
def versionsBootVersion : Nat := obj 0x1001 0x02
/-- SlotAVersion, Table 19-2. -/
def versionsSlotAVersion : Nat := obj 0x1001 0x03
/-- SlotBVersion, Table 19-2. -/
def versionsSlotBVersion : Nat := obj 0x1001 0x04
/-- DictionaryVersion, Table 19-2. -/
def versionsDictionaryVersion : Nat := obj 0x1001 0x05
/-- DeviceState, Table 19-2. -/
def deviceState : Nat := obj 0x1002 0x01
/-- StateSince, Table 19-2. -/
def deviceStateSince : Nat := obj 0x1002 0x02
/-- ServingCore, Table 19-2. -/
def deviceServingCore : Nat := obj 0x1002 0x03
/-- UptimeBeats, Table 19-2. -/
def deviceUptimeBeats : Nat := obj 0x1002 0x04
/-- Lanes, Table 19-2. -/
def familyLanes : Nat := obj 0x1003 0x01
/-- SpareLanes, Table 19-2. -/
def familySpareLanes : Nat := obj 0x1003 0x02
/-- Slices, Table 19-2. -/
def familySlices : Nat := obj 0x1003 0x03
/-- Tenants, Table 19-2. -/
def familyTenants : Nat := obj 0x1003 0x04
/-- CellBuffer, Table 19-2. -/
def familyCellBuffer : Nat := obj 0x1003 0x05
/-- ExtentEntries, Table 19-2. -/
def familyExtentEntries : Nat := obj 0x1003 0x06
/-- DirectoryEntries, Table 19-2. -/
def familyDirectoryEntries : Nat := obj 0x1003 0x07
/-- MigrationEngines, Table 19-2. -/
def familyMigrationEngines : Nat := obj 0x1003 0x08
/-- SlotChannels, Table 19-2. -/
def familySlotChannels : Nat := obj 0x1003 0x09
/-- MaxLaneRate, Table 19-2. -/
def familyMaxLaneRate : Nat := obj 0x1003 0x0A
/-- WindowDescriptors, Table 19-2. -/
def familyWindowDescriptors : Nat := obj 0x1003 0x0B
/-- RuleWriter, Table 19-2. -/
def fuseRuleWriter : Nat := obj 0x1005 0x01
/-- DebugAdmission, Table 19-2. -/
def fuseDebugAdmission : Nat := obj 0x1005 0x02
/-- PartGrade, Table 19-2. -/
def fusePartGrade : Nat := obj 0x1005 0x03
/-- LockedRegions, Table 19-2. -/
def fuseLockedRegions : Nat := obj 0x1005 0x04
/-- JunctionMax, Table 18-9. -/
def thermalJunctionMax : Nat := obj 0x1006 0x01
/-- HottestDie, Table 18-9. -/
def thermalHottestDie : Nat := obj 0x1006 0x02
/-- JunctionPeak, Table 18-9. -/
def thermalJunctionPeak : Nat := obj 0x1006 0x03
/-- DieTemperatures, Table 18-9. -/
def thermalDieTemperatures : Nat := obj 0x1006 0x04
/-- ThermAlert, Table 18-9. -/
def thermalThermAlert : Nat := obj 0x1006 0x05
/-- AvsFused, Table 18-9. -/
def suppliesAvsFused : Nat := obj 0x1007 0x01
/-- AvsSetPoint, Table 18-9. -/
def suppliesAvsSetPoint : Nat := obj 0x1007 0x02
/-- AvsAcknowledged, Table 18-9. -/
def suppliesAvsAcknowledged : Nat := obj 0x1007 0x03
/-- RailsOutOfRange, Table 18-9. -/
def suppliesRailsOutOfRange : Nat := obj 0x1007 0x04
/-- JdpUdpPort, Table 19-3. -/
def mgmtJdpUdpPort : Nat := obj 0x1100 0x01
/-- SessionIdleTimeout, Table 19-3. -/
def mgmtSessionIdleTimeout : Nat := obj 0x1100 0x02
/-- MgmtAMode, Table 19-3. -/
def mgmtMgmtAMode : Nat := obj 0x1100 0x03
/-- MgmtBMode, Table 19-3. -/
def mgmtMgmtBMode : Nat := obj 0x1100 0x04
/-- Ipv6Address, Table 19-3. -/
def mgmtIpv6Address : Nat := obj 0x1100 0x05
/-- PrefixLength, Table 19-3. -/
def mgmtPrefixLength : Nat := obj 0x1100 0x06
/-- SessionTable, Table 19-3, row r at +r. -/
def mgmtSessionTable : Nat := obj 0x1101 0x01
/-- CrcDiscards, Table 19-3. -/
def jdpCrcDiscards : Nat := obj 0x1102 0x01
/-- UnknownSessionDiscards, Table 19-3. -/
def jdpUnknownSessionDiscards : Nat := obj 0x1102 0x02
/-- TagDiscards, Table 19-3. -/
def jdpTagDiscards : Nat := obj 0x1102 0x03
/-- AliveRefusals, Table 19-3. -/
def jdpAliveRefusals : Nat := obj 0x1102 0x04
/-- ProxyTimeouts, Table 19-3. -/
def jdpProxyTimeouts : Nat := obj 0x1102 0x05
/-- CredentialTable, Table 19-3, row r at +r. -/
def mgmtCredentialTable : Nat := obj 0x1111 0x01
/-- ProxyAdmit, Table 19-3. -/
def proxyAdmit : Nat := obj 0x1120 0x01
/-- FmApiI3cPrivilege, Table 19-3. -/
def fmApiI3cPrivilege : Nat := obj 0x1130 0x01
/-- FmApiPciePort, Table 19-3. -/
def fmApiPciePort : Nat := obj 0x1130 0x02
/-- FmApiPciePrivilege, Table 19-3. -/
def fmApiPciePrivilege : Nat := obj 0x1130 0x03
/-- FmApiPoolTarget, Table 19-3. -/
def fmApiPoolTarget : Nat := obj 0x1130 0x04
/-- FmApiPoolLd, Table 19-3. -/
def fmApiPoolLd : Nat := obj 0x1130 0x05
/-- ResponseLimit, Table 19-3. -/
def fmApiResponseLimit : Nat := obj 0x1130 0x06
/-- ManagedRemoveWait, Table 19-3. -/
def fmApiManagedRemoveWait : Nat := obj 0x1130 0x07
/-- NextSequence, Table 14-5. -/
def onyxNextSequence : Nat := obj 0x1180 0x01
/-- OldestSequence, Table 14-5. -/
def onyxOldestSequence : Nat := obj 0x1180 0x02
/-- NotifyPerBeat, Table 14-5. -/
def onyxNotifyPerBeat : Nat := obj 0x1180 0x03
/-- Sweeps, Table 14-5. -/
def onyxSweeps : Nat := obj 0x1180 0x04
/-- RepairRecords, Table 14-5. -/
def onyxRepairRecords : Nat := obj 0x1180 0x05
/-- LastFatal, Table 14-5. -/
def onyxLastFatal : Nat := obj 0x1180 0x06
/-- EventLog, Table 14-5, row r at +r. -/
def onyxEventLog : Nat := obj 0x1181 0x01
/-- LatchMap, Table 14-5, row r at +r. -/
def onyxLatchMap : Nat := obj 0x1182 0x01
/-- GenerationSize, Table 19-3. -/
def storeGenerationSize : Nat := obj 0x1202 0x01
/-- GenerationNumber, Table 19-3. -/
def storeGenerationNumber : Nat := obj 0x1202 0x02
/-- LastStoreAt, Table 19-3. -/
def storeLastStoreAt : Nat := obj 0x1202 0x03
/-- WearMaximum, Table 19-3. -/
def storeWearMaximum : Nat := obj 0x1202 0x04
/-- LastRestoreOutcome, Table 19-3. -/
def storeLastRestoreOutcome : Nat := obj 0x1202 0x05
/-- WordsRetired, Table 19-3. -/
def storeWordsRetired : Nat := obj 0x1202 0x06
/-- BeatPeriod, Table 19-4. -/
def beatBeatPeriod : Nat := obj 0x1400 0x01
/-- ArmingCutoff, Table 19-4. -/
def beatArmingCutoff : Nat := obj 0x1400 0x02
/-- SourcePolicy, Table 19-4. -/
def beatSourcePolicy : Nat := obj 0x1400 0x03
/-- PreferredExternal, Table 19-4. -/
def beatPreferredExternal : Nat := obj 0x1400 0x04
/-- BeatRoot, Table 19-4. -/
def beatBeatRoot : Nat := obj 0x1400 0x05
/-- HoldoverLimit, Table 19-4. -/
def beatHoldoverLimit : Nat := obj 0x1400 0x06
/-- EdgeTolerance, Table 19-4. -/
def beatEdgeTolerance : Nat := obj 0x1400 0x07
/-- BeatOutEnable, Table 19-4. -/
def beatBeatOutEnable : Nat := obj 0x1400 0x08
/-- Now, Table 19-4. -/
def beatNow : Nat := obj 0x1401 0x01
/-- BeatState, Table 19-4. -/
def beatBeatState : Nat := obj 0x1401 0x02
/-- ActiveSource, Table 19-4. -/
def beatActiveSource : Nat := obj 0x1401 0x03
/-- SourcePort, Table 19-4. -/
def beatSourcePort : Nat := obj 0x1401 0x04
/-- SourceHealth, Table 19-4. -/
def beatSourceHealth : Nat := obj 0x1401 0x05
/-- HoldoverBeats, Table 19-4. -/
def beatHoldoverBeats : Nat := obj 0x1401 0x06
/-- FloodBound, Table 19-4. -/
def beatFloodBound : Nat := obj 0x1401 0x07
/-- PhaseError, Table 19-4. -/
def beatPhaseError : Nat := obj 0x1401 0x08
/-- RootIdentity, Table 19-4. -/
def beatRootIdentity : Nat := obj 0x1401 0x09
/-- LinkDelay, Table 19-4, row r at +r. -/
def beatLinkDelay : Nat := obj 0x1404 0x01
/-- CommitsLate, Table 3-4. -/
def missedCommitsLate : Nat := obj 0x1410 0x01
/-- LateCancels, Table 3-4. -/
def missedLateCancels : Nat := obj 0x1410 0x02
/-- CommitsCancelled, Table 3-4. -/
def missedCommitsCancelled : Nat := obj 0x1410 0x03
/-- ChunksAbandoned, Table 3-4. -/
def missedChunksAbandoned : Nat := obj 0x1410 0x04
/-- SnapshotsSkipped, Table 3-4. -/
def missedSnapshotsSkipped : Nat := obj 0x1410 0x05
/-- NotificationsDiscarded, Table 3-4. -/
def missedNotificationsDiscarded : Nat := obj 0x1410 0x06
/-- RefillsSkipped, Table 3-4. -/
def missedRefillsSkipped : Nat := obj 0x1410 0x07
/-- AuditSegmentsAbandoned, Table 3-4. -/
def missedAuditSegmentsAbandoned : Nat := obj 0x1410 0x08
/-- Tag, Table 19-4. -/
def commitTag : Nat := obj 0x1423 0x01
/-- TargetBeat, Table 19-4. -/
def commitTargetBeat : Nat := obj 0x1423 0x02
/-- State, Table 19-4. -/
def commitState : Nat := obj 0x1423 0x03
/-- Reason, Table 19-4. -/
def commitReason : Nat := obj 0x1423 0x04
/-- DecidedAt, Table 19-4. -/
def commitDecidedAt : Nat := obj 0x1423 0x05
/-- CommitHistory, Table 19-4, row r at +r. -/
def commitCommitHistory : Nat := obj 0x1424 0x01
/-- HeartbeatState, Table 14-8. -/
def hbState : Nat := obj 0x1430 0x01
/-- StoppedBy, Table 14-8. -/
def hbStoppedBy : Nat := obj 0x1430 0x02
/-- StoppedAt, Table 14-8. -/
def hbStoppedAt : Nat := obj 0x1430 0x03
/-- HbAEnable, Table 14-8. -/
def hbAEnable : Nat := obj 0x1430 0x04
/-- HbBEnable, Table 14-8. -/
def hbBEnable : Nat := obj 0x1430 0x05
/-- LaneState, Table 4-5. -/
def laneState (n : Nat) : Nat := obj (0x2000 + n) 0x01
/-- MarginH, Table 4-5. -/
def laneMarginH (n : Nat) : Nat := obj (0x2000 + n) 0x02
/-- MarginV, Table 4-5. -/
def laneMarginV (n : Nat) : Nat := obj (0x2000 + n) 0x03
/-- ScanTime, Table 4-5. -/
def laneScanTime (n : Nat) : Nat := obj (0x2000 + n) 0x04
/-- LosCount, Table 4-5. -/
def laneLosCount (n : Nat) : Nat := obj (0x2000 + n) 0x05
/-- LolCount, Table 4-5. -/
def laneLolCount (n : Nat) : Nat := obj (0x2000 + n) 0x06
/-- Polarity, Table 4-5. -/
def lanePolarity (n : Nat) : Nat := obj (0x2000 + n) 0x07
/-- Coefficients, Table 4-5. -/
def laneCoefficients (n : Nat) : Nat := obj (0x2000 + n) 0x08
/-- SliceMode, R68. -/
def sliceMode (n : Nat) : Nat := obj (0x2400 + n) 0x01
/-- PortMode, Table 4-1. -/
def portPortMode (n : Nat) : Nat := obj (0x2500 + n) 0x01
/-- PortRole, Table 4-1. -/
def portPortRole (n : Nat) : Nat := obj (0x2500 + n) 0x02
/-- MaxRate, Table 4-1. -/
def portMaxRate (n : Nat) : Nat := obj (0x2500 + n) 0x03
/-- MaxWidth, Table 4-1. -/
def portMaxWidth (n : Nat) : Nat := obj (0x2500 + n) 0x04
/-- Clocking, Table 4-1. -/
def portClocking (n : Nat) : Nat := obj (0x2500 + n) 0x05
/-- LockLossHold, Table 4-1. -/
def portLockLossHold (n : Nat) : Nat := obj (0x2500 + n) 0x06
/-- AutoWidthReduce, Table 4-1. -/
def portAutoWidthReduce (n : Nat) : Nat := obj (0x2500 + n) 0x07
/-- MarginThresholdH, Table 4-1. -/
def portMarginThresholdH (n : Nat) : Nat := obj (0x2500 + n) 0x08
/-- MarginThresholdV, Table 4-1. -/
def portMarginThresholdV (n : Nat) : Nat := obj (0x2500 + n) 0x09
/-- IdeEnable, Table 4-1. -/
def portIdeEnable (n : Nat) : Nat := obj (0x2500 + n) 0x0A
/-- LinkState, Table 4-1. -/
def portLinkState (n : Nat) : Nat := obj (0x2500 + n) 0x0B
/-- NegotiatedRate, Table 4-1. -/
def portNegotiatedRate (n : Nat) : Nat := obj (0x2500 + n) 0x0C
/-- NegotiatedWidth, Table 4-1. -/
def portNegotiatedWidth (n : Nat) : Nat := obj (0x2500 + n) 0x0D
/-- FlitFormat, Table 4-1. -/
def portFlitFormat (n : Nat) : Nat := obj (0x2500 + n) 0x0E
/-- SubstitutedLane, Table 4-1. -/
def portSubstitutedLane (n : Nat) : Nat := obj (0x2500 + n) 0x0F
/-- RetrainCount, Table 4-1. -/
def portRetrainCount (n : Nat) : Nat := obj (0x2500 + n) 0x10
/-- Park, Table 4-1. -/
def portPark (n : Nat) : Nat := obj (0x2500 + n) 0x11
/-- ReplayTimer, Table 5-4. -/
def portReplayTimer (n : Nat) : Nat := obj (0x2500 + n) 0x12
/-- CreditTimeout, Table 5-4. -/
def portCreditTimeout (n : Nat) : Nat := obj (0x2500 + n) 0x13
/-- ReplayWindow, Table 5-4. -/
def portReplayWindow (n : Nat) : Nat := obj (0x2500 + n) 0x14
/-- MeasuredRoundTrip, Table 5-4. -/
def portMeasuredRoundTrip (n : Nat) : Nat := obj (0x2500 + n) 0x15
/-- WindowStallTime, Table 5-4. -/
def portWindowStallTime (n : Nat) : Nat := obj (0x2500 + n) 0x16
/-- ReplaysSent, Table 5-4. -/
def portReplaysSent (n : Nat) : Nat := obj (0x2500 + n) 0x17
/-- NaksSent, Table 5-4. -/
def portNaksSent (n : Nat) : Nat := obj (0x2500 + n) 0x18
/-- DuplicatesDiscarded, Table 5-4. -/
def portDuplicatesDiscarded (n : Nat) : Nat := obj (0x2500 + n) 0x19
/-- BadFlitsReceived, Table 5-4. -/
def portBadFlitsReceived (n : Nat) : Nat := obj (0x2500 + n) 0x1A
/-- FecCorrected, Table 5-4. -/
def portFecCorrected (n : Nat) : Nat := obj (0x2500 + n) 0x1B
/-- CreditTimeouts, Table 5-4. -/
def portCreditTimeouts (n : Nat) : Nat := obj (0x2500 + n) 0x1C
/-- HeldMessages, Table 5-4. -/
def portHeldMessages (n : Nat) : Nat := obj (0x2500 + n) 0x1D
/-- HeldSince, Table 5-4. -/
def portHeldSince (n : Nat) : Nat := obj (0x2500 + n) 0x1E
/-- SequenceErrors, Table 5-4. -/
def portSequenceErrors (n : Nat) : Nat := obj (0x2500 + n) 0x1F
/-- AlphaIoP, Table 6-5. -/
def coreAlphaIoP : Nat := obj 0x2800 0x01
/-- AlphaIoNp, Table 6-5. -/
def coreAlphaIoNp : Nat := obj 0x2800 0x02
/-- AlphaIoCpl, Table 6-5. -/
def coreAlphaIoCpl : Nat := obj 0x2800 0x03
/-- AlphaMemReq, Table 6-5. -/
def coreAlphaMemReq : Nat := obj 0x2800 0x04
/-- AlphaMemRsp, Table 6-5. -/
def coreAlphaMemRsp : Nat := obj 0x2800 0x05
/-- AlphaBi, Table 6-5. -/
def coreAlphaBi : Nat := obj 0x2800 0x06
/-- VoqCap, Table 6-5. -/
def coreVoqCap : Nat := obj 0x2800 0x07
/-- ResponseReserve, Table 6-5. -/
def coreResponseReserve : Nat := obj 0x2800 0x08
/-- AgeLimit, Table 6-5. -/
def coreAgeLimit : Nat := obj 0x2800 0x09
/-- ExpressEnable, Table 6-5. -/
def coreExpressEnable : Nat := obj 0x2800 0x0A
/-- PoolStatus, Table 6-8, row r at +r. -/
def corePoolStatus : Nat := obj 0x2801 0x01
/-- CellCrcFailures, Table 6-7. -/
def coreCtrCellCrcFailures : Nat := obj 0x2802 0x01
/-- DataBlocksPoisoned, Table 6-7. -/
def coreCtrDataBlocksPoisoned : Nat := obj 0x2802 0x02
/-- TlpsPoisoned, Table 6-7. -/
def coreCtrTlpsPoisoned : Nat := obj 0x2802 0x03
/-- StuckCells, Table 6-7. -/
def coreCtrStuckCells : Nat := obj 0x2802 0x04
/-- LeaksReclaimed, Table 6-7. -/
def coreCtrLeaksReclaimed : Nat := obj 0x2802 0x05
/-- SweepsReconciled, Table 6-7. -/
def coreCtrSweepsReconciled : Nat := obj 0x2802 0x06
/-- ExpressPlacements, Table 6-7. -/
def coreCtrExpressPlacements : Nat := obj 0x2802 0x07
/-- PaddingPositions, Table 6-7. -/
def coreCtrPaddingPositions : Nat := obj 0x2802 0x08
/-- VoqOccupancy, Table 6-9, row r at +r. -/
def coreVoqOccupancy : Nat := obj 0x2803 0x01
/-- ReseqStatus, Table 6-9, row r at +r. -/
def coreReseqStatus : Nat := obj 0x2804 0x01
/-- S1Share, Table 7-2. -/
def egressS1Share (n : Nat) : Nat := obj (0x2900 + n) 0x01
/-- MemberConfig, Table 7-2, row r at +r. -/
def egressMemberConfig (n : Nat) : Nat := obj (0x2900 + n) 0x02
/-- PoliceRate, Table 7-2. -/
def egressPoliceRate (n : Nat) : Nat := obj (0x2900 + n) 0x03
/-- PoliceBurst, Table 7-2. -/
def egressPoliceBurst (n : Nat) : Nat := obj (0x2900 + n) 0x04
/-- PoliceTokens, Table 7-2. -/
def egressPoliceTokens (n : Nat) : Nat := obj (0x2900 + n) 0x05
/-- PolicedTime, Table 7-2. -/
def egressPolicedTime (n : Nat) : Nat := obj (0x2900 + n) 0x06
/-- MemberStatus, Table 7-2, row r at +r. -/
def egressMemberStatus (n : Nat) : Nat := obj (0x2900 + n) 0x07
/-- QueueStats, Table 7-2, row r at +r. -/
def egressQueueStats (n : Nat) : Nat := obj (0x2900 + n) 0x08
/-- VirtualTime, Table 7-2. -/
def egressVirtualTime (n : Nat) : Nat := obj (0x2900 + n) 0x09
/-- EgressCells, Table 7-2. -/
def egressEgressCells (n : Nat) : Nat := obj (0x2900 + n) 0x0A
/-- S1CapDeferrals, Table 7-2. -/
def egressS1CapDeferrals (n : Nat) : Nat := obj (0x2900 + n) 0x0B
/-- PromotedCells, Table 7-2. -/
def egressPromotedCells (n : Nat) : Nat := obj (0x2900 + n) 0x0C
/-- TenantEnable, Table 8-9. -/
def tenantEnable (n : Nat) : Nat := obj (0x3000 + n) 0x01
/-- PrimaryPort, Table 8-9. -/
def tenantPrimaryPort (n : Nat) : Nat := obj (0x3000 + n) 0x02
/-- AuxPorts, Table 8-9. -/
def tenantAuxPorts (n : Nat) : Nat := obj (0x3000 + n) 0x03
/-- TenantState, Table 8-9. -/
def tenantState (n : Nat) : Nat := obj (0x3000 + n) 0x04
/-- Generation, Table 8-9. -/
def tenantGeneration (n : Nat) : Nat := obj (0x3000 + n) 0x05
/-- ResetCount, Table 8-9. -/
def tenantResetCount (n : Nat) : Nat := obj (0x3000 + n) 0x06
/-- StaleCompletions, Table 8-9. -/
def tenantStaleCompletions (n : Nat) : Nat := obj (0x3000 + n) 0x07
/-- DiscardedRequests, Table 8-9. -/
def tenantDiscardedRequests (n : Nat) : Nat := obj (0x3000 + n) 0x08
/-- VppbTable, Table 8-9, row r at +r. -/
def tenantVppbTable (n : Nat) : Nat := obj (0x3000 + n) 0x09
/-- VppbStatus, Table 8-9, row r at +r. -/
def tenantVppbStatus (n : Nat) : Nat := obj (0x3000 + n) 0x0A
/-- ResetPropagate, Table 8-9. -/
def tenantResetPropagate (n : Nat) : Nat := obj (0x3000 + n) 0x0B
/-- TelemetryGrant, Table 8-9. -/
def tenantTelemetryGrant (n : Nat) : Nat := obj (0x3000 + n) 0x0C
/-- LastResetCause, Table 8-9. -/
def tenantLastResetCause (n : Nat) : Nat := obj (0x3000 + n) 0x0D
/-- LastResetAt, Table 8-9. -/
def tenantLastResetAt (n : Nat) : Nat := obj (0x3000 + n) 0x0E
/-- CleanupTime, Table 8-9. -/
def tenantCleanupTime (n : Nat) : Nat := obj (0x3000 + n) 0x0F
/-- VmdState, Table 8-3. -/
def vmdState (n : Nat) : Nat := obj (0x3100 + n) 0x01
/-- BindGeneration, Table 8-3. -/
def vmdBindGeneration (n : Nat) : Nat := obj (0x3100 + n) 0x02
/-- Capacity, Table 8-3. -/
def vmdCapacity (n : Nat) : Nat := obj (0x3100 + n) 0x03
/-- WindowCount, Table 8-3. -/
def vmdWindowCount (n : Nat) : Nat := obj (0x3100 + n) 0x04
/-- Descriptors, Table 8-3. -/
def vmdDescriptors (n : Nat) : Nat := obj (0x3100 + n) 0x05
/-- Regions, Table 8-3. -/
def vmdRegions (n : Nat) : Nat := obj (0x3100 + n) 0x06
/-- QueueShare, Table 8-3. -/
def vmdQueueShare (n : Nat) : Nat := obj (0x3100 + n) 0x07
/-- Outstanding, Table 8-3. -/
def vmdOutstanding (n : Nat) : Nat := obj (0x3100 + n) 0x08
/-- StaleCompletions, Table 8-3. -/
def vmdStaleCompletions (n : Nat) : Nat := obj (0x3100 + n) 0x09
/-- DecodersCommitted, Table 8-3. -/
def vmdDecodersCommitted (n : Nat) : Nat := obj (0x3100 + n) 0x0A
/-- PresentedSerial, Table 8-3. -/
def vmdPresentedSerial (n : Nat) : Nat := obj (0x3100 + n) 0x0B
/-- EntriesFree, Table 9-6. -/
def berylEntriesFree : Nat := obj 0x3800 0x01
/-- EntriesBound, Table 9-6. -/
def berylEntriesBound : Nat := obj 0x3800 0x02
/-- EntriesShared, Table 9-6. -/
def berylEntriesShared : Nat := obj 0x3800 0x03
/-- EntriesMigrating, Table 9-6. -/
def berylEntriesMigrating : Nat := obj 0x3800 0x04
/-- EntriesPoisoned, Table 9-6. -/
def berylEntriesPoisoned : Nat := obj 0x3800 0x05
/-- DescriptorsFree, Table 9-6. -/
def berylDescriptorsFree : Nat := obj 0x3800 0x06
/-- BackgroundQueue, Table 9-6. -/
def berylBackgroundQueue : Nat := obj 0x3800 0x07
/-- ScrubActive, Table 9-6. -/
def berylScrubActive : Nat := obj 0x3800 0x08
/-- EccCorrected, Table 9-6. -/
def berylEccCorrected : Nat := obj 0x3800 0x09
/-- MissRatioWarn, Table 9-6. -/
def berylMissRatioWarn : Nat := obj 0x3800 0x0A
/-- LargestFreeRun, Table 9-6. -/
def berylLargestFreeRun : Nat := obj 0x3800 0x0B
/-- PatchesArmed, Table 9-6. -/
def berylPatchesArmed : Nat := obj 0x3800 0x0C
/-- PoisonAnswers, Table 9-6. -/
def berylPoisonAnswers : Nat := obj 0x3800 0x0D
/-- EntryTable, Table 9-5, row r at +r. -/
def berylEntryTable : Nat := obj 0x3801 0x01
/-- DescriptorTable, Table 9-5, row r at +r. -/
def berylDescriptorTable : Nat := obj 0x3802 0x01
/-- RegionRunTable, Table 9-5, row r at +r. -/
def berylRegionRunTable : Nat := obj 0x3803 0x01
/-- DeviceInventory, Table 9-5, row r at +r. -/
def berylDeviceInventory : Nat := obj 0x3804 0x01
/-- CacheStats, Table 9-5, row r at +r. -/
def berylCacheStats : Nat := obj 0x3807 0x01
/-- EntriesInUse, Table 10-9. -/
def garnetEntriesInUse : Nat := obj 0x4000 0x01
/-- EntriesBusy, Table 10-9. -/
def garnetEntriesBusy : Nat := obj 0x4000 0x02
/-- QuotaDrawn, Table 10-9. -/
def garnetQuotaDrawn : Nat := obj 0x4000 0x03
/-- WaysRetired, Table 10-9. -/
def garnetWaysRetired : Nat := obj 0x4000 0x04
/-- SnoopWarn, Table 10-9. -/
def garnetSnoopWarn : Nat := obj 0x4000 0x05
/-- AcquireAllowance, Table 10-9. -/
def garnetAcquireAllowance : Nat := obj 0x4000 0x06
/-- ConflictHighWater, Table 10-9. -/
def garnetConflictHighWater : Nat := obj 0x4000 0x07
/-- EccCorrected, Table 10-9. -/
def garnetEccCorrected : Nat := obj 0x4000 0x08
/-- RefusedWrites, Table 10-9. -/
def garnetRefusedWrites : Nat := obj 0x4000 0x09
/-- AtomicLocksInUse, Table 10-9. -/
def garnetAtomicLocksInUse : Nat := obj 0x4000 0x0A
/-- HomeStats, Table 10-10, row r at +r. -/
def garnetHomeStats : Nat := obj 0x4013 0x01
/-- RegionState, Table 10-7. -/
def regionState (n : Nat) : Nat := obj (0x4100 + n) 0x01
/-- RegionQuota, Table 10-7. -/
def regionQuota (n : Nat) : Nat := obj (0x4100 + n) 0x02
/-- RegionClass, Table 10-7. -/
def regionClass (n : Nat) : Nat := obj (0x4100 + n) 0x03
/-- Writer, Table 10-7. -/
def regionWriter (n : Nat) : Nat := obj (0x4100 + n) 0x04
/-- GrantExclusive, Table 10-7. -/
def regionGrantExclusive (n : Nat) : Nat := obj (0x4100 + n) 0x05
/-- BlockSnoop, Table 10-7. -/
def regionBlockSnoop (n : Nat) : Nat := obj (0x4100 + n) 0x06
/-- ThrashThreshold, Table 10-7. -/
def regionThrashThreshold (n : Nat) : Nat := obj (0x4100 + n) 0x07
/-- Members, Table 10-7. -/
def regionMembers (n : Nat) : Nat := obj (0x4100 + n) 0x08
/-- Extents, Table 10-7. -/
def regionExtents (n : Nat) : Nat := obj (0x4100 + n) 0x09
/-- EntriesHeld, Table 10-7. -/
def regionEntriesHeld (n : Nat) : Nat := obj (0x4100 + n) 0x0A
/-- Borrowed, Table 10-7. -/
def regionBorrowed (n : Nat) : Nat := obj (0x4100 + n) 0x0B
/-- ReplacementsLastBeat, Table 10-7. -/
def regionReplacementsLastBeat (n : Nat) : Nat := obj (0x4100 + n) 0x0C
/-- SnoopsSent, Table 10-7. -/
def regionSnoopsSent (n : Nat) : Nat := obj (0x4100 + n) 0x0D
/-- EngineState, Table 11-4. -/
def engineState (n : Nat) : Nat := obj (0x4800 + n) 0x01
/-- CopyRate, Table 11-4. -/
def engineCopyRate (n : Nat) : Nat := obj (0x4800 + n) 0x02
/-- Job, Table 11-4. -/
def engineJob (n : Nat) : Nat := obj (0x4800 + n) 0x03
/-- ExtentIndex, Table 11-4. -/
def engineExtentIndex (n : Nat) : Nat := obj (0x4800 + n) 0x04
/-- ChunkOffset, Table 11-4. -/
def engineChunkOffset (n : Nat) : Nat := obj (0x4800 + n) 0x05
/-- ChunkSize, Table 11-4. -/
def engineChunkSize (n : Nat) : Nat := obj (0x4800 + n) 0x06
/-- RunningCrcA, Table 11-4. -/
def engineRunningCrcA (n : Nat) : Nat := obj (0x4800 + n) 0x07
/-- RunningCrcB, Table 11-4. -/
def engineRunningCrcB (n : Nat) : Nat := obj (0x4800 + n) 0x08
/-- ChunksVerified, Table 11-4. -/
def engineChunksVerified (n : Nat) : Nat := obj (0x4800 + n) 0x09
/-- ChunksAbandoned, Table 11-4. -/
def engineChunksAbandoned (n : Nat) : Nat := obj (0x4800 + n) 0x0A
/-- Mismatches, Table 11-4. -/
def engineMismatches (n : Nat) : Nat := obj (0x4800 + n) 0x0B
/-- DualWrites, Table 11-4. -/
def engineDualWrites (n : Nat) : Nat := obj (0x4800 + n) 0x0C
/-- LockWaits, Table 11-4. -/
def engineLockWaits (n : Nat) : Nat := obj (0x4800 + n) 0x0D
/-- LocksInUse, Table 11-4. -/
def engineLocksInUse (n : Nat) : Nat := obj (0x4800 + n) 0x0E
/-- PoisonedLinesCopied, Table 11-4. -/
def enginePoisonedLinesCopied (n : Nat) : Nat := obj (0x4800 + n) 0x0F
/-- BytesCopied, Table 11-4. -/
def engineBytesCopied (n : Nat) : Nat := obj (0x4800 + n) 0x10
/-- JobsPending, Table 11-5. -/
def jasperJobsPending : Nat := obj 0x4808 0x01
/-- JobsActive, Table 11-5. -/
def jasperJobsActive : Nat := obj 0x4808 0x02
/-- MismatchLimit, Table 11-5. -/
def jasperMismatchLimit : Nat := obj 0x4808 0x03
/-- JobsDone, Table 11-5. -/
def jasperJobsDone : Nat := obj 0x4808 0x04
/-- JobsFailed, Table 11-5. -/
def jasperJobsFailed : Nat := obj 0x4808 0x05
/-- PatchesWithdrawn, Table 11-5. -/
def jasperPatchesWithdrawn : Nat := obj 0x4808 0x06
/-- JobTable, Table 11-6, row r at +r. -/
def jasperJobTable : Nat := obj 0x4810 0x01
/-- FabricIdentity, Table 12-2. -/
def fabricFabricIdentity : Nat := obj 0x5000 0x01
/-- SwitchPid, Table 12-2. -/
def fabricSwitchPid : Nat := obj 0x5000 0x02
/-- HelloInterval, Table 12-2. -/
def fabricHelloInterval : Nat := obj 0x5000 0x03
/-- RoutingMode, Table 12-2. -/
def fabricRoutingMode : Nat := obj 0x5000 0x04
/-- RouteApplyDelay, Table 12-2. -/
def fabricRouteApplyDelay : Nat := obj 0x5000 0x05
/-- RerouteOn, Table 12-2. -/
def fabricRerouteOn : Nat := obj 0x5000 0x06
/-- SwitchesKnown, Table 12-2. -/
def fabricSwitchesKnown : Nat := obj 0x5000 0x07
/-- Diameter, Table 12-2. -/
def fabricDiameter : Nat := obj 0x5000 0x08
/-- RoutingRoot, Table 12-2. -/
def fabricRoutingRoot : Nat := obj 0x5000 0x09
/-- Unroutable, Table 12-2. -/
def fabricUnroutable : Nat := obj 0x5000 0x0A
/-- RoutesLate, Table 12-2. -/
def fabricRoutesLate : Nat := obj 0x5000 0x0B
/-- LastRouteApply, Table 12-2. -/
def fabricLastRouteApply : Nat := obj 0x5000 0x0C
/-- PidConflicts, Table 12-2. -/
def fabricPidConflicts : Nat := obj 0x5000 0x0D
/-- HelloLossCount, Table 12-2. -/
def fabricHelloLossCount : Nat := obj 0x5000 0x0E
/-- PortPids, R235, row r at +r. Log entry 13 (DEDUCED). -/
def fabricPortPids : Nat := obj 0x5002 0x01
/-- TopologySwitches, Table 12-4, row r at +r. -/
def fabricTopologySwitches : Nat := obj 0x5010 0x01
/-- TopologyLinks, Table 12-5, row r at +r. -/
def fabricTopologyLinks : Nat := obj 0x5011 0x01
/-- RoutingTable, Table 12-3, row r at +r. -/
def fabricRoutingTable : Nat := obj 0x5040 0x01
/-- UnitState, Table 13-8. -/
def acuUnitState (n : Nat) : Nat := obj (0x5800 + n) 0x01
/-- ActiveSet, Table 13-8. -/
def acuActiveSet (n : Nat) : Nat := obj (0x5800 + n) 0x02
/-- Epoch, Table 13-8. -/
def acuEpoch (n : Nat) : Nat := obj (0x5800 + n) 0x03
/-- RulesA, Table 13-8, row r at +r. -/
def acuRulesA (n : Nat) : Nat := obj (0x5800 + n) 0x04
/-- RulesB, Table 13-8, row r at +r. -/
def acuRulesB (n : Nat) : Nat := obj (0x5800 + n) 0x05
/-- Proposal, Table 13-8, row r at +r. -/
def acuProposal (n : Nat) : Nat := obj (0x5800 + n) 0x06
/-- Swap, Table 13-8. -/
def acuSwap (n : Nat) : Nat := obj (0x5800 + n) 0x07
/-- InFlightActive, Table 13-8. -/
def acuInFlightActive (n : Nat) : Nat := obj (0x5800 + n) 0x08
/-- InFlightPrevious, Table 13-8. -/
def acuInFlightPrevious (n : Nat) : Nat := obj (0x5800 + n) 0x09
/-- SettledAt, Table 13-8. -/
def acuSettledAt (n : Nat) : Nat := obj (0x5800 + n) 0x0A
/-- Refusals, Table 13-8. -/
def acuRefusals (n : Nat) : Nat := obj (0x5800 + n) 0x0B
/-- LastRefusal, Table 13-8. -/
def acuLastRefusal (n : Nat) : Nat := obj (0x5800 + n) 0x0C
/-- ProposalCheck, Table 13-8. -/
def acuProposalCheck (n : Nat) : Nat := obj (0x5800 + n) 0x0D
/-- BaseClass, Table 14-4. -/
def sourceBaseClass (n : Nat) : Nat := obj (0x6000 + n) 0x01
/-- EscalateCount, Table 14-4. -/
def sourceEscalateCount (n : Nat) : Nat := obj (0x6000 + n) 0x02
/-- EscalateWindow, Table 14-4. -/
def sourceEscalateWindow (n : Nat) : Nat := obj (0x6000 + n) 0x03
/-- Force, Table 14-4. -/
def sourceForce (n : Nat) : Nat := obj (0x6000 + n) 0x04
/-- Latch, Table 14-4. -/
def sourceLatch (n : Nat) : Nat := obj (0x6000 + n) 0x05
/-- Occurrences, Table 14-4. -/
def sourceOccurrences (n : Nat) : Nat := obj (0x6000 + n) 0x06
/-- WindowCount, Table 14-4. -/
def sourceWindowCount (n : Nat) : Nat := obj (0x6000 + n) 0x07
/-- WindowStart, Table 14-4. -/
def sourceWindowStart (n : Nat) : Nat := obj (0x6000 + n) 0x08
/-- LastAt, Table 14-4. -/
def sourceLastAt (n : Nat) : Nat := obj (0x6000 + n) 0x09
/-- RetireTarget, Table 14-4. -/
def sourceRetireTarget (n : Nat) : Nat := obj (0x6000 + n) 0x0A
/-- TargetRetired, Table 14-4. -/
def sourceTargetRetired (n : Nat) : Nat := obj (0x6000 + n) 0x0B
/-- StopsHeartbeat, Table 14-4. -/
def sourceStopsHeartbeat (n : Nat) : Nat := obj (0x6000 + n) 0x0C
/-- Escalations, Table 14-4. -/
def sourceEscalations (n : Nat) : Nat := obj (0x6000 + n) 0x0D
/-- SnapshotPeriod, Table 15-7. -/
def telSnapshotPeriod : Nat := obj 0x7000 0x01
/-- ShadowBeat, Table 15-7. -/
def telShadowBeat : Nat := obj 0x7000 0x02
/-- ShadowHeld, Table 15-7. -/
def telShadowHeld : Nat := obj 0x7000 0x03
/-- SampleMode, Table 15-7. -/
def telSampleMode : Nat := obj 0x7000 0x04
/-- SampleHead, Table 15-7. -/
def telSampleHead : Nat := obj 0x7000 0x05
/-- SampleTail, Table 15-7. -/
def telSampleTail : Nat := obj 0x7000 0x06
/-- SamplesDropped, Table 15-7. -/
def telSamplesDropped : Nat := obj 0x7000 0x07
/-- SamplesLost, Table 15-7. -/
def telSamplesLost : Nat := obj 0x7000 0x08
/-- RecordsAbandoned, Table 15-7. -/
def telRecordsAbandoned : Nat := obj 0x7000 0x09
/-- SamplerSeed, Table 15-7. -/
def telSamplerSeed : Nat := obj 0x7000 0x0A
/-- CounterConfig, Table 15-6, row r at +r. -/
def telCounterConfig : Nat := obj 0x7001 0x01
/-- CounterValues, Table 15-6, row r at +r. -/
def telCounterValues : Nat := obj 0x7002 0x01
/-- ShadowBank, Table 15-6, row r at +r. -/
def telShadowBank : Nat := obj 0x7003 0x01
/-- StreamConfig, Table 15-6, row r at +r. -/
def telStreamConfig : Nat := obj 0x7010 0x01
/-- SampleBuffer, Table 15-6, row r at +r. -/
def telSampleBuffer : Nat := obj 0x7011 0x01
/-- PowerRequest, Table 16-4. -/
def slotPowerRequest (n : Nat) : Nat := obj (0x7800 + n) 0x01
/-- ChannelState, Table 16-4. -/
def slotChannelState (n : Nat) : Nat := obj (0x7800 + n) 0x02
/-- InrushMode, Table 16-4. -/
def slotInrushMode (n : Nat) : Nat := obj (0x7800 + n) 0x03
/-- RampRate, Table 16-4. -/
def slotRampRate (n : Nat) : Nat := obj (0x7800 + n) 0x04
/-- LimitThreshold, Table 16-4. -/
def slotLimitThreshold (n : Nat) : Nat := obj (0x7800 + n) 0x05
/-- FastTripMultiple, Table 16-4. -/
def slotFastTripMultiple (n : Nat) : Nat := obj (0x7800 + n) 0x06
/-- FaultTime, Table 16-4. -/
def slotFaultTime (n : Nat) : Nat := obj (0x7800 + n) 0x07
/-- RetryLimit, Table 16-4. -/
def slotRetryLimit (n : Nat) : Nat := obj (0x7800 + n) 0x08
/-- PrechargeTimeout, Table 16-4. -/
def slotPrechargeTimeout (n : Nat) : Nat := obj (0x7800 + n) 0x09
/-- StartDelay, Table 16-4. -/
def slotStartDelay (n : Nat) : Nat := obj (0x7800 + n) 0x0A
/-- PgThreshold, Table 16-4. -/
def slotPgThreshold (n : Nat) : Nat := obj (0x7800 + n) 0x0B
/-- AssociatedPort, Table 16-4. -/
def slotAssociatedPort (n : Nat) : Nat := obj (0x7800 + n) 0x0C
/-- Presence, Table 16-4. -/
def slotPresence (n : Nat) : Nat := obj (0x7800 + n) 0x0D
/-- PowerGood, Table 16-4. -/
def slotPowerGood (n : Nat) : Nat := obj (0x7800 + n) 0x0E
/-- InputVoltage, Table 16-4. -/
def slotInputVoltage (n : Nat) : Nat := obj (0x7800 + n) 0x0F
/-- OutputVoltage, Table 16-4. -/
def slotOutputVoltage (n : Nat) : Nat := obj (0x7800 + n) 0x10
/-- SenseResistance, Table 16-4. -/
def slotSenseResistance (n : Nat) : Nat := obj (0x7800 + n) 0x11
/-- Current, Table 16-4. -/
def slotCurrent (n : Nat) : Nat := obj (0x7800 + n) 0x12
/-- FeedStatus, Table 16-4. -/
def slotFeedStatus (n : Nat) : Nat := obj (0x7800 + n) 0x13
/-- RetriesUsed, Table 16-4. -/
def slotRetriesUsed (n : Nat) : Nat := obj (0x7800 + n) 0x14
/-- TripCount, Table 16-4. -/
def slotTripCount (n : Nat) : Nat := obj (0x7800 + n) 0x15
/-- LastTripCause, Table 16-4. -/
def slotLastTripCause (n : Nat) : Nat := obj (0x7800 + n) 0x16
/-- InputLowCount, Table 16-4. -/
def slotInputLowCount (n : Nat) : Nat := obj (0x7800 + n) 0x17
/-- Phase, Table 17-7. -/
def startupPhase : Nat := obj 0x7F00 0x01
/-- HoldCause, Table 17-7. -/
def startupHoldCause : Nat := obj 0x7F00 0x02
/-- RunningImage, Table 17-7. -/
def startupRunningImage : Nat := obj 0x7F00 0x03
/-- ResetCause, Table 17-7. -/
def startupResetCause : Nat := obj 0x7F00 0x04
/-- ResetCount, Table 17-7. -/
def startupResetCount : Nat := obj 0x7F00 0x05
/-- StartupTime, Table 17-7. -/
def startupStartupTime : Nat := obj 0x7F00 0x06
/-- LogicBistResult, Table 17-7. -/
def startupLogicBistResult : Nat := obj 0x7F00 0x07
/-- MemoryFailures, Table 17-7. -/
def startupMemoryFailures : Nat := obj 0x7F00 0x08
/-- RepairsApplied, Table 17-7. -/
def startupRepairsApplied : Nat := obj 0x7F00 0x09
/-- AutoStart, Table 17-7. -/
def startupAutoStart : Nat := obj 0x7F00 0x0A
/-- FuseCorrected, Table 17-7. -/
def startupFuseCorrected : Nat := obj 0x7F00 0x0B
/-- BistResults, Table 17-4, row r at +r. -/
def startupBistResults : Nat := obj 0x7F01 0x01
/-- RepairList, R325, row r at +r. -/
def startupRepairList : Nat := obj 0x7F02 0x01
/-- FlashSlotA, R329, row r at +r. -/
def startupFlashSlotA : Nat := obj 0x7F10 0x01
/-- FlashSlotB, R329, row r at +r. -/
def startupFlashSlotB : Nat := obj 0x7F11 0x01
/-- SlotStatusA, R328. -/
def startupSlotStatusA : Nat := obj 0x7F14 0x01
/-- SlotStatusB, R328. -/
def startupSlotStatusB : Nat := obj 0x7F14 0x02
/-- PowerDown, Table 17-6. -/
def domainPowerDown (n : Nat) : Nat := obj (0x7F20 + n) 0x01
/-- DomainState, Table 17-6. -/
def domainState (n : Nat) : Nat := obj (0x7F20 + n) 0x02
/-- LastChange, Table 17-6. -/
def domainLastChange (n : Nat) : Nat := obj (0x7F20 + n) 0x03
/-- LastResult, Table 17-6. -/
def domainLastResult (n : Nat) : Nat := obj (0x7F20 + n) 0x04
/-- FailedInstance, Table 17-6. -/
def domainFailedInstance (n : Nat) : Nat := obj (0x7F20 + n) 0x05

end K

end Sys2Proof.Machine
end

