-- ==== Sys2Proof/Machine/Schema.lean ====
section
/-! DEFINITION. The object dictionary's description (R349, Table 19-1 and the tables it names): type, access,
privilege, default, persistence and range of every object, and the commands of Table 19-6. -/

namespace Sys2Proof.Machine

/-- Object types, Table 2-1. A TABLE row is `octets`. -/
inductive Ty where
  | bool | u (bytes : Nat) | i (bytes : Nat) | enum | beat | octets (n : Nat) | utf8 (n : Nat)
  deriving DecidableEq, Repr

/-- Access codes, Table 2-2, without CMD. -/
inductive Acc where
  | ro | rw | rwp | stg | wo
  deriving DecidableEq, Repr

/-- The values an object admits (R19). -/
inductive Dom where
  | any
  | range (lo hi : Nat)
  | signed (lo hi : Int)
  | enum (n : Nat)
  | oneOf (lo hi : Nat) (l : List Nat)
  | orNone (hi none : Nat)
  deriving DecidableEq, Repr

/-- One object: sub-index, rows (0 unless TABLE), type, access, privilege, persistence, default and range. -/
structure ObjInfo where
  sub : Nat
  rows : Nat
  ty : Ty
  acc : Acc
  priv : Priv
  p : Bool
  dflt : Nat
  dom : Dom
  deriving DecidableEq, Repr

/-- One index, or `count` consecutive indices of one layout, with its objects. -/
structure IndexInfo where
  base : Nat
  count : Nat
  objs : List ObjInfo
  deriving DecidableEq, Repr

/-- The size of a value of a type, in bytes. -/
def Ty.size : Ty → Nat
  | .bool => 1 | .u n => n | .i n => n | .enum => 1 | .beat => 8 | .octets n => n | .utf8 n => n

namespace Schema

/-- Index 0x1000. -/
def i1000 : IndexInfo := ⟨0x1000, 1, [
  ⟨0x01, 0, .utf8 32, .ro, .observer, false, 0x47756c616d61722053656d69636f6e647563746f72, .any⟩,
  ⟨0x02, 0, .utf8 16, .ro, .observer, false, 0x5a4e333834, .any⟩,
  ⟨0x03, 0, .u 2, .ro, .observer, false, 0x1F3C, .any⟩,
  ⟨0x04, 0, .u 2, .ro, .observer, false, 0x0384, .any⟩,
  ⟨0x05, 0, .u 1, .ro, .observer, false, 0xB0, .any⟩,
  ⟨0x06, 0, .utf8 16, .ro, .observer, false, 0x5a4e3338342d42302d4350, .any⟩,
  ⟨0x07, 0, .u 8, .ro, .observer, false, Config.fabricIdentity, .any⟩,
  ⟨0x08, 0, .enum, .ro, .observer, false, 3, .any⟩]⟩

/-- Index 0x1001. -/
def i1001 : IndexInfo := ⟨0x1001, 1, [
  ⟨0x01, 0, .u 4, .ro, .observer, false, 0, .any⟩,
  ⟨0x02, 0, .u 4, .ro, .observer, false, Config.bootVersion, .any⟩,
  ⟨0x03, 0, .u 4, .ro, .observer, false, 0, .any⟩,
  ⟨0x04, 0, .u 4, .ro, .observer, false, 0, .any⟩,
  ⟨0x05, 0, .u 4, .ro, .observer, false, 0, .any⟩]⟩

/-- Index 0x1002. -/
def i1002 : IndexInfo := ⟨0x1002, 1, [
  ⟨0x01, 0, .enum, .ro, .observer, false, 0, .any⟩,
  ⟨0x02, 0, .beat, .ro, .observer, false, 0, .any⟩,
  ⟨0x03, 0, .u 1, .ro, .observer, false, 0, .any⟩,
  ⟨0x04, 0, .u 8, .ro, .observer, false, 0, .any⟩]⟩

/-- Index 0x1003. -/
def i1003 : IndexInfo := ⟨0x1003, 1, [
  ⟨0x01, 0, .u 2, .ro, .observer, false, 408, .any⟩,
  ⟨0x02, 0, .u 1, .ro, .observer, false, 24, .any⟩,
  ⟨0x03, 0, .u 1, .ro, .observer, false, 48, .any⟩,
  ⟨0x04, 0, .u 1, .ro, .observer, false, 64, .any⟩,
  ⟨0x05, 0, .u 4, .ro, .observer, false, 96, .any⟩,
  ⟨0x06, 0, .u 4, .ro, .observer, false, 4194304, .any⟩,
  ⟨0x07, 0, .u 4, .ro, .observer, false, 2097152, .any⟩,
  ⟨0x08, 0, .u 1, .ro, .observer, false, 4, .any⟩,
  ⟨0x09, 0, .u 1, .ro, .observer, false, 32, .any⟩,
  ⟨0x0A, 0, .enum, .ro, .observer, false, 6, .any⟩,
  ⟨0x0B, 0, .u 2, .ro, .observer, false, 4096, .any⟩]⟩

/-- Index 0x1005. -/
def i1005 : IndexInfo := ⟨0x1005, 1, [
  ⟨0x01, 0, .enum, .ro, .observer, false, 0, .any⟩,
  ⟨0x02, 0, .bool, .ro, .observer, false, 0, .any⟩,
  ⟨0x03, 0, .enum, .ro, .observer, false, 0, .any⟩,
  ⟨0x04, 0, .u 1, .ro, .observer, false, 3, .any⟩]⟩

/-- Index 0x1006. -/
def i1006 : IndexInfo := ⟨0x1006, 1, [
  ⟨0x01, 0, .i 4, .ro, .observer, false, 0, .any⟩,
  ⟨0x02, 0, .u 1, .ro, .observer, false, 0, .any⟩,
  ⟨0x03, 0, .i 4, .ro, .observer, false, 0, .any⟩,
  ⟨0x04, 0, .octets 24, .ro, .observer, false, 0, .any⟩,
  ⟨0x05, 0, .bool, .ro, .observer, false, 0, .any⟩]⟩

/-- Index 0x1007. -/
def i1007 : IndexInfo := ⟨0x1007, 1, [
  ⟨0x01, 0, .u 2, .ro, .observer, false, Config.avsFused, .any⟩,
  ⟨0x02, 0, .u 2, .ro, .observer, false, 750, .any⟩,
  ⟨0x03, 0, .bool, .ro, .observer, false, 0, .any⟩,
  ⟨0x04, 0, .u 4, .ro, .observer, false, 0, .any⟩]⟩

/-- Index 0x1100. -/
def i1100 : IndexInfo := ⟨0x1100, 1, [
  ⟨0x01, 0, .u 2, .rwp, .owner, true, 48620, .any⟩,
  ⟨0x02, 0, .u 2, .rw, .owner, true, 30, .range 1 3600⟩,
  ⟨0x03, 0, .enum, .rwp, .owner, true, 0, .enum 3⟩,
  ⟨0x04, 0, .enum, .rwp, .owner, true, 0, .enum 3⟩,
  ⟨0x05, 0, .octets 16, .rwp, .owner, true, 0, .any⟩,
  ⟨0x06, 0, .u 1, .rwp, .owner, true, 64, .range 8 128⟩]⟩

/-- Index 0x1101. -/
def i1101 : IndexInfo := ⟨0x1101, 1, [
  ⟨0x01, 16, .octets 16, .ro, .observer, false, 0, .any⟩]⟩

/-- Index 0x1102. -/
def i1102 : IndexInfo := ⟨0x1102, 1, [
  ⟨0x01, 0, .u 8, .ro, .observer, false, 0, .any⟩,
  ⟨0x02, 0, .u 8, .ro, .observer, false, 0, .any⟩,
  ⟨0x03, 0, .u 8, .ro, .observer, false, 0, .any⟩,
  ⟨0x04, 0, .u 8, .ro, .observer, false, 0, .any⟩,
  ⟨0x05, 0, .u 8, .ro, .observer, false, 0, .any⟩]⟩

/-- Index 0x1111. -/
def i1111 : IndexInfo := ⟨0x1111, 1, [
  ⟨0x01, 16, .octets 2, .ro, .observer, true, 0, .any⟩]⟩

/-- Index 0x1120. -/
def i1120 : IndexInfo := ⟨0x1120, 1, [
  ⟨0x01, 0, .bool, .rwp, .owner, true, 0, .any⟩]⟩

/-- Index 0x1130. -/
def i1130 : IndexInfo := ⟨0x1130, 1, [
  ⟨0x01, 0, .enum, .rwp, .owner, true, 0, .enum 4⟩,
  ⟨0x02, 0, .u 1, .rwp, .owner, true, 0xFF, .orNone 95 255⟩,
  ⟨0x03, 0, .enum, .rwp, .owner, true, 2, .enum 4⟩,
  ⟨0x04, 0, .u 2, .rw, .owner, true, 0xFFFF, .orNone 4095 65535⟩,
  ⟨0x05, 0, .u 1, .rw, .owner, true, 0, .range 0 15⟩,
  ⟨0x06, 0, .u 1, .rw, .owner, false, 10, .range 8 12⟩,
  ⟨0x07, 0, .u 2, .rw, .owner, true, 8000, .range 1 65535⟩]⟩

/-- Index 0x1180. -/
def i1180 : IndexInfo := ⟨0x1180, 1, [
  ⟨0x01, 0, .u 4, .ro, .observer, false, 0, .any⟩,
  ⟨0x02, 0, .u 4, .ro, .observer, false, 0, .any⟩,
  ⟨0x03, 0, .u 2, .rw, .operator, true, 64, .range 1 1024⟩,
  ⟨0x04, 0, .u 8, .ro, .observer, false, 0, .any⟩,
  ⟨0x05, 0, .u 2, .ro, .observer, false, 0, .any⟩,
  ⟨0x06, 0, .octets 32, .ro, .observer, false, 0, .any⟩]⟩

/-- Index 0x1181. -/
def i1181 : IndexInfo := ⟨0x1181, 1, [
  ⟨0x01, 8192, .octets 32, .ro, .observer, false, 0, .any⟩]⟩

/-- Index 0x1182. -/
def i1182 : IndexInfo := ⟨0x1182, 1, [
  ⟨0x01, 128, .octets 4, .ro, .observer, false, 0, .any⟩]⟩

/-- Index 0x1202. -/
def i1202 : IndexInfo := ⟨0x1202, 1, [
  ⟨0x01, 0, .u 4, .ro, .observer, false, 0, .any⟩,
  ⟨0x02, 0, .u 4, .ro, .observer, false, 0, .any⟩,
  ⟨0x03, 0, .beat, .ro, .observer, false, 0, .any⟩,
  ⟨0x04, 0, .u 4, .ro, .observer, false, 0, .any⟩,
  ⟨0x05, 0, .enum, .ro, .observer, false, 0, .any⟩,
  ⟨0x06, 0, .u 4, .ro, .observer, false, 0, .any⟩]⟩

/-- Index 0x1400. -/
def i1400 : IndexInfo := ⟨0x1400, 1, [
  ⟨0x01, 0, .u 4, .rwp, .owner, true, 125000, .range 31250 1000000⟩,
  ⟨0x02, 0, .u 2, .rwp, .owner, true, 768, .range 512 896⟩,
  ⟨0x03, 0, .enum, .rwp, .owner, true, 0, .enum 3⟩,
  ⟨0x04, 0, .enum, .rw, .operator, true, 0, .enum 2⟩,
  ⟨0x05, 0, .bool, .rwp, .owner, true, 0, .any⟩,
  ⟨0x06, 0, .u 2, .rw, .owner, true, 8192, .range 0 8192⟩,
  ⟨0x07, 0, .u 2, .rw, .operator, true, 200, .range 20 2000⟩,
  ⟨0x08, 0, .bool, .rw, .operator, true, 1, .any⟩]⟩

/-- Index 0x1401. -/
def i1401 : IndexInfo := ⟨0x1401, 1, [
  ⟨0x01, 0, .beat, .ro, .observer, false, 0, .any⟩,
  ⟨0x02, 0, .enum, .ro, .observer, false, 0, .any⟩,
  ⟨0x03, 0, .enum, .ro, .observer, false, 0, .any⟩,
  ⟨0x04, 0, .u 1, .ro, .observer, false, 0xFF, .any⟩,
  ⟨0x05, 0, .u 4, .ro, .observer, false, 0, .any⟩,
  ⟨0x06, 0, .u 2, .ro, .observer, false, 0, .any⟩,
  ⟨0x07, 0, .u 4, .ro, .observer, false, 0, .any⟩,
  ⟨0x08, 0, .i 4, .ro, .observer, false, 0, .any⟩,
  ⟨0x09, 0, .u 8, .ro, .observer, false, 0, .any⟩]⟩

/-- Index 0x1404. -/
def i1404 : IndexInfo := ⟨0x1404, 1, [
  ⟨0x01, 96, .octets 4, .ro, .observer, false, 0, .any⟩]⟩

/-- Index 0x1410. -/
def i1410 : IndexInfo := ⟨0x1410, 1, [
  ⟨0x01, 0, .u 8, .ro, .observer, false, 0, .any⟩,
  ⟨0x02, 0, .u 8, .ro, .observer, false, 0, .any⟩,
  ⟨0x03, 0, .u 8, .ro, .observer, false, 0, .any⟩,
  ⟨0x04, 0, .u 8, .ro, .observer, false, 0, .any⟩,
  ⟨0x05, 0, .u 8, .ro, .observer, false, 0, .any⟩,
  ⟨0x06, 0, .u 8, .ro, .observer, false, 0, .any⟩,
  ⟨0x07, 0, .u 8, .ro, .observer, false, 0, .any⟩,
  ⟨0x08, 0, .u 8, .ro, .observer, false, 0, .any⟩]⟩

/-- Index 0x1423. -/
def i1423 : IndexInfo := ⟨0x1423, 1, [
  ⟨0x01, 0, .u 4, .ro, .observer, false, 0, .any⟩,
  ⟨0x02, 0, .beat, .ro, .observer, false, 0, .any⟩,
  ⟨0x03, 0, .enum, .ro, .observer, false, 0, .any⟩,
  ⟨0x04, 0, .enum, .ro, .observer, false, 0, .any⟩,
  ⟨0x05, 0, .beat, .ro, .observer, false, 0, .any⟩]⟩

/-- Index 0x1424. -/
def i1424 : IndexInfo := ⟨0x1424, 1, [
  ⟨0x01, 64, .octets 22, .ro, .observer, false, 0, .any⟩]⟩

/-- Index 0x1430. -/
def i1430 : IndexInfo := ⟨0x1430, 1, [
  ⟨0x01, 0, .enum, .ro, .observer, false, 0, .any⟩,
  ⟨0x02, 0, .u 2, .ro, .observer, false, 0xFFFF, .any⟩,
  ⟨0x03, 0, .beat, .ro, .observer, false, 0, .any⟩,
  ⟨0x04, 0, .bool, .rw, .owner, true, 1, .any⟩,
  ⟨0x05, 0, .bool, .rw, .owner, true, 1, .any⟩]⟩

/-- Index 0x2000 and the 407 after it. -/
def i2000 : IndexInfo := ⟨0x2000, 408, [
  ⟨0x01, 0, .enum, .ro, .observer, false, 0, .any⟩,
  ⟨0x02, 0, .u 2, .ro, .observer, false, 0, .any⟩,
  ⟨0x03, 0, .u 2, .ro, .observer, false, 0, .any⟩,
  ⟨0x04, 0, .beat, .ro, .observer, false, 0, .any⟩,
  ⟨0x05, 0, .u 4, .ro, .observer, false, 0, .any⟩,
  ⟨0x06, 0, .u 4, .ro, .observer, false, 0, .any⟩,
  ⟨0x07, 0, .bool, .ro, .observer, false, 0, .any⟩,
  ⟨0x08, 0, .octets 16, .ro, .observer, false, 0, .any⟩]⟩

/-- Index 0x2400 and the 47 after it. -/
def i2400 : IndexInfo := ⟨0x2400, 48, [
  ⟨0x01, 0, .enum, .stg, .owner, true, 1, .enum 3⟩]⟩

/-- Index 0x2500 and the 95 after it. -/
def i2500 : IndexInfo := ⟨0x2500, 96, [
  ⟨0x01, 0, .enum, .stg, .owner, true, 0, .enum 4⟩,
  ⟨0x02, 0, .enum, .stg, .owner, true, 1, .enum 3⟩,
  ⟨0x03, 0, .enum, .stg, .operator, true, 6, .enum 7⟩,
  ⟨0x04, 0, .u 1, .stg, .operator, true, 16, .oneOf 1 16 [1, 2, 4, 8, 16]⟩,
  ⟨0x05, 0, .enum, .rwp, .owner, true, 0, .enum 3⟩,
  ⟨0x06, 0, .u 4, .rw, .operator, true, 2000, .range 500 1000000⟩,
  ⟨0x07, 0, .bool, .rw, .owner, true, 0, .any⟩,
  ⟨0x08, 0, .u 2, .rw, .operator, true, 150, .range 20 500⟩,
  ⟨0x09, 0, .u 2, .rw, .operator, true, 12, .range 2 100⟩,
  ⟨0x0A, 0, .bool, .stg, .owner, true, 0, .any⟩,
  ⟨0x0B, 0, .enum, .ro, .observer, false, 0, .any⟩,
  ⟨0x0C, 0, .enum, .ro, .observer, false, 0, .any⟩,
  ⟨0x0D, 0, .u 1, .ro, .observer, false, 0, .any⟩,
  ⟨0x0E, 0, .enum, .ro, .observer, false, 0, .any⟩,
  ⟨0x0F, 0, .u 1, .ro, .observer, false, 0xFF, .any⟩,
  ⟨0x10, 0, .u 4, .ro, .observer, false, 0, .any⟩,
  ⟨0x11, 0, .bool, .stg, .operator, true, 0, .any⟩,
  ⟨0x12, 0, .u 4, .rw, .operator, true, 3000, .range 500 100000⟩,
  ⟨0x13, 0, .u 2, .rw, .operator, true, 2, .range 1 1024⟩,
  ⟨0x14, 0, .u 2, .ro, .observer, false, 0, .any⟩,
  ⟨0x15, 0, .u 4, .ro, .observer, false, 0, .any⟩,
  ⟨0x16, 0, .u 8, .ro, .observer, false, 0, .any⟩,
  ⟨0x17, 0, .u 4, .ro, .observer, false, 0, .any⟩,
  ⟨0x18, 0, .u 4, .ro, .observer, false, 0, .any⟩,
  ⟨0x19, 0, .u 4, .ro, .observer, false, 0, .any⟩,
  ⟨0x1A, 0, .u 4, .ro, .observer, false, 0, .any⟩,
  ⟨0x1B, 0, .u 8, .ro, .observer, false, 0, .any⟩,
  ⟨0x1C, 0, .u 4, .ro, .observer, false, 0, .any⟩,
  ⟨0x1D, 0, .u 4, .ro, .observer, false, 0, .any⟩,
  ⟨0x1E, 0, .beat, .ro, .observer, false, 0, .any⟩,
  ⟨0x1F, 0, .u 4, .ro, .observer, false, 0, .any⟩]⟩

/-- Index 0x2800. -/
def i2800 : IndexInfo := ⟨0x2800, 1, [
  ⟨0x01, 0, .i 4, .stg, .owner, true, 0, .signed (-3) 3⟩,
  ⟨0x02, 0, .i 4, .stg, .owner, true, 4294967295, .signed (-3) 3⟩,
  ⟨0x03, 0, .i 4, .stg, .owner, true, 1, .signed (-3) 3⟩,
  ⟨0x04, 0, .i 4, .stg, .owner, true, 1, .signed (-3) 3⟩,
  ⟨0x05, 0, .i 4, .stg, .owner, true, 2, .signed (-3) 3⟩,
  ⟨0x06, 0, .i 4, .stg, .owner, true, 2, .signed (-3) 3⟩,
  ⟨0x07, 0, .u 2, .ro, .observer, false, 640, .any⟩,
  ⟨0x08, 0, .u 2, .ro, .observer, false, 819, .any⟩,
  ⟨0x09, 0, .u 2, .rw, .operator, true, 800, .range 8 32767⟩,
  ⟨0x0A, 0, .bool, .stg, .owner, true, 1, .any⟩]⟩

/-- Index 0x2801. -/
def i2801 : IndexInfo := ⟨0x2801, 1, [
  ⟨0x01, 48, .octets 16, .ro, .observer, false, 0, .any⟩]⟩

/-- Index 0x2802. -/
def i2802 : IndexInfo := ⟨0x2802, 1, [
  ⟨0x01, 0, .u 4, .ro, .observer, false, 0, .any⟩,
  ⟨0x02, 0, .u 8, .ro, .observer, false, 0, .any⟩,
  ⟨0x03, 0, .u 4, .ro, .observer, false, 0, .any⟩,
  ⟨0x04, 0, .u 4, .ro, .observer, false, 0, .any⟩,
  ⟨0x05, 0, .u 4, .ro, .observer, false, 0, .any⟩,
  ⟨0x06, 0, .u 4, .ro, .observer, false, 0, .any⟩,
  ⟨0x07, 0, .u 8, .ro, .observer, false, 0, .any⟩,
  ⟨0x08, 0, .u 8, .ro, .observer, false, 0, .any⟩]⟩

/-- Index 0x2803. -/
def i2803 : IndexInfo := ⟨0x2803, 1, [
  ⟨0x01, 654, .octets 8, .ro, .observer, false, 0, .any⟩]⟩

/-- Index 0x2804. -/
def i2804 : IndexInfo := ⟨0x2804, 1, [
  ⟨0x01, 48, .octets 8, .ro, .observer, false, 0, .any⟩]⟩

/-- Index 0x2900 and the 95 after it. -/
def i2900 : IndexInfo := ⟨0x2900, 96, [
  ⟨0x01, 0, .u 1, .stg, .operator, true, 80, .range 50 100⟩,
  ⟨0x02, 65, .octets 16, .stg, .owner, true, 0x00100004000000000000000000000000, .any⟩,
  ⟨0x03, 0, .u 4, .stg, .owner, true, 0, .range 0 400000⟩,
  ⟨0x04, 0, .u 4, .stg, .owner, true, 0, .any⟩,
  ⟨0x05, 0, .i 4, .ro, .observer, false, 0, .any⟩,
  ⟨0x06, 0, .u 8, .ro, .observer, false, 0, .any⟩,
  ⟨0x07, 65, .octets 16, .ro, .observer, false, 0, .any⟩,
  ⟨0x08, 67, .octets 64, .ro, .observer, false, 0, .any⟩,
  ⟨0x09, 0, .u 4, .ro, .observer, false, 0, .any⟩,
  ⟨0x0A, 0, .u 2, .ro, .observer, false, 0, .any⟩,
  ⟨0x0B, 0, .u 8, .ro, .observer, false, 0, .any⟩,
  ⟨0x0C, 0, .u 8, .ro, .observer, false, 0, .any⟩]⟩

/-- Index 0x3000 and the 63 after it. -/
def i3000 : IndexInfo := ⟨0x3000, 64, [
  ⟨0x01, 0, .bool, .stg, .owner, true, 0, .any⟩,
  ⟨0x02, 0, .u 1, .stg, .owner, true, 0xFF, .orNone 95 255⟩,
  ⟨0x03, 0, .octets 3, .stg, .owner, true, 0xFFFFFF, .any⟩,
  ⟨0x04, 0, .enum, .ro, .observer, false, 0, .any⟩,
  ⟨0x05, 0, .u 2, .ro, .observer, false, 0, .any⟩,
  ⟨0x06, 0, .u 4, .ro, .observer, false, 0, .any⟩,
  ⟨0x07, 0, .u 8, .ro, .observer, false, 0, .any⟩,
  ⟨0x08, 0, .u 8, .ro, .observer, false, 0, .any⟩,
  ⟨0x09, 32, .octets 8, .stg, .owner, true, 0, .any⟩,
  ⟨0x0A, 32, .octets 8, .ro, .observer, false, 0, .any⟩,
  ⟨0x0B, 0, .bool, .rw, .owner, true, 1, .any⟩,
  ⟨0x0C, 0, .bool, .stg, .owner, true, 0, .any⟩,
  ⟨0x0D, 0, .enum, .ro, .observer, false, 0, .any⟩,
  ⟨0x0E, 0, .beat, .ro, .observer, false, 0, .any⟩,
  ⟨0x0F, 0, .u 4, .ro, .observer, false, 0, .any⟩]⟩

/-- Index 0x3100 and the 1023 after it. -/
def i3100 : IndexInfo := ⟨0x3100, 1024, [
  ⟨0x01, 0, .enum, .ro, .observer, false, 0, .any⟩,
  ⟨0x02, 0, .u 2, .ro, .observer, false, 0, .any⟩,
  ⟨0x03, 0, .u 8, .ro, .observer, false, 0, .any⟩,
  ⟨0x04, 0, .u 1, .ro, .observer, false, 0, .any⟩,
  ⟨0x05, 0, .octets 8, .ro, .observer, false, 0xFFFFFFFFFFFFFFFF, .any⟩,
  ⟨0x06, 0, .octets 8, .ro, .observer, false, 0xFFFFFFFFFFFFFFFF, .any⟩,
  ⟨0x07, 0, .u 4, .ro, .observer, false, 0, .any⟩,
  ⟨0x08, 0, .u 4, .ro, .observer, false, 0, .any⟩,
  ⟨0x09, 0, .u 8, .ro, .observer, false, 0, .any⟩,
  ⟨0x0A, 0, .u 4, .ro, .observer, false, 0, .any⟩,
  ⟨0x0B, 0, .u 8, .ro, .observer, false, 0, .any⟩]⟩

/-- Index 0x3800. -/
def i3800 : IndexInfo := ⟨0x3800, 1, [
  ⟨0x01, 0, .u 4, .ro, .observer, false, 4194304, .any⟩,
  ⟨0x02, 0, .u 4, .ro, .observer, false, 0, .any⟩,
  ⟨0x03, 0, .u 4, .ro, .observer, false, 0, .any⟩,
  ⟨0x04, 0, .u 4, .ro, .observer, false, 0, .any⟩,
  ⟨0x05, 0, .u 4, .ro, .observer, false, 0, .any⟩,
  ⟨0x06, 0, .u 2, .ro, .observer, false, 4096, .any⟩,
  ⟨0x07, 0, .u 4, .ro, .observer, false, 0, .any⟩,
  ⟨0x08, 0, .bool, .ro, .observer, false, 0, .any⟩,
  ⟨0x09, 0, .u 8, .ro, .observer, false, 0, .any⟩,
  ⟨0x0A, 0, .u 2, .rw, .operator, true, 150, .range 10 1000⟩,
  ⟨0x0B, 0, .u 4, .ro, .observer, false, 4194304, .any⟩,
  ⟨0x0C, 0, .u 2, .ro, .observer, false, 0, .any⟩,
  ⟨0x0D, 0, .u 8, .ro, .observer, false, 0, .any⟩]⟩

/-- Index 0x3801. -/
def i3801 : IndexInfo := ⟨0x3801, 1, [
  ⟨0x01, 4194304, .octets 8, .rw, .owner, false, 0, .any⟩]⟩

/-- Index 0x3802. -/
def i3802 : IndexInfo := ⟨0x3802, 1, [
  ⟨0x01, 4096, .octets 16, .stg, .owner, false, 2 ^ 98, .any⟩]⟩

/-- Index 0x3803. -/
def i3803 : IndexInfo := ⟨0x3803, 1, [
  ⟨0x01, 256, .octets 16, .stg, .owner, false, 2 ^ 98, .any⟩]⟩

/-- Index 0x3804. -/
def i3804 : IndexInfo := ⟨0x3804, 1, [
  ⟨0x01, 1024, .octets 16, .rw, .owner, true, 0, .any⟩]⟩

/-- Index 0x3807. -/
def i3807 : IndexInfo := ⟨0x3807, 1, [
  ⟨0x01, 48, .octets 16, .ro, .observer, false, 0, .any⟩]⟩

/-- Index 0x4000. -/
def i4000 : IndexInfo := ⟨0x4000, 1, [
  ⟨0x01, 0, .u 4, .ro, .observer, false, 0, .any⟩,
  ⟨0x02, 0, .u 4, .ro, .observer, false, 0, .any⟩,
  ⟨0x03, 0, .u 4, .ro, .observer, false, 0, .any⟩,
  ⟨0x04, 0, .u 2, .ro, .observer, false, 0, .any⟩,
  ⟨0x05, 0, .u 2, .rw, .operator, true, 80, .range 1 65535⟩,
  ⟨0x06, 0, .u 1, .ro, .observer, false, 10, .any⟩,
  ⟨0x07, 0, .u 2, .ro, .observer, false, 0, .any⟩,
  ⟨0x08, 0, .u 8, .ro, .observer, false, 0, .any⟩,
  ⟨0x09, 0, .u 8, .ro, .observer, false, 0, .any⟩,
  ⟨0x0A, 0, .u 2, .ro, .observer, false, 0, .any⟩]⟩

/-- Index 0x4013. -/
def i4013 : IndexInfo := ⟨0x4013, 1, [
  ⟨0x01, 8, .octets 32, .ro, .observer, false, 0, .any⟩]⟩

/-- Index 0x4100 and the 255 after it. -/
def i4100 : IndexInfo := ⟨0x4100, 256, [
  ⟨0x01, 0, .enum, .ro, .observer, false, 0, .any⟩,
  ⟨0x02, 0, .u 4, .stg, .owner, false, 65536, .range 128 2097152⟩,
  ⟨0x03, 0, .enum, .ro, .observer, false, 0, .any⟩,
  ⟨0x04, 0, .u 1, .stg, .owner, false, 0xFF, .range 0 63⟩,
  ⟨0x05, 0, .bool, .stg, .owner, false, 1, .any⟩,
  ⟨0x06, 0, .bool, .stg, .owner, false, 0, .any⟩,
  ⟨0x07, 0, .u 4, .rw, .operator, false, 16384, .range 1 2097152⟩,
  ⟨0x08, 0, .octets 8, .ro, .observer, false, 0, .any⟩,
  ⟨0x09, 0, .u 4, .ro, .observer, false, 0, .any⟩,
  ⟨0x0A, 0, .u 4, .ro, .observer, false, 0, .any⟩,
  ⟨0x0B, 0, .u 4, .ro, .observer, false, 0, .any⟩,
  ⟨0x0C, 0, .u 4, .ro, .observer, false, 0, .any⟩,
  ⟨0x0D, 0, .u 8, .ro, .observer, false, 0, .any⟩]⟩

/-- Index 0x4800 and the 3 after it. -/
def i4800 : IndexInfo := ⟨0x4800, 4, [
  ⟨0x01, 0, .enum, .ro, .observer, false, 0, .any⟩,
  ⟨0x02, 0, .u 4, .rw, .operator, true, 64000, .range 1000 64000⟩,
  ⟨0x03, 0, .u 2, .ro, .observer, false, 0xFFFF, .any⟩,
  ⟨0x04, 0, .u 4, .ro, .observer, false, 0, .any⟩,
  ⟨0x05, 0, .u 4, .ro, .observer, false, 0, .any⟩,
  ⟨0x06, 0, .u 4, .ro, .observer, false, 0, .any⟩,
  ⟨0x07, 0, .u 8, .ro, .observer, false, 0, .any⟩,
  ⟨0x08, 0, .u 8, .ro, .observer, false, 0, .any⟩,
  ⟨0x09, 0, .u 8, .ro, .observer, false, 0, .any⟩,
  ⟨0x0A, 0, .u 4, .ro, .observer, false, 0, .any⟩,
  ⟨0x0B, 0, .u 4, .ro, .observer, false, 0, .any⟩,
  ⟨0x0C, 0, .u 8, .ro, .observer, false, 0, .any⟩,
  ⟨0x0D, 0, .u 8, .ro, .observer, false, 0, .any⟩,
  ⟨0x0E, 0, .u 2, .ro, .observer, false, 0, .any⟩,
  ⟨0x0F, 0, .u 4, .ro, .observer, false, 0, .any⟩,
  ⟨0x10, 0, .u 8, .ro, .observer, false, 0, .any⟩]⟩

/-- Index 0x4808. -/
def i4808 : IndexInfo := ⟨0x4808, 1, [
  ⟨0x01, 0, .u 2, .ro, .observer, false, 0, .any⟩,
  ⟨0x02, 0, .u 2, .ro, .observer, false, 0, .any⟩,
  ⟨0x03, 0, .u 1, .rw, .operator, true, 4, .range 1 15⟩,
  ⟨0x04, 0, .u 8, .ro, .observer, false, 0, .any⟩,
  ⟨0x05, 0, .u 4, .ro, .observer, false, 0, .any⟩,
  ⟨0x06, 0, .u 4, .ro, .observer, false, 0, .any⟩]⟩

/-- Index 0x4810. -/
def i4810 : IndexInfo := ⟨0x4810, 1, [
  ⟨0x01, 1024, .octets 32, .ro, .observer, false, 0, .any⟩]⟩

/-- Index 0x5000. -/
def i5000 : IndexInfo := ⟨0x5000, 1, [
  ⟨0x01, 0, .u 8, .ro, .observer, false, Config.fabricIdentity, .any⟩,
  ⟨0x02, 0, .u 2, .rw, .owner, true, 0xFFFF, .orNone 4095 65535⟩,
  ⟨0x03, 0, .u 2, .rw, .operator, true, 8, .range 1 64⟩,
  ⟨0x04, 0, .enum, .stg, .owner, true, 0, .enum 2⟩,
  ⟨0x05, 0, .u 2, .rw, .owner, true, 8, .range 4 256⟩,
  ⟨0x06, 0, .enum, .rw, .owner, true, 0, .enum 2⟩,
  ⟨0x07, 0, .u 2, .ro, .observer, false, 1, .any⟩,
  ⟨0x08, 0, .u 1, .ro, .observer, false, 0, .any⟩,
  ⟨0x09, 0, .u 8, .ro, .observer, false, 0, .any⟩,
  ⟨0x0A, 0, .u 8, .ro, .observer, false, 0, .any⟩,
  ⟨0x0B, 0, .u 4, .ro, .observer, false, 0, .any⟩,
  ⟨0x0C, 0, .beat, .ro, .observer, false, 0, .any⟩,
  ⟨0x0D, 0, .u 2, .ro, .observer, false, 0, .any⟩,
  ⟨0x0E, 0, .u 1, .rw, .operator, true, 4, .range 2 16⟩]⟩

/-- Index 0x5002. -/
def i5002 : IndexInfo := ⟨0x5002, 1, [
  ⟨0x01, 96, .octets 4, .stg, .owner, true, 0x40000000, .any⟩]⟩

/-- Index 0x5010. -/
def i5010 : IndexInfo := ⟨0x5010, 1, [
  ⟨0x01, 256, .octets 32, .ro, .observer, false, 0, .any⟩]⟩

/-- Index 0x5011. -/
def i5011 : IndexInfo := ⟨0x5011, 1, [
  ⟨0x01, 24576, .octets 16, .ro, .observer, false, 0, .any⟩]⟩

/-- Index 0x5040. -/
def i5040 : IndexInfo := ⟨0x5040, 1, [
  ⟨0x01, 4096, .octets 16, .stg, .owner, false, 0, .any⟩]⟩

/-- Index 0x5800 and the 56 after it. -/
def i5800 : IndexInfo := ⟨0x5800, 57, [
  ⟨0x01, 0, .enum, .ro, .observer, false, 0, .any⟩,
  ⟨0x02, 0, .enum, .ro, .observer, false, 0, .any⟩,
  ⟨0x03, 0, .u 4, .ro, .observer, false, 0, .any⟩,
  ⟨0x04, 64, .octets 16, .rw, .secure, false, 0, .any⟩,
  ⟨0x05, 64, .octets 16, .rw, .secure, false, 0, .any⟩,
  ⟨0x06, 64, .octets 16, .stg, .owner, false, 0, .any⟩,
  ⟨0x07, 0, .bool, .stg, .owner, false, 0, .any⟩,
  ⟨0x08, 0, .u 4, .ro, .observer, false, 0, .any⟩,
  ⟨0x09, 0, .u 4, .ro, .observer, false, 0, .any⟩,
  ⟨0x0A, 0, .beat, .ro, .observer, false, 0, .any⟩,
  ⟨0x0B, 0, .u 8, .ro, .observer, false, 0, .any⟩,
  ⟨0x0C, 0, .octets 16, .ro, .observer, false, 0, .any⟩,
  ⟨0x0D, 0, .enum, .ro, .observer, false, 0, .any⟩]⟩

/-- Index 0x6000 and the 4095 after it. -/
def i6000 : IndexInfo := ⟨0x6000, 4096, [
  ⟨0x01, 0, .enum, .ro, .observer, false, 0, .any⟩,
  ⟨0x02, 0, .u 1, .rw, .operator, true, 1, .range 1 255⟩,
  ⟨0x03, 0, .u 2, .rw, .operator, true, 1, .range 1 65535⟩,
  ⟨0x04, 0, .u 1, .wo, .owner, false, 0, .oneOf 1 2 [1, 2]⟩,
  ⟨0x05, 0, .bool, .rw, .operator, false, 0, .range 0 0⟩,
  ⟨0x06, 0, .u 1, .rw, .operator, false, 0, .range 0 0⟩,
  ⟨0x07, 0, .u 1, .ro, .observer, false, 0, .any⟩,
  ⟨0x08, 0, .beat, .ro, .observer, false, 0, .any⟩,
  ⟨0x09, 0, .beat, .ro, .observer, false, 0, .any⟩,
  ⟨0x0A, 0, .octets 4, .ro, .observer, false, 0, .any⟩,
  ⟨0x0B, 0, .bool, .ro, .observer, false, 0, .any⟩,
  ⟨0x0C, 0, .bool, .rw, .owner, true, 0, .any⟩,
  ⟨0x0D, 0, .u 2, .ro, .observer, false, 0, .any⟩]⟩

/-- Index 0x7000. -/
def i7000 : IndexInfo := ⟨0x7000, 1, [
  ⟨0x01, 0, .u 2, .rw, .operator, true, 0, .any⟩,
  ⟨0x02, 0, .beat, .ro, .observer, false, 0, .any⟩,
  ⟨0x03, 0, .bool, .ro, .observer, false, 0, .any⟩,
  ⟨0x04, 0, .enum, .stg, .owner, true, 0, .enum 2⟩,
  ⟨0x05, 0, .u 4, .ro, .observer, false, 0, .any⟩,
  ⟨0x06, 0, .u 4, .rw, .operator, false, 0, .any⟩,
  ⟨0x07, 0, .u 8, .ro, .observer, false, 0, .any⟩,
  ⟨0x08, 0, .u 8, .ro, .observer, false, 0, .any⟩,
  ⟨0x09, 0, .u 8, .ro, .observer, false, 0, .any⟩,
  ⟨0x0A, 0, .u 4, .rwp, .owner, true, 0x00000001, .any⟩]⟩

/-- Index 0x7001. -/
def i7001 : IndexInfo := ⟨0x7001, 1, [
  ⟨0x01, 2048, .octets 8, .stg, .operator, true, 0x0020407E00000000, .any⟩]⟩

/-- Index 0x7002. -/
def i7002 : IndexInfo := ⟨0x7002, 1, [
  ⟨0x01, 2048, .octets 8, .ro, .observer, false, 0, .any⟩]⟩

/-- Index 0x7003. -/
def i7003 : IndexInfo := ⟨0x7003, 1, [
  ⟨0x01, 2048, .octets 8, .ro, .observer, false, 0, .any⟩]⟩

/-- Index 0x7010. -/
def i7010 : IndexInfo := ⟨0x7010, 1, [
  ⟨0x01, 16, .octets 8, .stg, .operator, true, 0x0204078000000000, .any⟩]⟩

/-- Index 0x7011. -/
def i7011 : IndexInfo := ⟨0x7011, 1, [
  ⟨0x01, 65536, .octets 32, .ro, .observer, false, 0, .any⟩]⟩

/-- Index 0x7800 and the 31 after it. -/
def i7800 : IndexInfo := ⟨0x7800, 32, [
  ⟨0x01, 0, .enum, .rw, .owner, true, 0, .enum 2⟩,
  ⟨0x02, 0, .enum, .ro, .observer, false, 0, .any⟩,
  ⟨0x03, 0, .enum, .rw, .owner, true, 1, .enum 2⟩,
  ⟨0x04, 0, .u 2, .rw, .owner, true, 10, .range 1 100⟩,
  ⟨0x05, 0, .u 1, .rw, .owner, true, 25, .range 10 50⟩,
  ⟨0x06, 0, .u 1, .rw, .owner, true, 3, .range 2 5⟩,
  ⟨0x07, 0, .u 2, .rw, .owner, true, 50, .range 1 200⟩,
  ⟨0x08, 0, .u 1, .rw, .owner, true, 3, .any⟩,
  ⟨0x09, 0, .u 2, .rw, .owner, true, 50, .range 1 1000⟩,
  ⟨0x0A, 0, .u 2, .rw, .owner, true, 0, .range 0 10000⟩,
  ⟨0x0B, 0, .u 1, .rw, .owner, true, 90, .range 80 97⟩,
  ⟨0x0C, 0, .u 1, .rw, .owner, true, 0xFF, .orNone 95 255⟩,
  ⟨0x0D, 0, .u 1, .ro, .observer, false, 0, .any⟩,
  ⟨0x0E, 0, .bool, .ro, .observer, false, 0, .any⟩,
  ⟨0x0F, 0, .u 2, .ro, .observer, false, 0, .any⟩,
  ⟨0x10, 0, .u 2, .ro, .observer, false, 0, .any⟩,
  ⟨0x11, 0, .u 2, .rw, .owner, true, 2000, .range 100 50000⟩,
  ⟨0x12, 0, .u 4, .ro, .observer, false, 0, .any⟩,
  ⟨0x13, 0, .u 1, .ro, .observer, false, 0, .any⟩,
  ⟨0x14, 0, .u 1, .ro, .observer, false, 0, .any⟩,
  ⟨0x15, 0, .u 4, .ro, .observer, false, 0, .any⟩,
  ⟨0x16, 0, .enum, .ro, .observer, false, 0, .any⟩,
  ⟨0x17, 0, .u 4, .ro, .observer, false, 0, .any⟩]⟩

/-- Index 0x7F00. -/
def i7F00 : IndexInfo := ⟨0x7F00, 1, [
  ⟨0x01, 0, .enum, .ro, .observer, false, 0, .any⟩,
  ⟨0x02, 0, .enum, .ro, .observer, false, 0, .any⟩,
  ⟨0x03, 0, .enum, .ro, .observer, false, 0, .any⟩,
  ⟨0x04, 0, .enum, .ro, .observer, false, 0, .any⟩,
  ⟨0x05, 0, .u 4, .ro, .observer, false, 0, .any⟩,
  ⟨0x06, 0, .u 4, .ro, .observer, false, 0, .any⟩,
  ⟨0x07, 0, .u 4, .ro, .observer, false, 0, .any⟩,
  ⟨0x08, 0, .u 2, .ro, .observer, false, 0, .any⟩,
  ⟨0x09, 0, .u 2, .ro, .observer, false, 0, .any⟩,
  ⟨0x0A, 0, .bool, .rwp, .owner, true, 0, .any⟩,
  ⟨0x0B, 0, .u 2, .ro, .observer, false, 0, .any⟩]⟩

/-- Index 0x7F01. -/
def i7F01 : IndexInfo := ⟨0x7F01, 1, [
  ⟨0x01, 1024, .octets 16, .ro, .observer, false, 0, .any⟩]⟩

/-- Index 0x7F02. -/
def i7F02 : IndexInfo := ⟨0x7F02, 1, [
  ⟨0x01, 1024, .octets 16, .ro, .observer, true, 0, .any⟩]⟩

/-- Index 0x7F10. -/
def i7F10 : IndexInfo := ⟨0x7F10, 1, [
  ⟨0x01, 16384, .octets 1024, .rw, .owner, false, 0, .any⟩]⟩

/-- Index 0x7F11. -/
def i7F11 : IndexInfo := ⟨0x7F11, 1, [
  ⟨0x01, 16384, .octets 1024, .rw, .owner, false, 0, .any⟩]⟩

/-- Index 0x7F14. -/
def i7F14 : IndexInfo := ⟨0x7F14, 1, [
  ⟨0x01, 0, .enum, .ro, .observer, false, 0, .any⟩,
  ⟨0x02, 0, .enum, .ro, .observer, false, 0, .any⟩]⟩

/-- Index 0x7F20 and the 23 after it. -/
def i7F20 : IndexInfo := ⟨0x7F20, 24, [
  ⟨0x01, 0, .bool, .stg, .owner, true, 0, .any⟩,
  ⟨0x02, 0, .enum, .ro, .observer, false, 0, .any⟩,
  ⟨0x03, 0, .beat, .ro, .observer, false, 0, .any⟩,
  ⟨0x04, 0, .enum, .ro, .observer, false, 0, .any⟩,
  ⟨0x05, 0, .u 2, .ro, .observer, false, 0xFFFF, .any⟩]⟩

/-- Every index that is not a command (Table 19-1). -/
def indices : List IndexInfo :=
  [i1000, i1001, i1002, i1003, i1005, i1006, i1007, i1100] ++
  [i1101, i1102, i1111, i1120, i1130, i1180, i1181, i1182] ++
  [i1202, i1400, i1401, i1404, i1410, i1423, i1424, i1430] ++
  [i2000, i2400, i2500, i2800, i2801, i2802, i2803, i2804] ++
  [i2900, i3000, i3100, i3800, i3801, i3802, i3803, i3804] ++
  [i3807, i4000, i4013, i4100, i4800, i4808, i4810, i5000] ++
  [i5002, i5010, i5011, i5040, i5800, i6000, i7000, i7001] ++
  [i7002, i7003, i7010, i7011, i7800, i7F00, i7F01, i7F02] ++
  [i7F10, i7F11, i7F14, i7F20]

end Schema
/-- A command of Table 19-6: its index, privilege, the states that admit it, the bounds of its argument block in bytes,
and the sizes of its results. -/
structure CmdInfo where
  index : Nat
  priv : Priv
  preop : Bool
  oper : Bool
  safe : Bool
  argMin : Nat
  argMax : Nat
  results : List Nat
  deriving DecidableEq, Repr

/-- Table 19-6. -/
def Schema.cmds : List CmdInfo :=
  [
  ⟨0x1004, .owner, true, true, true, 1, 1, []⟩,
  ⟨0x1110, .owner, true, true, false, 34, 34, []⟩,
  ⟨0x1183, .operator, true, true, true, 4, 4, []⟩,
  ⟨0x1200, .owner, true, true, true, 0, 0, []⟩,
  ⟨0x1201, .owner, true, false, false, 0, 0, []⟩,
  ⟨0x1300, .operator, true, true, false, 32, 32, [8, 8]⟩,
  ⟨0x1301, .operator, true, true, true, 17, 1040, [8, 8]⟩,
  ⟨0x1402, .owner, true, true, true, 0, 0, [8, 8]⟩,
  ⟨0x1420, .owner, false, true, false, 12, 12, []⟩,
  ⟨0x1421, .owner, false, true, false, 0, 0, []⟩,
  ⟨0x1422, .owner, false, true, true, 4, 4, []⟩,
  ⟨0x2560, .owner, false, true, false, 1, 1, []⟩,
  ⟨0x3040, .owner, false, true, false, 1, 1, []⟩,
  ⟨0x3041, .operator, false, true, false, 2, 2, []⟩,
  ⟨0x3500, .owner, true, true, false, 40, 40, []⟩] ++ [
  ⟨0x3501, .owner, true, true, false, 2, 2, []⟩,
  ⟨0x3805, .owner, true, true, false, 16, 16, [4]⟩,
  ⟨0x3806, .owner, true, true, false, 12, 12, []⟩,
  ⟨0x4010, .owner, true, true, false, 16, 16, []⟩,
  ⟨0x4011, .owner, true, true, false, 1, 1, []⟩,
  ⟨0x4012, .operator, false, true, false, 2, 2, [4]⟩,
  ⟨0x4820, .owner, true, true, false, 16, 16, [2]⟩,
  ⟨0x4821, .owner, true, true, false, 2, 2, []⟩,
  ⟨0x5020, .owner, true, true, false, 10, 10, []⟩,
  ⟨0x5041, .observer, true, true, true, 6, 6, [1, 1]⟩,
  ⟨0x7004, .operator, false, true, false, 8, 8, [8]⟩,
  ⟨0x7005, .operator, true, true, true, 0, 0, []⟩,
  ⟨0x7F03, .owner, true, false, false, 0, 0, []⟩,
  ⟨0x7F12, .owner, true, true, true, 1, 1, [1, 4]⟩,
  ⟨0x7F13, .owner, true, true, false, 1, 1, []⟩]

/-- The description of a command object. -/
def Schema.cmd (i : Nat) : Option CmdInfo := Schema.cmds.find? (fun c => c.index = i)

/-- The description of an index that is no command. -/
def Schema.index (i : Nat) : Option IndexInfo := Schema.indices.find? (fun d => d.base ≤ i && i < d.base + d.count)

/-- The description of an object. -/
def Schema.find (i s : Nat) : Option ObjInfo :=
  match Schema.index i with
  | none => none
  | some d => d.objs.find? (fun o => o.sub = s)

/-- What the object of a key reads as while nothing has changed it (Tables of 19). Log entry 5 (DESIGN CHOICE). -/
def Schema.default (k : Nat) : Nat :=
  match Schema.find (objIndex k) (objSub k) with
  | none => 0
  | some o => o.dflt

/-- The number of bits of a value of the object of a key, 64 where there is none. -/
def Schema.width (k : Nat) : Nat :=
  match Schema.find (objIndex k) (objSub k) with
  | none => 64
  | some o => 8 * o.ty.size

/-- The highest sub-index in use, which sub-index 0x00 reads as. -/
def Schema.highest (i : Nat) : Option Nat :=
  match Schema.cmd i with
  | some c => some (4 + c.results.length)
  | none => (Schema.index i).map (fun d => maxOf (d.objs.map (·.sub)))

end Sys2Proof.Machine
end

