-- ==== Sys2Proof/Machine/Sources.lean ====
section
/-! DEFINITION. The source map (R265, Tables 14-1 and 14-2): the number, base class, retire target and default
escalation of every event source. -/

namespace Sys2Proof.Machine

/-- Base classes in the order of Table 14-4. -/
inductive SrcClass where
  | unused | note | transient | severe | fatal
  deriving DecidableEq, Repr

/-- Retire targets of Table 14-2. The row of an SRAM row and the set of a Garnet way come with the occurrence. -/
inductive SrcTarget where
  | none | lane (n : Nat) | port (p : Nat) | slot (c : Nat) | garnetWay (home way : Nat) | sramRow | engine (n : Nat)
  deriving DecidableEq, Repr

/-- A row of Table 14-2. -/
structure SrcInfo where
  cls : SrcClass
  target : SrcTarget := .none
  n : Nat := 1
  w : Nat := 1
  deriving DecidableEq, Repr

namespace Src

/-- Device-wide source k. -/
def device (k : Nat) : Nat := k
/-- Missed work, counter `0x1410.0j`. -/
def missed (j : Nat) : Nat := 0x07 + j
/-- Source k of Beryl bank b. -/
def bank (b k : Nat) : Nat := 0x080 + 4 * b + k
/-- Source k of home slice h. -/
def home (h k : Nat) : Nat := 0x100 + 32 * h + k
/-- The thrash source of region r. -/
def region (r : Nat) : Nat := 0x200 + r
/-- Source k of port p. -/
def port (p k : Nat) : Nat := 0x300 + 8 * p + k
/-- Source k of slice s. -/
def slice (s k : Nat) : Nat := 0x600 + 16 * s + k
/-- Source k of middle pool m. -/
def pool (m k : Nat) : Nat := 0x900 + 8 * m + k
/-- Source k of slot channel c. -/
def slot (c k : Nat) : Nat := 0xA80 + 8 * c + k
/-- Source k of engine n. -/
def engine (n k : Nat) : Nat := 0xB80 + 8 * n + k
/-- Source k of the atomic engine. -/
def atomic (k : Nat) : Nat := 0xBA0 + k
/-- Source k of access-control unit u. -/
def acu (u k : Nat) : Nat := 0xBB0 + 4 * u + k
/-- Source k of lane n. -/
def lane (n k : Nat) : Nat := 0xCD0 + 2 * n + k

/-- Mesh integrity. -/
def meshInfo : SrcInfo := { cls := .transient, n := 16, w := 8000 }
/-- An SRAM-row source. -/
def rowInfo : SrcInfo := { cls := .transient, target := .sramRow, n := 8, w := 8000 }
/-- A source that only records. -/
def noteInfo : SrcInfo := { cls := .note }
/-- A FATAL source. -/
def fatalInfo : SrcInfo := { cls := .fatal }
/-- A number that Table 14-2 does not assign. -/
def unusedInfo : SrcInfo := { cls := .unused }

/-- Device-wide sources. -/
def deviceInfo (k : Nat) : SrcInfo :=
  if k = 0x01 || k = 0x02 then fatalInfo
  else if k = 0x04 || k = 0x10 then { cls := .severe }
  else if k = 0x0B then unusedInfo
  else if k ≤ 0x17 then noteInfo
  else if k ≤ 0x27 then (if k % 2 = 0 then meshInfo else fatalInfo)
  else if k = 0x28 || k = 0x29 then rowInfo
  else unusedInfo

/-- Sources of a Beryl bank. -/
def bankInfo (k : Nat) : SrcInfo :=
  if k = 0 then rowInfo else if k = 1 then meshInfo else if k = 2 then fatalInfo else unusedInfo

/-- Sources of a home slice. -/
def homeInfo (h k : Nat) : SrcInfo :=
  if k ≤ 15 then { cls := .transient, target := .garnetWay h k, n := 4, w := 65535 }
  else if k = 16 then fatalInfo
  else if k = 17 || k = 18 then noteInfo
  else if k = 19 then meshInfo
  else if k = 20 then fatalInfo
  else if k = 21 then rowInfo
  else if k = 22 then fatalInfo
  else if k = 23 then rowInfo
  else unusedInfo

/-- Sources of a port. -/
def portInfo (p k : Nat) : SrcInfo :=
  let tr (n w : Nat) : SrcInfo := { cls := .transient, target := .port p, n := n, w := w }
  if k = 0 then tr 8 8000 else if k = 1 then tr 3 512 else if k = 2 then tr 4 8000
  else if k = 3 then tr 2 8000 else if k = 4 then tr 4 8000
  else if k ≤ 6 then noteInfo else unusedInfo

/-- Sources of a slice. -/
def sliceInfo (k : Nat) : SrcInfo :=
  if k = 0 then meshInfo else if k = 1 then fatalInfo
  else if k = 2 || k = 3 then noteInfo
  else if k = 4 then fatalInfo else if k = 5 then rowInfo
  else if k = 6 then fatalInfo else if k ≤ 11 then rowInfo else unusedInfo

/-- Sources of a middle pool. -/
def poolInfo (k : Nat) : SrcInfo :=
  if k = 0 || k = 2 then noteInfo else if k = 1 then fatalInfo else if k = 3 then { cls := .severe }
  else if k ≤ 5 then rowInfo else unusedInfo

/-- Sources of a slot channel. -/
def slotInfo (c k : Nat) : SrcInfo :=
  if 3 ≤ k && k ≤ 5 then { cls := .severe, target := .slot c } else noteInfo

/-- Sources of an engine. -/
def engineInfo (n k : Nat) : SrcInfo :=
  if k = 0 then { cls := .transient, target := .engine n, n := 8, w := 64 }
  else if k = 1 then { cls := .transient, target := .engine n, n := 8, w := 1024 }
  else if k = 2 then noteInfo
  else if k = 3 then meshInfo else if k = 4 || k = 5 then fatalInfo
  else if k = 6 then rowInfo else unusedInfo

/-- Sources of the atomic engine. -/
def atomicInfo (k : Nat) : SrcInfo :=
  if k = 0 then meshInfo else if k = 1 || k = 2 then fatalInfo
  else if k = 3 || k = 4 then rowInfo else unusedInfo

/-- Sources of an access-control unit. -/
def acuInfo (u k : Nat) : SrcInfo :=
  if k = 0 || k = 2 then noteInfo else if k = 1 && 48 ≤ u then noteInfo else unusedInfo

/-- Sources of a lane. -/
def laneInfo (n k : Nat) : SrcInfo :=
  if k = 0 then { cls := .transient, target := .lane n, n := 4, w := 64 }
  else { cls := .transient, target := .lane n, n := 16, w := 8000 }

/-- Table 14-1 with Table 14-2. -/
def info (s : Nat) : SrcInfo :=
  if s < 0x080 then deviceInfo s
  else if s < 0x100 then bankInfo ((s - 0x080) % 4)
  else if s < 0x200 then homeInfo ((s - 0x100) / 32) ((s - 0x100) % 32)
  else if s < 0x300 then noteInfo
  else if s < 0x600 then portInfo ((s - 0x300) / 8) ((s - 0x300) % 8)
  else if s < 0x900 then sliceInfo ((s - 0x600) % 16)
  else if s < 0xA80 then poolInfo ((s - 0x900) % 8)
  else if s < 0xB80 then slotInfo ((s - 0xA80) / 8) ((s - 0xA80) % 8)
  else if s < 0xBA0 then engineInfo ((s - 0xB80) / 8) ((s - 0xB80) % 8)
  else if s < 0xBA8 then atomicInfo (s - 0xBA0)
  else if s < 0xBB0 then unusedInfo
  else if s < 0xC94 then acuInfo ((s - 0xBB0) / 4) ((s - 0xBB0) % 4)
  else if s < 0xCD0 then unusedInfo
  else if s ≤ 0xFFF then laneInfo ((s - 0xCD0) / 2) ((s - 0xCD0) % 2)
  else unusedInfo

/-- The port whose source this is. -/
def portOf (s : Nat) : Option Nat := if 0x300 ≤ s && s < 0x600 then some ((s - 0x300) / 8) else none

end Src

/-- The default of an object, with Table 14-2's N and W for the escalation objects of a source. -/
def defaultOf (k : Nat) : Nat :=
  let i := objIndex k
  if 0x6000 ≤ i && i < 0x7000 then
    let s := Src.info (i - 0x6000)
    if objSub k = 0x01 then
      match s.cls with
      | .unused => 0 | .note => 1 | .transient => 2 | .severe => 3 | .fatal => 4
    else if objSub k = 0x02 then s.n
    else if objSub k = 0x03 then s.w
    else Schema.default k
  else Schema.default k

end Sys2Proof.Machine
end

