-- ==== Sys2Proof/Machine/Crc.lean ====
section
/-! DEFINITION. The check-value units: CRC-32C (R30), CRC-64/ECMA-182 (R216), CRC-32 (R327) and CRC-16/CCITT (R48). -/

namespace Sys2Proof

/-- One bit step of a reflected CRC whose reflected polynomial is `poly`. -/
def crcBitR (poly r : Nat) : Nat := if r % 2 = 1 then (r / 2) ^^^ poly else r / 2

/-- One byte of a reflected CRC. -/
def crcByteR (poly r b : Nat) : Nat :=
  let f := crcBitR poly
  f (f (f (f (f (f (f (f (r ^^^ b))))))))

/-- One bit step of a CRC of width w that is not reflected. -/
def crcBitL (w poly r : Nat) : Nat :=
  let d := (r * 2) % 2 ^ w
  if r.testBit (w - 1) then d ^^^ poly else d

/-- One byte of a CRC of width w that is not reflected. -/
def crcByteL (w poly r b : Nat) : Nat :=
  let f := crcBitL w poly
  f (f (f (f (f (f (f (f (r ^^^ (b <<< (w - 8))))))))))

/-- The running value of CRC-32C after the bytes, polynomial 0x1EDC_6F41 reflected (R30). -/
def crc32cRun (r : Nat) (l : List Byte) : Nat := l.foldl (crcByteR 0x82F63B78) r

/-- CRC-32C (R30). -/
def crc32c (l : List Byte) : Nat := crc32cRun 0xFFFFFFFF l ^^^ 0xFFFFFFFF

/-- The running value of CRC-32 after the bytes, polynomial 0x04C1_1DB7 reflected (R327). -/
def crc32Run (r : Nat) (l : List Byte) : Nat := l.foldl (crcByteR 0xEDB88320) r

/-- CRC-32 (R327). -/
def crc32 (l : List Byte) : Nat := crc32Run 0xFFFFFFFF l ^^^ 0xFFFFFFFF

/-- The running value of CRC-64/ECMA-182 after the bytes (R216). -/
def crc64Run (r : Nat) (l : List Byte) : Nat := l.foldl (crcByteL 64 0x42F0E1EBA9EA3693) r

/-- The running value of CRC-16/CCITT after the bytes (R48). -/
def crc16Run (r : Nat) (l : List Byte) : Nat := l.foldl (crcByteL 16 0x1021) r

/-- CRC-8 with polynomial 0x07 of a cell header (R102). -/
def crc8 (l : List Byte) : Nat := l.foldl (crcByteL 8 0x07) 0

end Sys2Proof
end

