-- ==== Sys2Proof/Machine/Sha.lean ====
section
/-! DEFINITION. SHA-256 (FIPS 180-4) and HMAC-SHA-256 (RFC 2104), which JDP uses for its proofs, session keys and
tags (R31, Table 2-7). -/

namespace Sys2Proof

/-- The round constants of FIPS 180-4. -/
def shaK : List Nat :=
  [0x428A2F98, 0x71374491, 0xB5C0FBCF, 0xE9B5DBA5, 0x3956C25B, 0x59F111F1, 0x923F82A4, 0xAB1C5ED5] ++
  [0xD807AA98, 0x12835B01, 0x243185BE, 0x550C7DC3, 0x72BE5D74, 0x80DEB1FE, 0x9BDC06A7, 0xC19BF174] ++
  [0xE49B69C1, 0xEFBE4786, 0x0FC19DC6, 0x240CA1CC, 0x2DE92C6F, 0x4A7484AA, 0x5CB0A9DC, 0x76F988DA] ++
  [0x983E5152, 0xA831C66D, 0xB00327C8, 0xBF597FC7, 0xC6E00BF3, 0xD5A79147, 0x06CA6351, 0x14292967] ++
  [0x27B70A85, 0x2E1B2138, 0x4D2C6DFC, 0x53380D13, 0x650A7354, 0x766A0ABB, 0x81C2C92E, 0x92722C85] ++
  [0xA2BFE8A1, 0xA81A664B, 0xC24B8B70, 0xC76C51A3, 0xD192E819, 0xD6990624, 0xF40E3585, 0x106AA070] ++
  [0x19A4C116, 0x1E376C08, 0x2748774C, 0x34B0BCB5, 0x391C0CB3, 0x4ED8AA4A, 0x5B9CCA4F, 0x682E6FF3] ++
  [0x748F82EE, 0x78A5636F, 0x84C87814, 0x8CC70208, 0x90BEFFFA, 0xA4506CEB, 0xBEF9A3F7, 0xC67178F2]

/-- Rotation of a 32-bit word to the right. -/
def rotr (n x : Nat) : Nat := (x >>> n) ||| ((x <<< (32 - n)) % 4294967296)

/-- The eight working words. -/
structure ShaWords where
  a : Nat
  b : Nat
  c : Nat
  d : Nat
  e : Nat
  f : Nat
  g : Nat
  h : Nat
  deriving DecidableEq, Repr

/-- The initial hash value. -/
def shaInit : ShaWords :=
  ⟨0x6A09E667, 0xBB67AE85, 0x3C6EF372, 0xA54FF53A, 0x510E527F, 0x9B05688C, 0x1F83D9AB, 0x5BE0CD19⟩

/-- One round, with its constant and its schedule word. -/
def shaRound (s : ShaWords) (k w : Nat) : ShaWords :=
  let s1 := rotr 6 s.e ^^^ rotr 11 s.e ^^^ rotr 25 s.e
  let ch := (s.e &&& s.f) ^^^ ((s.e ^^^ 0xFFFFFFFF) &&& s.g)
  let t1 := s.h + s1 + ch + k + w
  let s0 := rotr 2 s.a ^^^ rotr 13 s.a ^^^ rotr 22 s.a
  let maj := (s.a &&& s.b) ^^^ (s.a &&& s.c) ^^^ (s.b &&& s.c)
  ⟨(t1 + s0 + maj) % 4294967296, s.a, s.b, s.c, (s.d + t1) % 4294967296, s.e, s.f, s.g⟩

/-- The rounds of one block: the sixteen latest schedule words are kept, and each round appends the next one. -/
def shaRounds : List Nat → ShaWords → List Nat → ShaWords
  | [], s, _ => s
  | k :: ks, s, ws =>
    match ws with
    | [] => s
    | w :: t =>
      let w1 := t.getD 0 0
      let w14 := t.getD 13 0
      let n := ((rotr 17 w14 ^^^ rotr 19 w14 ^^^ (w14 >>> 10)) + t.getD 8 0
        + (rotr 7 w1 ^^^ rotr 18 w1 ^^^ (w1 >>> 3)) + w) % 4294967296
      shaRounds ks (shaRound s k w) (t ++ [n])

/-- One 64-byte block. -/
def shaBlock (h : ShaWords) (blk : List Byte) : ShaWords :=
  let r := shaRounds shaK h ((pieces 4 16 blk).map ofBytes)
  ⟨(h.a + r.a) % 4294967296, (h.b + r.b) % 4294967296, (h.c + r.c) % 4294967296, (h.d + r.d) % 4294967296,
   (h.e + r.e) % 4294967296, (h.f + r.f) % 4294967296, (h.g + r.g) % 4294967296, (h.h + r.h) % 4294967296⟩

/-- The padded message. -/
def shaPad (l : List Byte) : List Byte :=
  l ++ [128] ++ List.replicate ((119 - l.length % 64) % 64) 0 ++ toBytes 8 (8 * l.length)

/-- SHA-256: 32 bytes. -/
def sha256 (l : List Byte) : List Byte :=
  let p := shaPad l
  let r := (pieces 64 p.length p).foldl shaBlock shaInit
  [r.a, r.b, r.c, r.d, r.e, r.f, r.g, r.h].flatMap (toBytes 4)

/-- HMAC-SHA-256 under a key of at most 64 bytes. -/
def hmac (key msg : List Byte) : List Byte :=
  let k := key ++ List.replicate (64 - key.length) 0
  sha256 (k.map (· ^^^ 0x5C) ++ sha256 (k.map (· ^^^ 0x36) ++ msg))

end Sys2Proof
end

