-- ==== Sys2Proof/Machine/State.lean ====
section
/-! DEFINITION. The machine's state: plain data, every piece the spec gives the block, and its reset value. The
dictionary's objects (02, 19) are one register file `regs`, keyed by index, sub-index and row, which lists a row only
while it differs from its default (Schema); what the spec names outside the dictionary has a field of its own. -/

namespace Sys2Proof.Machine

/-- Device states, Table 1-6, in the order of R350. -/
inductive DeviceState where
  | boot | hold | preop | operational | safe
  deriving DecidableEq, Repr

/-- Quartz states, Table 19-4. -/
inductive BeatState where
  | acquiring | locked | holdover | beatless
  deriving DecidableEq, Repr

/-- Link states, Table 4-6. -/
inductive LinkState where
  | disabled | parked | down | active | stalled | retraining | retired | unused
  deriving DecidableEq, Repr

/-- Lane states, Table 4-5. -/
inductive LaneState where
  | parked | idle | active | spareReady | substituting | retirePending | retired
  deriving DecidableEq, Repr

/-- Tenant states, Table 8-1. -/
inductive TenantState where
  | disabled | down | resetting | active
  deriving DecidableEq, Repr

/-- VMD states, Table 8-4 in the order of Table 8-3. -/
inductive VmdState where
  | absent | staged | ready | filling | bound | draining
  deriving DecidableEq, Repr

/-- Slot channel states with the numbers of Table 16-4. -/
inductive ChannelState where
  | empty | seating | ready | precharge | ramp | fullDrive | powered | retryWait | inputLow | retired
  deriving DecidableEq, Repr

/-- Domain states, Table 17-6. -/
inductive DomainState where
  | on | draining | fenced | off | poweringUp | failed
  deriving DecidableEq, Repr

/-- States of a command object, Table 2-5. -/
inductive CmdState where
  | idle | pending | done | failed
  deriving DecidableEq, Repr

/-- Ordering classes with the numbers of Table 6-1. -/
inductive Cls where
  | ioP | ioNp | ioCpl | memReq | memRsp | bi
  deriving DecidableEq, Repr

/-- What a message inside the switch is. -/
inductive MsgKind where
  | memRd (mv : MetaVal) | memInv (mv : MetaVal) | memClnEvct | memWr (mv : MetaVal) | atomic (a : AtomicReq)
  | drs (mv : MetaVal) | ndrCmp | ndrCmpE | ndrCmpS | biConflictAck
  | biSnpInv | biSnpData | biSnpCur | biSnpInvBlk
  | tlp (k : TlpKind) | cplUr | cplCa | cplData
  | cache (k : CacheKind)
  | biRsp (region line : Nat) (keeps : BiState)
  | fabric (m : FabricMsg)
  deriving DecidableEq, Repr

/-- A message inside the switch: what it is, its class, tenant, source and destination numbers (Table 6-2), size in
bytes, VMD, host tag and downstream tag, address, target, region, data and poison, the generations and the rule epoch
it was admitted under (R10), the ingress port and the sample record it carries. -/
structure Msg where
  kind : MsgKind
  cls : Cls
  tenant : Nat := 0
  src : Nat := 0
  dst : Nat := 0
  bytes : Nat := 16
  vmd : Option Nat := none
  hostTag : Nat := 0
  dtag : Option Nat := none
  addr : Nat := 0
  pid : Nat := 0
  ld : Nat := 0
  region : Option Nat := none
  offset : Nat := 0
  data : Nat := 0
  poison : Bool := false
  gen : Nat := 0
  bindGen : Nat := 0
  acu : Nat := 0
  epoch : Nat := 0
  port : Nat := 0
  job : Option Nat := none
  /-- The sample record that it has been given: number and the slice at which it was selected (R291). -/
  sample : Option (Nat × Nat) := none
  /-- Bytes that have entered ingress staging. -/
  sent : Nat := 0
  /-- Link channel on which the message arrived, none for one that a unit of the switch injects. -/
  chan : Option Nat := none
  /-- Bytes of data that a read asks for. -/
  asks : Nat := 0
  /-- Relaxed Ordering and ID-Based Ordering attributes of a TLP, forwarded unchanged (R114). -/
  attrs : Nat := 0
  /-- A TLP's header with prefixes and its ECRC, carried as received (R103). -/
  head : List Byte := []
  ecrc : List Byte := []
  deriving DecidableEq, Repr

/-- A cell (R102, R103): its flow, Sequence and PostedMark, the tenant, payload bytes in use, headers that begin in
it, the messages that end in it, the message that runs on into the flow's next cell, and its payload bytes. -/
structure Cell where
  cls : Cls
  src : Nat
  dst : Nat
  tenant : Nat
  valid : Nat
  hdrs : Nat
  headCont : Bool := false
  /-- Bytes at the head of the payload that continue a message of the flow's previous cell. -/
  headBytes : Nat := 0
  tail : Option Msg := none
  sequence : Nat := 0
  postedMark : Nat := 0
  payload : List Byte := []
  /-- Middle pool and cell number that held the cell. -/
  held : Option (Nat × Nat) := none
  /-- Half of the staging buffer that holds the cell in slice mode X4X4 (R123). -/
  half : Nat := 0
  /-- Slot in which stage one sent the cell (R106). -/
  slot : Nat := 0
  /-- The cell was not releasable when it reached its output slice: it holds an entry of the window (R110). -/
  waited : Bool := false
  msgs : List Msg := []
  deriving DecidableEq, Repr

/-- Where a pool keeps a cell (R118). -/
inductive Area where
  | shared | reserve | headroom
  deriving DecidableEq, Repr

/-- A QUEUED or DELIVERED cell of a pool with its descriptor (The leaked-buffer auditor). -/
structure PoolCell where
  cell : Cell
  number : Nat
  area : Area
  stamp : Nat
  stuck : Bool := false
  deriving DecidableEq, Repr

/-- A cell in a port's egress buffer with the tick at which it entered. -/
structure EgressCell where
  cell : Cell
  enteredBeat : Nat
  enteredTick : Nat
  /-- Number of the cell in the order in which the port's cells were released. -/
  order : Nat := 0
  deriving DecidableEq, Repr

/-- Statistics of one egress queue over the present beat (R138). -/
structure QueueAcc where
  samples : Nat := 0
  depthMin : Nat := 0
  depthMax : Nat := 0
  depthSum : Nat := 0
  delayMin : Nat := 0
  delayMax : Nat := 0
  delaySum : Nat := 0
  bins : List Nat := []
  deriving DecidableEq, Repr

/-- Return codes of the FM API and of mailboxes that the spec names (R40, R41, R357, R358). Log entry 51 (DEDUCED). -/
inductive RetCode where
  | success | backgroundStarted | invalidInput | unsupported | internalError | retryRequired | busy
  | resourcesExhausted | aborted
  deriving DecidableEq, Repr

/-- A JDP message that the block sends (Table 2-7): its version is 0x01 and its Length that of the payload. -/
structure JdpSent where
  via : Transport
  op : Nat
  flags : Nat := 0
  alive : Nat := 0
  session : Nat := 0
  index : Nat := 0
  sub : Nat := 0
  echo : Nat := 0
  segment : Nat := 0
  abort : Nat := 0
  proxyTarget : Nat := 0
  row : Nat := 0
  payload : List Byte := []
  tag : Nat := 0
  crc : Nat := 0
  deriving DecidableEq, Repr

/-- What the block sends: answers, notifications, link messages and requests. -/
inductive Out where
  /-- A JDP message: an answer, a CHALLENGE, an ACCEPT or a NOTIFY. -/
  | jdp (m : JdpSent)
  /-- A message with the proxy flag, sent on a port towards the owner of its target with the privilege of the entry session (R39,
  R235). -/
  | forwarded (port number target : Nat) (priv : Priv) (flags session segment row op index sub : Nat) (payload : List Byte)
  | fm (via : FmVia) (code : RetCode) (payload : List Byte)
  /-- A tunnelled command relayed to the memory device on a port, or sent on a port towards the owner of a target with OWNER
  privilege (R39, R359). -/
  | fmRelay (port opcode : Nat) (payload : List Byte)
  | fmCarry (port number target : Nat) (priv : Priv) (opcode : Nat) (payload : List Byte)
  | mailbox (tenant : Nat) (code : RetCode) (payload : List Nat)
  | host (port : Nat) (msg : Msg)
  /-- A flit with payload; on a Weuri link the physical lane of the group that carries each run of 16 bytes (R76). -/
  | flit (port : Nat) (sequence payload : Nat) (stripes : List Nat)
  /-- A flit without payload: idle, or one that carries an acknowledgement alone (R92, R129). -/
  | idle (port : Nat)
  | ack (port sequence : Nat)
  | nak (port sequence : Nat)
  | creditUpdate (port chan headers datas : Nat)
  /-- An alignment marker on a physical lane of a Weuri port: the 128 bits of Table 4-4. -/
  | marker (port lane word : Nat)
  | hotReset (port : Nat)
  | ideKm (port : Nat)
  | cfg (port routingId register : Nat) (write : Bool) (data : Nat)
  | cancel (port tag target : Nat)
  | hello (port : Nat) (hello : Hello)
  | lsr (port : Nat) (lsr : Lsr)
  /-- The beat message of a standard inter-switch link: its number and its edge offset in units of 0.125 ns (R54). -/
  | beatMark (port number offset : Nat)
  /-- A timestamp sent to a neighbour, from whose answer the link's round trip is measured (R54). -/
  | timestamp (port beat : Nat)
  /-- An edge on BEAT_OUT with the 64-bit frame that follows it (R48, R52). -/
  | beatOut (frame : Nat)
  /-- RemotePidAssign's write, sent on a port towards the switch of an identity, and its confirmation (R236). -/
  | remotePid (port identity pid : Nat)
  | remotePidConfirm (port identity : Nat) (admitted : Bool)
  /-- What a resumed data link sends in its first flit: the PWRON_RST_N count and the last flit accepted (R232). -/
  | resume (port count last : Nat)
  | meshRetry (sender : MeshUnit) (packet : Nat)
  | memRead (engine line : Nat) (write : Bool) (toB : Bool)
  | copyLock (engine line : Nat)
  | debugData (data : Nat)
  | fabric (port : Nat) (msg : FabricMsg)
  | avs (millivolts : Nat)
  | hotPlugInterrupt (tenant vppb : Nat)
  /-- An error message of a tenant's vPPB, 32 for its virtual upstream port, with the bit of its Uncorrectable Error Status (R143). -/
  | errorMessage (tenant vppb bit : Nat)
  deriving DecidableEq, Repr

/-- A link-control message of level S0 (R128): the beat message and the timestamp of R54, which take their offset as they leave,
and any other message of the fabric management channel (R231). -/
inductive Ctl where
  | beat
  | timestamp (beat : Nat)
  | carry (o : Out)
  deriving DecidableEq, Repr

/-- One port's egress buffer (R127 to R134): the two strict levels, the 65 members, their tokens and finish tags, which
of the last 64 cells came from S1, and the present beat's queue statistics. -/
structure EgressSt where
  bi : List EgressCell := []
  memRsp : List EgressCell := []
  ioCpl : List EgressCell := []
  /-- Link-control messages of S0 waiting to be sent. -/
  control : List Ctl := []
  members : Tbl (List EgressCell) := []
  tokens : Tbl Int := []
  finish : Tbl Nat := []
  sent : Tbl Nat := []
  last64 : List Bool := []
  /-- Cells that have entered the buffer. -/
  entered : Nat := 0
  acc : Tbl QueueAcc := []
  deriving DecidableEq, Repr

/-- A downstream tag (R10, R158, R260): the output port, the requester and the values in force at translation. -/
structure Tag where
  outPort : Nat
  hostPort : Nat
  tenant : Nat
  vmd : Option Nat
  hostTag : Nat
  gen : Nat
  bindGen : Nat
  acu : Nat
  epoch : Nat
  /-- The request as it goes to its output port. -/
  msg : Msg
  /-- The host's request that a memory access of a home slice, an engine or the atomic engine serves. -/
  writer : Option Msg := none
  /-- Home line (region, offset), Jasper job or atomic line the request serves. -/
  home : Option (Nat × Nat) := none
  job : Option Nat := none
  atomic : Bool := false
  allocBeat : Nat := 0
  sentDown : Bool := false
  /-- Place of the request in the order in which its output port sent requests (R100). -/
  sentAs : Nat := 0
  deriving DecidableEq, Repr

/-- The switch core (06) and the egress buffers (07). -/
structure CoreSt where
  slot : Nat := 0
  /-- One more than the slot in which each input last sent and each middle was last read (R104): key input, 48 + middle. -/
  slotOf : Tbl Nat := []
  /-- Receive buffers: key 16 * port + channel number; channel 15 holds the answers that an ingress slice gives itself. -/
  rxq : Tbl (List Msg) := []
  /-- TLPs and CXL.cache messages that wait at a HOST port for their tenant to be ACTIVE, with their sample records (R147): key
  port. -/
  tlpq : Tbl (List (TlpReq × Option (Nat × Nat))) := []
  /-- Ingress staging of each slice, in order of entry (R123). -/
  staging : Tbl (List Cell) := []
  /-- Cells between stage one and their middle pool. -/
  flight1 : Tbl (List Cell) := []
  /-- Virtual output queues: key 654 * middle + 6 * destination + class (R118). -/
  voq : Tbl (List PoolCell) := []
  delivered : Tbl (List PoolCell) := []
  /-- Free-list counts that each pool keeps, as used by R126: cells taken from the free list. -/
  taken : Tbl Nat := []
  /-- Cells of retired rows, never allocated again (R271): key 8192 * middle + cell. -/
  retiredCells : List Nat := []
  /-- Pools whose present sweep has abandoned a segment (R124). -/
  sweepBroken : List Nat := []
  /-- Next Sequence of each flow at its source: key as flowKey. -/
  nextSeq : Tbl Nat := []
  /-- Open frames (R105): first slot and positions filled. -/
  frames : Tbl (Nat × Nat) := []
  /-- Cells between stage two and their output slice. -/
  flight2 : Tbl (List Cell) := []
  window : Tbl (List Cell) := []
  /-- Flows of which a cell of an unfinished message has failed its payload check (R117). -/
  tainted : List Nat := []
  /-- Flows whose message in the course of being released is discarded (R112). -/
  dropping : List Nat := []
  /-- One more than the beat in which each pool's segment was last examined (R124). -/
  audited : Tbl Nat := []
  /-- E, the next Sequence expected of each flow at its destination (R110). -/
  expected : Tbl Nat := []
  /-- Cells that internal units wait to inject (R119). -/
  injectWait : List Cell := []
  /-- Messages that home slices, engines and the atomic engine have taken: key destination number - 96. -/
  inbox : Tbl (List Msg) := []
  egress : Tbl EgressSt := []
  tags : Tbl Tag := []
  nextTag : Nat := 0
  deriving DecidableEq, Repr

/-- A flit that waits in a replay buffer. -/
structure Flit where
  sequence : Nat
  payload : Nat
  /-- Messages that end in the flit, and the beat and tick at which it was first sent. -/
  msgs : List Msg := []
  sentBeat : Nat := 0
  sentTick : Nat := 0
  deriving DecidableEq, Repr

/-- A port's link-layer state (04, 05) beyond its dictionary objects. -/
structure PortSt where
  /-- Loss of signal or lock is asserted on these lanes of the port. -/
  lostLanes : List Nat := []
  /-- Replay buffer: outstanding flits, oldest first (R92). -/
  outstanding : List Flit := []
  nextTx : Nat := 0
  /-- Sequence numbers of the outstanding flits that the replay in progress has still to send (R95). -/
  resend : List Nat := []
  /-- Memory requests that an earlier data link lost, in the order in which they were first sent (R100). -/
  reissues : List Msg := []
  /-- Requests sent on the port. -/
  sentCount : Nat := 0
  /-- Value of `clock` at which the port was last found not locked (R84). -/
  lockLostAt : Nat := 0
  /-- Consecutive replays of the present oldest flit (R95). -/
  replays : Nat := 0
  replayRunning : Bool := false
  /-- Value of `clock` at which the replay timer last started (R95). -/
  replayAt : Nat := 0
  /-- E, the sequence number expected next (R93). -/
  expect : Nat := 0
  nakInForce : Bool := false
  ackDue : Bool := false
  /-- Flits transmitted since the last acknowledgement was carried (R94). -/
  sinceAck : Nat := 0
  /-- Cumulative credits that the partner has granted per channel number: headers and data. -/
  credits : Tbl (Nat × Nat) := []
  /-- Cumulative shared credits that the partner has granted per channel number (R89). -/
  shared : Tbl (Nat × Nat) := []
  /-- Cumulative credits consumed per channel number: headers and data. -/
  consumed : Tbl (Nat × Nat) := []
  /-- Beat and tick since which the policer holds each channel, and the window has stalled the port. -/
  policed : Tbl (Nat × Nat) := []
  /-- ns of the present hold of each channel, and of its present credit stall, that the counters hold (R284). -/
  policedNs : Tbl Nat := []
  stalledNs : Tbl Nat := []
  stalledAt : Option (Nat × Nat) := none
  /-- Cumulative credits granted to the partner per channel number. -/
  granted : Tbl (Nat × Nat) := []
  /-- Beat and tick at which each channel's credit timer started. -/
  creditTimer : Tbl (Nat × Nat) := []
  /-- One more than the time in ticks, 1,024 to a beat, at which the port returned to ACTIVE after a channel's last credit
  timeout; 0 until it has returned. -/
  lastTimeout : Tbl Nat := []
  /-- The retired logical lanes of the partner. -/
  partnerRetired : List Nat := []
  /-- Lane reversal is negotiated: the lanes in use end at the highest (R70, R88). -/
  reversed : Bool := false
  /-- The Recovery in progress retrains to the largest width that the lanes left allow (R88). -/
  narrowing : Bool := false
  /-- Weuri transmit: flits since the last marker and the next marker's Sequence (R76). -/
  flits : Nat := 0
  marker : Nat := 0
  /-- Beat whose edge the last marker with BEAT set carried (R77). -/
  markBeat : Option Nat := none
  /-- Logical lane our transmitter and our receiver substitute (R79, R80). -/
  txSub : Option Nat := none
  rxSub : Option Nat := none
  /-- The spare carries `txSub` on our transmitter: its marker M has left (R79). -/
  subbed : Bool := false
  /-- IDE keys as set by IDE_KM (R73): key of each direction, none before keys are set. -/
  ideKeys : Option (Nat × Nat) := none
  /-- Reset count and last accepted flit recorded of the partner at the previous training (R232). -/
  partnerCount : Option Nat := none
  /-- Beat of the last hello, the neighbour's identity and port (R230). -/
  helloAt : Option Nat := none
  neighbour : Option (Nat × Nat × Nat) := none
  foreign : Bool := false
  activeSince : Nat := 0
  /-- The link's neighbour counts in the routes (R245). -/
  inRoutes : Bool := false
  /-- The one-way delay is kept in LinkDelay; training is held by the slot channel (R311). -/
  parkExit : Bool := false
  retiredPort : Bool := false
  /-- Smallest round trip seen in the present beat (MeasuredRoundTrip). -/
  roundTrip : Option Nat := none
  deriving DecidableEq, Repr

/-- A home transaction on a line (R186, R187). -/
inductive Goal where
  | read (excl : Bool) | uncached | memInv | writeBack (left : MetaVal) | evict | atomic (a : AtomicReq) | recallLine
  deriving DecidableEq, Repr

/-- A Garnet entry's state (Table 10-2). -/
inductive GState where
  | i | s | e | is | ie | snooping | evicting | atomic
  deriving DecidableEq, Repr

/-- A Garnet entry (Table 10-2): region and region line (offset div 64) in place of the split tag, pointers or coarse
groups as a list of tenants or of groups, and its age. -/
structure GEntry where
  region : Nat
  line : Nat
  state : GState
  coarse : Bool := false
  sharers : List Nat := []
  age : Nat := 0
  deriving DecidableEq, Repr

/-- The transaction that holds a line (R186): what it is for, the requester's message, tenants whose BIRsp is awaited,
memory completions awaited, the state that a BIRsp reported, and whether poisoned data arrived. -/
structure Trans where
  home : Nat
  region : Nat
  line : Nat
  goal : Goal
  req : Option Msg
  awaiting : List Nat := []
  /-- Tenants whose snoop has been reported by the snoop-age source (R193). -/
  aged : List Nat := []
  writes : List Nat := []
  read : Option Nat := none
  ownerKept : BiState := .i
  holders : List Nat := []
  /-- State and sharers to leave when a write-back or recall ends. -/
  prior : GState := .i
  /-- What its memory read returned, data and poison, while a crossing write-back is still awaited (R189). -/
  got : Option (Nat × Bool) := none
  data : Nat := 0
  snoopBeat : Nat := 0
  /-- Tenants whose answer to a block snoop releases all four lines of the block (R200). -/
  blockOf : List Nat := []
  deriving DecidableEq, Repr

/-- The coherence home (10). -/
structure Garnet where
  /-- Entries: key (16384 * home + set) * 16 + way. -/
  entries : Tbl GEntry := []
  trans : List Trans := []
  /-- Conflict queue of each home slice. -/
  conflict : Tbl (List Msg) := []
  /-- Acquires counted against each (input slice, home) allowance: key 16 * slice + 2 * home + half. -/
  allowance : Tbl Nat := []
  /-- Home slices still sweeping a reset tenant: (home, tenant) (R146). -/
  sweeping : List (Nat × Nat) := []
  retiredWays : List Nat := []
  /-- Ways recalled for waiting allocations, by their keys, with the acquire that waits for each (R196). -/
  waysDue : List (Nat × Msg) := []
  /-- RegionRecall in progress: region, lines still to answer as (line, tenant), lines for which a snoop was sent. -/
  recallRun : Option (Nat × List (Nat × Nat) × Nat) := none
  /-- Replacements of each region in the present beat, and the regions whose thrash source has occurred in it (R197). -/
  replacements : Tbl Nat := []
  thrashed : List Nat := []
  /-- Per home slice, the present beat's row of HomeStats: operations, snoops, replacements, busy and queue maxima,
  BIConflicts, stray releases, stray BIRsps. -/
  stats : Tbl (List Nat) := []
  /-- Home lines that hold a Jasper copy lock: (region, line) (R219). -/
  jasperLocks : List (Nat × Nat) := []
  /-- Memory writes that wait for a Jasper line lock (R12, R192). -/
  heldWrites : List Msg := []
  deriving DecidableEq, Repr

/-- The atomic engine (R202): locked lines with the request they serve and waiting requests in arrival order. -/
structure AtomicSt where
  locks : List (Nat × Msg) := []
  waiting : List Msg := []
  deriving DecidableEq, Repr

/-! ## Access control and translation (07 to 09, 13) -/

/-- Permissions, in the order of Table 13-2. -/
structure Perm where
  read : Bool := false
  write : Bool := false
  atomic : Bool := false
  config : Bool := false
  deriving DecidableEq, Repr

/-- An access: space (Table 13-3), target, logical device, lowest and highest address, tenant and the permissions
required (Table 13-4). -/
structure Access where
  space : Nat
  target : Nat := 0
  ld : Nat := 0
  addr : Nat
  last : Nat
  tenant : Option Nat := none
  need : Perm
  deriving DecidableEq, Repr

/-- Why a unit refuses an access (Table 13-9). -/
inductive RefusalReason where
  | noGrant | writer | locked | defaultMap
  deriving DecidableEq, Repr

/-- What the translation of a request has found (R7, R9, R165): the message that goes on, the Beryl index and the entry, the
path of Table 15-5, whether the write lacks ownership (R191), the unit that checked it, and the access and reason of a
refusal. -/
structure Plan where
  msg : Msg
  index : Nat
  entry : Nat
  path : Nat
  noOwner : Bool := false
  refused : Option (Access × RefusalReason) := none
  /-- The access is counted in flight at its unit (R260). -/
  admitted : Bool := false
  /-- No port leads to the target. -/
  unroutable : Bool := false
  /-- The translation started before the last beat boundary (R175). -/
  old : Bool := false
  deriving DecidableEq, Repr

/-- A request that waits on its link channel: its sample record, whether its lookup has been counted, and what its translation
found while the refill is outstanding. -/
structure WaitReq where
  req : MemReq
  sample : Option (Nat × Nat) := none
  counted : Bool := false
  plan : Option Plan := none
  /-- Its entry is there, and whether with an uncorrectable error. -/
  got : Option Bool := none
  deriving DecidableEq, Repr

/-- An outstanding refill of a slice's extent cache (R174); `stale` once a boundary has passed, or what it reads is not to be
stored (R175). -/
structure Refill where
  slice : Nat
  index : Nat
  descriptor : Nat
  stale : Bool := false
  /-- Keys of the rows of its run that have changed since it began (R168). -/
  rows : List Nat := []
  deriving DecidableEq, Repr

/-- A Beryl background write: index, entry, and what it belongs to (R173). -/
inductive WriteOwner where
  | patch | entryTable | entryRun | creation (vmd : Nat) | region (r : Nat) | release | scrub
  deriving DecidableEq, Repr

/-- An entry of a slice's extent cache (R174): descriptor number through which it was fetched and the entry. -/
structure CacheLine where
  index : Nat
  descriptor : Nat
  entry : Nat
  deriving DecidableEq, Repr

/-- The extent map beyond its dictionary tables (09). -/
structure Beryl where
  /-- Background writes of each bank, in order of arrival, patch drains first (R173). -/
  writes : Tbl (List (Nat × Nat × WriteOwner)) := []
  /-- Patches in force and not yet drained, and those that apply preparation has loaded into the banks' buffers for the next
  boundary: index and value (R169). -/
  patches : Tbl Nat := []
  loaded : Tbl Nat := []
  /-- Entries held: key index, value the reason number (R153, R172, R176). -/
  heldEntries : Tbl Nat := []
  /-- Device extents held: (pid, ld, extent) (R164, R209). -/
  heldExtents : List (Nat × Nat × Nat) := []
  /-- Poisoned device extents of the inventory, beyond whole retired targets (R164). -/
  poisoned : List (Nat × Nat × Nat) := []
  retiredTargets : List Nat := []
  /-- Indices removed from a referenced part by a row that has not settled: row key and index ranges (R168). -/
  unsettled : List (Nat × Nat × Nat) := []
  /-- Extent caches: key slice, most recent first, at most 8 lines of one set kept (R174). -/
  cache : Tbl (List CacheLine) := []
  /-- Outstanding refills, in order of issue, and the requests that wait: key 16 * port + channel (R174). -/
  refills : List Refill := []
  waiting : Tbl (List WaitReq) := []
  /-- The check array: the check of each entry that has been written, kept beside the entries (R162). -/
  checks : Tbl Nat := []
  /-- Entries whose stored word and check disagree beyond correction, until they are written again (R163). -/
  errors : List Nat := []
  /-- Lookups, misses and longest refill of each slice in the present beat: key slice. -/
  cacheAcc : Tbl (Nat × Nat × Nat) := []
  /-- EntryRunWrite in progress: entries left and entries in all. -/
  runWrite : Option (Nat × Nat) := none
  /-- HDM decoders whose Commit request is pending: key 4 * vmd + decoder (R176). -/
  commitPending : List Nat := []
  deriving DecidableEq, Repr

/-- Kinds, states and reasons of job records, with the numbers of Table 11-6. -/
inductive JobState where
  | free | pending | armStaged | copying | commitStaged | disarmStaged | done | failed
  deriving DecidableEq, Repr
inductive JobReason where
  | none | cancelled | verify | sourceLost | destLost
  deriving DecidableEq, Repr

/-- A job record (Table 11-6), with what a fill keeps of its started extents and the entry as it was before the arm. -/
structure Job where
  state : JobState := .free
  fill : Bool := false
  urgent : Bool := false
  engines : List Nat := []
  reason : JobReason := .none
  chunkCode : Nat := 4
  index : Nat := 0
  count : Nat := 0
  destTarget : Nat := 0
  destLd : Nat := 0
  destExtent : Nat := 0
  done : Nat := 0
  createdAt : Nat := 0
  endedAt : Nat := 0
  mismatches : Nat := 0
  before : Nat := 0
  started : List Nat := []
  /-- VMD or region that a FILL job serves. -/
  forVmd : Option Nat := none
  forRegion : Option Nat := none
  /-- The patch formed for the next boundary is held. -/
  held : Bool := false
  /-- The source extent waits for the commit to settle (R218). -/
  releasing : Bool := false
  /-- Beat of the arm boundary (R213). -/
  armedAt : Nat := 0
  /-- ChunkCode of the job's remaining chunks (R222). -/
  code : Nat := 4
  /-- The revert is for a retired engine: the job returns to PENDING (R226). -/
  again : Bool := false
  deriving DecidableEq, Repr

/-- Why a line is locked in an engine's line-lock table (R214, R215). -/
inductive LockFor where
  | copy (stage : Nat) | dual (a b : Bool) | atomic
  deriving DecidableEq, Repr

/-- A locked line: the job and the line number within its extent, its use, the write it serves, and the data and poison
read from A. -/
structure LineLock where
  job : Nat
  line : Nat
  use : LockFor
  msg : Option Msg := none
  data : Nat := 0
  poisonA : Bool := false
  deriving DecidableEq, Repr

/-- An engine beyond its dictionary objects. -/
structure EngineSt where
  /-- The job that the engine copies or fills. -/
  job : Option Nat := none
  /-- Fill: the extent offset within the run that the engine writes. -/
  extent : Nat := 0
  settled : Bool := false
  /-- Every chunk of the extent has verified. -/
  copied : Bool := false
  locks : List LineLock := []
  /-- Dual writes that wait for a line, in arrival order. -/
  waiting : List (Nat × Msg) := []
  /-- The line of a COHERENT region for which a home is asked (R219). -/
  asked : Option Nat := none
  /-- First and next line of the chunk to lock, and the chunk's end. -/
  firstLine : Nat := 0
  nextLine : Nat := 0
  endLine : Nat := 0
  /-- Value of `clock` at which the chunk started (R215). -/
  startedAt : Nat := 0
  poisonAgree : Bool := true
  savedA : Nat := 0
  savedB : Nat := 0
  /-- Lines read whose data has not yet entered the running values, and the next line of each value (R216). -/
  readA : Tbl Nat := []
  readB : Tbl Nat := []
  foldA : Nat := 0
  foldB : Nat := 0
  /-- A chunk is in progress; the engine has had its chunk of this beat. -/
  running : Bool := false
  had : Bool := false
  verified : Bool := false
  retired : Bool := false
  /-- An access of the engine was refused, which fails its chunk (R257). -/
  refused : Bool := false
  deriving DecidableEq, Repr

/-- The migration engines (11). -/
structure Jasper where
  jobs : Tbl Job := []
  engines : Tbl EngineSt := []
  /-- JobCancel waits for this record to read FAILED. -/
  cancelling : Option Nat := none
  /-- BEATLESS has been, and no cut-off has passed since: no engine starts a chunk (R228). -/
  suspended : Bool := false
  deriving DecidableEq, Repr

/-- A record of the topology database (R233, R234). Log entry 18 (DEDUCED). -/
structure DbRec where
  lsr : Lsr
  /-- Earlier contents, newest first, until the newest has come into force (R242). -/
  older : List Lsr := []
  refreshedAt : Nat
  reachable : Bool
  /-- Beat in which the path to its originator was lost (R234). -/
  lostAt : Nat := 0
  deriving DecidableEq, Repr

/-- The fabric (12). -/
structure Fabric where
  db : List DbRec := []
  /-- This switch's own record as last originated, and its earlier contents. -/
  own : Option Lsr := none
  ownOlder : List Lsr := []
  /-- Beat at which this switch's record was last sent out, changed or refreshed (R233). -/
  refreshedAt : Nat := 0
  /-- Routes computed for the next boundary: rows of RoutingTable. -/
  computed : Option (Tbl Nat) := none
  /-- The topology from which `computed` was computed, and that of the routes in force (R241, R242). -/
  drawn : List Lsr := []
  inForce : List Lsr := []
  /-- BEATLESS or an activation of firmware has passed, and the routes have not differed from those in force since (R242, R335). -/
  standing : Bool := false
  /-- PIDs that two switches own (R237). -/
  conflicts : List Nat := []
  /-- RemotePidAssign in progress: the target's identity and the PID. -/
  assigning : Option (Nat × Nat) := none
  /-- Value of `clock` at which it was sent (Table 19-8). -/
  assignedAt : Nat := 0
  /-- Cancels already forwarded: tag and target (R61). -/
  forwarded : List (Nat × Nat) := []
  deriving DecidableEq, Repr

/-- One reported occurrence of an event source (R266, R268, R275, Table 14-7): whether the error is uncorrectable,
memory instance, row and failing bit, details, and whether Force reported it, live or dry. -/
structure Report where
  uncorrectable : Bool := false
  memInst : Nat := 0
  row : Nat := 0
  bit : Nat := 0
  d0 : Nat := 0
  d1 : Nat := 0
  forced : Bool := false
  dry : Bool := false
  deriving DecidableEq, Repr

/-- One event-log entry (Table 14-6). -/
structure LogEntry where
  sequence : Nat
  beat : Nat
  tick : Nat
  source : Nat
  cls : Nat
  kind : Nat
  count : Nat
  targetKind : Nat := 0
  alreadyRetired : Bool := false
  uncorrectable : Bool := false
  d0 : Nat := 0
  d1 : Nat := 0
  deriving DecidableEq, Repr

/-- The fault collector (14). -/
structure Onyx where
  /-- Pending occurrences of each source, at most 255. -/
  pend : Tbl (List Report) := []
  /-- Beat of each source's last OCCURRENCE entry and occurrences since (R277). -/
  logged : Tbl (Nat × Nat) := []
  log : Tbl LogEntry := []
  /-- Sources whose escalation or occurrence stopped the heartbeat (R280). -/
  stoppers : List Nat := []
  /-- SRAM rows retired since start-up: memory instance and row (R269, R271). -/
  retiredRows : List (Nat × Nat) := []
  deriving DecidableEq, Repr

/-- A subscription (SUBSCRIBE): event-log entries by base classes and source range, or own command completions. -/
inductive Sub where
  | events (classes : Nat) (first last : Nat)
  | commands
  deriving DecidableEq, Repr

/-- An open block transfer of a session (R35, R36). -/
structure Block where
  write : Bool
  index : Nat
  sub : Nat
  row : Nat
  next : Nat
  data : List Byte
  /-- Value of `clock` at the last segment (R35). -/
  since : Nat := 0
  deriving DecidableEq, Repr

/-- An open session (R31 to R34, R352). -/
structure Session where
  id : Nat
  credential : Nat
  priv : Priv
  key : List Byte
  lastAlive : Nat
  tx : Nat
  mgmtB : Bool
  /-- Value of `clock` at the last accepted message (R32). -/
  seen : Nat := 0
  subs : List Sub := []
  block : Option Block := none
  blockExpired : Bool := false
  /-- Log rows waiting to be sent, and NOTIFY messages sent in this beat (R278). -/
  unsent : List Nat := []
  notified : Nat := 0
  /-- Command-completion notifications that the limit of this beat kept from being sent (R67, R278). -/
  late : Nat := 0
  /-- Commands this session triggered and that are PENDING. -/
  triggered : List Nat := []
  deriving DecidableEq, Repr

/-- A CHALLENGE that waits for its PROOF (R31). -/
structure Challenge where
  id : Nat
  slot : Nat
  asked : Priv
  clientNonce : List Byte
  deviceNonce : List Byte
  /-- Value of `clock` when the CHALLENGE was sent (R31). -/
  since : Nat := 0
  deriving DecidableEq, Repr

/-- A proxied request that waits for its answer (R39), of a session or of the FM API (R359). -/
structure ProxyReq where
  number : Nat
  session : Nat
  op : Nat
  index : Nat
  sub : Nat
  echo : Nat
  segment : Nat := 0
  row : Nat := 0
  fm : Option FmVia := none
  /-- Where the request arrived, for one of session identifier 0 (R33). -/
  via : Transport := .mgmtA
  /-- Value of `clock` when the request was forwarded (R39). -/
  since : Nat := 0
  deriving DecidableEq, Repr

/-- The FM API's background operation, where it is no commit (R358): a managed removal that waits for PowerOff until a
beat, or one that has ended Aborted. -/
inductive FmOp where
  | none
  | managedRemove (tenant vppb deadline : Nat)
  | aborted
  deriving DecidableEq, Repr

/-- Management (02). -/
structure Mgmt where
  sessions : List Session := []
  challenges : List Challenge := []
  proxies : List ProxyReq := []
  nextProxy : Nat := 0
  fmOp : FmOp := .none
  /-- Open blocks of entry sessions that reach this switch by proxy, by the entry session's identifier, and whether the
  last one of it has expired (R35, R39). Log entry 11 (DEDUCED). -/
  proxyBlocks : Tbl (Option Block × Bool) := []
  deriving DecidableEq, Repr

/-- A command object (Table 2-4): `.01` as written, the latched arguments, Status and results. -/
structure CmdRec where
  args : List Byte := []
  latched : List Byte := []
  state : CmdState := .idle
  tag : Nat := 0
  result : Nat := 0
  results : List Byte := []
  deriving DecidableEq, Repr

/-- A command whose effect is staged (R152, R155, R170, R207). -/
inductive StagedAct where
  | vmdCreate (args : List Byte)
  | vmdDestroy (vmd : Nat)
  | entryReplace (index entry : Nat)
  | regionCreate (args : List Byte)
  | regionDestroy (region : Nat)
  deriving DecidableEq, Repr

/-- States and reasons of a commit (R64). -/
inductive CommitState where
  | armed | held | applied | cancelled | lateCancel
  deriving DecidableEq, Repr
inductive CommitReason where
  | none | lateArm | validation | fatal | beatless | command | remoteCancel
  deriving DecidableEq, Repr

/-- One commit as CommitStatus and CommitHistory report it (R64). -/
structure CommitRec where
  tag : Nat
  target : Nat
  state : CommitState
  reason : CommitReason := .none
  decidedBeat : Nat := 0
  decidedTick : Nat := 0
  deriving DecidableEq, Repr

/-- A run that a creation has drawn (R153, R176): the VMD number, or 1,024 plus the region number, the window, the first
Beryl index, the target and logical device, and the extents. -/
structure DrawnRun where
  code : Nat
  window : Nat
  base : Nat
  pid : Nat
  ld : Nat
  extents : List Nat
  deriving DecidableEq, Repr

/-- The armed set (R25): its commit, the frozen staged values and staged commands, and the late-cancel reason. -/
structure Armed where
  com : CommitRec
  values : Tbl Nat
  acts : List StagedAct
  late : CommitReason := .none
  /-- What each creation has drawn and holds from validation on (R153). -/
  draws : List DrawnRun := []
  /-- Regions whose quota the set has drawn or changed, with the quota drawn before. -/
  quotas : List (Nat × Option Nat) := []
  deriving DecidableEq, Repr

/-- What Quartz keeps of one beat source (R49). -/
structure SrcSt where
  /-- The last intact number and how many beats Quartz has generated since the beat that carried it, at the next
  judgement. -/
  last : Option (Nat × Nat) := none
  /-- An edge has been seen: the first one serves only as the reference that predicts the next (R49). -/
  seen : Bool := false
  /-- Since the last judgement: an edge within EdgeTolerance, and the number of an intact frame. -/
  edge : Bool := false
  number : Option Nat := none
  /-- Quartz's edge minus the source's edge, in ns. -/
  phase : Int := 0
  healthy : Nat := 0
  qualified : Bool := false
  deriving DecidableEq, Repr

/-- Quartz (03) beyond its dictionary objects. -/
structure Quartz where
  srcA : SrcSt := {}
  srcB : SrcSt := {}
  srcL : SrcSt := {}
  /-- Length in ns of the beat in progress and the phase correction applied to it. -/
  period : Nat := 125000
  correction : Int := 0
  /-- The first local beat after the entry to PREOP has begun (R51). -/
  begun : Bool := false
  /-- This switch is a beat root and another switch acts as root (R53). -/
  secondRoot : Bool := false
  /-- ArmingCutoff in force in this beat (R57). -/
  cutoff : Nat := 768
  cutoffDone : Bool := false
  /-- The sources have been judged in this beat (R49). -/
  judged : Bool := false
  /-- The usable source whose next edge ends HOLDOVER (R55). -/
  relock : Option BeatSrc := none
  deriving DecidableEq, Repr

/-- A record of a generation: the value of one object, with the CRC-32C that it carries (R42). -/
structure StoreRec where
  key : Nat
  value : Nat
  crc : Nat
  deriving DecidableEq, Repr

/-- A generation of records in the parameter area (R42, R43): its number, its records, the closing record with the
generation's number and record count once it is written, its size in bytes, and the ring words that it lies in. -/
structure Generation where
  number : Nat
  records : List StoreRec
  closing : Option (Nat × Nat) := none
  size : Nat
  start : Nat := 0
  words : Nat := 0
  deriving DecidableEq, Repr

/-- The persistent store (R42 to R44, R271, R282, R319): it survives PWRON_RST_N. -/
structure Store where
  /-- Credentials: key slot; secret bytes and privilege. -/
  credentials : Tbl (List Byte × Priv) := []
  /-- The deferred repair list: instance, row, bit, beat. -/
  repairs : List (Nat × Nat × Nat × Nat) := []
  generations : List Generation := []
  /-- Words of the ring of the parameter area that Stores have passed over, from which the next position follows, and the
  words retired from the ring (R44). -/
  written : Nat := 0
  retiredWords : List Nat := []
  lastFatal : Nat := 0
  resetCount : Nat := 0
  resetCause : Nat := 0
  deriving DecidableEq, Repr

/-- Pins the block drives or reads. -/
structure Pins where
  /-- PWRON_RST_N is asserted. -/
  reset : Bool := true
  hbA : Bool := false
  hbB : Bool := false
  /-- BEAT_OUT carries the beat (R52). -/
  beatOut : Bool := false
  thermAlert : Bool := false
  /-- Slot channel gates HSG and PCG are in the slots table; lanes in electrical idle (R318). -/
  lanesIdle : Bool := true
  deriving DecidableEq, Repr

/-- A slot channel (16) beyond its dictionary objects. -/
structure SlotSt where
  hsg : Bool := false
  pcg : Bool := false
  seated : Bool := false
  long : Bool := false
  short : Bool := false
  /-- Fault timer in units of 10 µs, samples below the limit since it last fell. -/
  timer : Nat := 0
  below : Nat := 0
  timerRunning : Bool := false
  regulating : Bool := false
  /-- Samples of 10 µs since the attempt began, and the off time of a retry in µs. -/
  onSamples : Nat := 0
  offTime : Nat := 0
  attempt : Bool := false
  shorted : Bool := false
  gaOff : Bool := false
  gbOff : Bool := false
  sense : Nat := 0
  hsgAboveOut : Nat := 0
  /-- HSG has reached 4.0 V above OUT in this full drive (R305). -/
  hsgReached : Bool := false
  trainDue : Bool := false
  /-- Samples of 10 µs that the channel has taken, and the count at which a presence input last changed, the channel became
  seated, PowerRequest became ON, full drive began, the gates last turned off, and power-good rose (R298 to R311). -/
  count : Nat := 0
  changedAt : Nat := 0
  seatedAt : Nat := 0
  requestAt : Nat := 0
  driveAt : Nat := 0
  offAt : Nat := 0
  goodAt : Nat := 0
  /-- Samples without interruption in which the watched output was up (R306), the input was below 9.5 V or at least 10.0 V
  (R308), and the short presence input was away (R310). -/
  outHigh : Nat := 0
  inLow : Nat := 0
  inOk : Nat := 0
  shortGone : Nat := 0
  /-- Onyx has retired the channel (R269). -/
  retired : Bool := false
  deriving DecidableEq, Repr

/-- A counter's live value and wraps (Table 15-2). -/
abbrev CounterVal := Nat × Nat

/-- One sample record (Table 15-5). -/
structure Sample where
  valid : Bool := false
  stream : Nat := 0
  tenant : Nat := 0
  port : Nat := 0
  opcode : Nat := 0
  outcome : Nat := 0
  path : Nat := 0
  beat : Nat := 0
  tick : Nat := 0
  hpa : Nat := 0
  target : Nat := 0
  ld : Nat := 0
  toEgress : Nat := 0
  toCompletion : Nat := 0
  depth : Nat := 0
  gen : Nat := 0
  /-- SampleHead value at which the row was allocated, and the ingress slice that it serves (R291). -/
  number : Nat := 0
  slice : Nat := 0
  deriving DecidableEq, Repr

/-- Telemetry (15). -/
structure Telemetry where
  counters : Tbl CounterVal := []
  shadow : Tbl (CounterVal × Nat) := []
  samples : Tbl Sample := []
  /-- Rows of the sample buffer taken out of use until the next start-up (R271). -/
  retiredRows : List Nat := []
  /-- Shift registers of the 16 streams (R290). -/
  streams : Tbl Nat := []
  /-- SnapshotArm targets this beat. -/
  snapshotAt : Option Nat := none
  /-- The slot of the last allocation, with the slice that it serves and the record's number (R291). -/
  lastSlot : Option (Nat × Nat × Nat) := none
  deriving DecidableEq, Repr

/-- A General Media Event record of a VMD's event log (R143): handle and VMD address. -/
structure MediaEvent where
  handle : Nat
  dpa : Nat
  deriving DecidableEq, Repr

/-- A tenant beyond its dictionary objects. -/
structure TenantSt where
  resetBeat : Nat := 0
  resetTick : Nat := 0
  /-- Hot-plug interrupts raised, and emulated Slot Status per vPPB as PCI Express numbers its bits (R160). -/
  hotPlugs : Nat := 0
  slotStatus : Tbl Nat := []
  /-- Emulated Slot Control per vPPB (R160). -/
  slotControl : Tbl Nat := []
  /-- Uncorrectable errors reported through AER per vPPB, 32 for the virtual upstream port (R143). -/
  errors : Tbl Nat := []
  /-- ACS Control per vPPB, and the answer in the tenant's DOE mailbox (Table 4-3). -/
  acs : Tbl Nat := []
  doe : List Nat := []
  /-- Written registers of the virtual switch's configuration space. -/
  space : Tbl Nat := []
  /-- Generation steps that wait for tags of the next value (R149). -/
  genWaits : Nat := 0
  deriving DecidableEq, Repr

/-- A VMD beyond its dictionary objects: its event log, its fills left and its windows (kind, target, ld, extents). -/
structure VmdSt where
  events : List MediaEvent := []
  /-- Written registers of the VMD's configuration space and of its HDM decoders: key register, and 2^32 + 16 * decoder +
  field (R148, R150). -/
  space : Tbl Nat := []
  /-- The answer in the mailbox, its return code first, and in the DOE mailbox (R150). -/
  mailbox : Option (List Nat) := none
  doe : List Nat := []
  nextHandle : Nat := 0
  fills : Nat := 0
  windows : List (Nat × Nat × Nat × Nat) := []
  /-- Steps of the binding generation that wait for tags of the next value (R149). -/
  genWaits : Nat := 0
  deriving DecidableEq, Repr

/-- A region beyond its dictionary objects: target and logical device, fills left, quota drawn. -/
structure RegionSt where
  pid : Nat := 0
  ld : Nat := 0
  fills : Nat := 0
  quotaDrawn : Option Nat := none
  deriving DecidableEq, Repr

/-- The start-up sequencer and firmware (17, 18) beyond their dictionary objects. -/
structure Startup where
  /-- Spares used per memory instance, and rows of BistResults written (R324). -/
  spares : Tbl Nat := []
  bistRows : Nat := 0
  /-- The slot that FirmwareActivate loads: 0 A, 1 B (R334). -/
  activating : Option Nat := none
  /-- The AVSBus request is outstanding (R343). -/
  avsWaiting : Bool := false
  /-- Hot readings in a row at the warning and trip levels, and whether a reading has been taken (R345). -/
  warnRun : Nat := 0
  tripRun : Nat := 0
  tempRead : Bool := false
  /-- OPERATIONAL has been entered since start-up (R321, R330). -/
  autoStarted : Bool := false
  /-- CheckCompute in progress: algorithm, target, logical device, first address, length, running value (R353). -/
  check : Option (Nat × Nat × Nat × Nat × Nat × Nat) := none
  /-- Value of `clock` at which it started, and the unit and epoch under which its access is in flight (R260). -/
  checkAt : Nat := 0
  checkUnit : Option (Nat × Nat) := none
  /-- BeatReacquire in progress (R56). -/
  reacquire : Bool := false
  deriving DecidableEq, Repr

/-- A packet that waits in a mesh router, with its 8-bit age (R14). -/
structure MeshWait where
  router : Nat
  packet : MeshPacket
  age : Nat
  deriving DecidableEq, Repr

/-- The Epkan mesh: packets requested again, with the receiving unit and how often each has failed (R15), the packets that
wait in routers and the input that each router served last (R14), and the ends of the links that run synchronously (R331).
Log entry 41 (DESIGN CHOICE). -/
structure Mesh where
  retries : List (MeshUnit × Nat × Nat) := []
  waiting : List MeshWait := []
  served : Tbl Nat := []
  sync : List Nat := []
  deriving DecidableEq, Repr

/-- The state of the block. -/
structure State where
  /-- Commands that wait, first in first out. -/
  pending : List Instr
  /-- Quartz's beat number and the tick within the beat: `0x1401.01 Now`. -/
  beat : Nat
  tick : Nat
  /-- Ticks that have passed since the model began, whatever number Quartz holds: what intervals are measured by. -/
  clock : Nat
  /-- Messages sent, in order. -/
  out : List Out
  /-- The model's own counter that free values are drawn with. -/
  freeCtr : Nat
  /-- Live values of the dictionary's objects that differ from their defaults. -/
  regs : Tbl Nat
  /-- The staged set: values and staged commands (R24, R25). -/
  staged : Tbl Nat
  stagedActs : List StagedAct
  armed : Option Armed
  /-- Decided commits, newest first (R354). -/
  commits : List CommitRec
  cmds : Tbl CmdRec
  pins : Pins
  store : Store
  /-- Rows of the two flash slots, 1,024 bytes each: key 16384 * slot + row. -/
  flash : Tbl Nat
  mgmt : Mgmt
  quartz : Quartz
  onyx : Onyx
  startup : Startup
  mesh : Mesh
  core : CoreSt
  ports : Tbl PortSt
  atomic : AtomicSt
  tenants : Tbl TenantSt
  vmds : Tbl VmdSt
  regions : Tbl RegionSt
  beryl : Beryl
  garnet : Garnet
  jasper : Jasper
  fabric : Fabric
  tel : Telemetry
  slots : Tbl SlotSt
  deriving DecidableEq, Repr

/-- Why a step stops. -/
inductive Fault where
  /-- Raised by the meanings of the dictionary commands for a message with a payload item that is no byte: such a
  message cannot stand on a wire. Safe: no message of the spec is shut out. -/
  | illFormed
  deriving DecidableEq, Repr

/-- Why a command has no meaning. -/
inductive Refusal where
  /-- Raised by an arm of exec whose command is not modelled; no arm raises it. Safe. -/
  | notModelled (mnemonic : String)
  deriving DecidableEq, Repr

/-- What a meaning answers. -/
abbrev Res := Host.Outcome State Fault Refusal

/-- The machine right after reset: PWRON_RST_N asserted, device state BOOT, every object at its default (R318, R21,
Tables of 19), an empty persistent store and nothing waiting. Log entries 2 (DESIGN CHOICE), 5 (DESIGN CHOICE). -/
def State.reset : State where
  pending := []
  beat := 0
  tick := 0
  clock := 0
  out := []
  freeCtr := 0
  regs := []
  staged := []
  stagedActs := []
  armed := none
  commits := []
  cmds := []
  pins := {}
  store := {}
  flash := []
  mgmt := {}
  quartz := {}
  onyx := {}
  startup := {}
  mesh := {}
  core := {}
  ports := []
  atomic := {}
  tenants := []
  vmds := []
  regions := []
  beryl := {}
  garnet := {}
  jasper := {}
  fabric := {}
  tel := {}
  slots := []

end Sys2Proof.Machine
end

