-- ==== Sys2Proof/Machine/Wire.lean ====
section
/-! DEFINITION. What the block puts on its wires: JDP messages with their tag and CRC (Table 2-7, R30). -/

namespace Sys2Proof

/-- Offsets 0 to 23 + Length of a JDP message (Table 2-7), most significant byte first. -/
def jdpHead (version op flags alive session index sub echo segment length abort proxyTarget row : Nat)
    (payload : List Byte) : List Byte :=
  [version % 256, op % 256, flags % 256, alive % 256] ++ toBytes 4 session ++ toBytes 2 index
    ++ [sub % 256, echo % 256] ++ toBytes 2 segment ++ toBytes 2 length ++ toBytes 2 abort ++ toBytes 2 proxyTarget
    ++ toBytes 4 row ++ payload

/-- The tag that a key gives to offsets 0 to 23 + Length: the first 16 bytes of the HMAC (Table 2-7). -/
def jdpTag (key head : List Byte) : Nat := ofBytes ((hmac key head).take 16)

/-- The CRC of a message over offsets 0 to 39 + Length (Table 2-7, R30). -/
def jdpCrc (head : List Byte) (tag : Nat) : Nat := crc32c (head ++ toBytes 16 tag)

end Sys2Proof

namespace Sys2Proof.Machine

/-- Offsets 0 to 23 + Length of a message that the block sends. -/
def JdpSent.head (m : JdpSent) : List Byte :=
  jdpHead 1 m.op m.flags m.alive m.session m.index m.sub m.echo m.segment m.payload.length m.abort m.proxyTarget m.row
    m.payload

/-- The message as it is sent: the tag first, all-zero where no session key signs it, then the CRC (R30, R31). -/
def JdpSent.sealed (m : JdpSent) (key : Option (List Byte)) : JdpSent :=
  let tag := match key with | some k => jdpTag k m.head | none => 0
  { m with tag := tag, crc := jdpCrc m.head tag }

/-- The bytes of the message, the CRC last and most significant byte first (R30). -/
def JdpSent.wire (m : JdpSent) : List Byte := m.head ++ toBytes 16 m.tag ++ toBytes 4 m.crc

end Sys2Proof.Machine
end

