-- ==== Sys2Proof/Machine/Ops.lean ====
section
/-! DEFINITION. The named operations over the state that every family shares: reading and writing objects, counters,
free values, messages sent, and the layout of ports over slices and lanes. -/

namespace Sys2Proof.Machine

/-- What a command answers with effect `f`: the state `f s`. The waiting commands and Quartz's time are the state's
before: only the beat's own commands, start-up and idling move time, and only step takes a command. -/
def effect (f : State → State) (s : State) : Res :=
  .next { f s with pending := s.pending, beat := s.beat, tick := s.tick, clock := s.clock }

/-- Ticks that pass from the beat time m:u to n:t: within the beat, or over its boundary. Log entry 4 (DESIGN CHOICE). -/
def passed (m u n t : Nat) : Nat := if t = 0 && n ≠ m then 1024 - u else t - u

/-- What a command of the beat answers: its effect at the beat time n:t to which it brings Quartz. -/
def clocked (n t : Nat) (f : State → State) (s : State) : Res :=
  .next { f s with pending := s.pending, beat := n, tick := t, clock := s.clock + passed s.beat s.tick n t }

/-- What a dictionary command answers: one that carries an item that is no byte cannot stand on a wire. Log entry 50
(DESIGN CHOICE). -/
def effectOf (env : JdpEnv) (f : State → State) (s : State) : Res :=
  if env.payload.all (fun b => decide (b < 256)) then effect f s else .fault .illFormed

/-- The live value of an object. -/
def State.r (s : State) (k : Nat) : Nat := Tbl.getD s.regs k (defaultOf k)

/-- The state with a new live value of an object. -/
def State.w (s : State) (k v : Nat) : State := { s with regs := Tbl.putD s.regs k v (defaultOf k) }

/-- The live value of a BOOL object. -/
def State.on (s : State) (k : Nat) : Bool := s.r k = 1

/-- A BOOL object written. -/
def State.wb (s : State) (k : Nat) (b : Bool) : State := s.w k (ofBool b)

/-- A free value, and the state that has drawn it. Log entry 6 (DESIGN CHOICE). -/
def State.fresh (s : State) : Nat × State := (Config.freeValue s.freeCtr, { s with freeCtr := s.freeCtr + 1 })

/-- A counter raised by n. The spec does not state what a counter reads past its size: a free value. Log entry 8
(DESIGN CHOICE). -/
def State.bump (s : State) (k n : Nat) : State :=
  let v := s.r k + n
  let m := 2 ^ Schema.width k
  if v < m then s.w k v
  else
    let (x, t) := s.fresh
    t.w k (x % m)

/-- A counter that saturates at `top` raised by n. Log entry 8 (DESIGN CHOICE). -/
def State.bumpTo (s : State) (k n top : Nat) : State := s.w k (min top (s.r k + n))

/-- A counter lowered by n, not below 0. -/
def State.lower (s : State) (k n : Nat) : State := s.w k (s.r k - n)

/-- A message sent. Log entry 6 (DESIGN CHOICE). -/
def State.emit (s : State) (o : Out) : State := { s with out := s.out ++ [o] }

/-- `f` folded over a list. Log entry 52 (DESIGN CHOICE). -/
def State.each {α : Type} (s : State) (l : List α) (f : State → α → State) : State := l.foldl f s

/-- Quartz's beat time in the encoding of a BEAT object. -/
def State.now (s : State) : Nat := beatVal s.beat s.tick

/-- The length of a tick in ns, times 1,024 (R46). Log entry 4 (DESIGN CHOICE). -/
def State.tickNs1024 (s : State) : Nat := s.quartz.period

/-- Ticks since the beat time (n, t). Log entry 4 (DESIGN CHOICE). -/
def State.ticksSince (s : State) (n t : Nat) : Nat := (s.beat * 1024 + s.tick) - (n * 1024 + t)

/-- Ticks since (n, t) in ns. Log entry 4 (DESIGN CHOICE). -/
def State.nsSince (s : State) (n t : Nat) : Nat := s.ticksSince n t * s.quartz.period / 1024

/-- The time in ns since `clock` read c. Log entry 4 (DESIGN CHOICE). -/
def State.nsAgo (s : State) (c : Nat) : Nat := (s.clock - c) * s.quartz.period / 1024

/-- The time from the present beat's edge in units of 0.125 ns (R54). The model's time stands still within a tick, and where
in the tick a message leaves is a free value. Log entries 4 (DESIGN CHOICE), 29 (DESIGN CHOICE). -/
def State.edgeOffset (s : State) : Nat × State :=
  let (x, t) := s.fresh
  (s.tick * s.quartz.period / 128 + x % max 1 (s.quartz.period / 128), t)

/-- The present beat time lies after (n - 1):ArmingCutoff, or the cut-off of that beat has been taken (R57, R58). Log
entry 19 (DEDUCED). -/
def State.afterCutoff (s : State) (n : Nat) : Bool :=
  decide (n ≤ s.beat) || (decide (n = s.beat + 1) && (decide (s.quartz.cutoff < s.tick) || s.quartz.cutoffDone))

/-! ## Device state -/

/-- The number of a device state (R350). Log entry 51 (DEDUCED). -/
def DeviceState.num : DeviceState → Nat
  | .boot => 0 | .hold => 1 | .preop => 2 | .operational => 3 | .safe => 4

/-- The device state of a number. -/
def DeviceState.ofNum : Nat → DeviceState
  | 0 => .boot | 1 => .hold | 2 => .preop | 3 => .operational | _ => .safe

/-- `0x1002.01 DeviceState`. -/
def State.device (s : State) : DeviceState := DeviceState.ofNum (s.r K.deviceState)

/-- A change of device state, with `0x1002.02 StateSince`. -/
def State.setDevice (s : State) (d : DeviceState) : State :=
  (s.w K.deviceState d.num).w K.deviceStateSince s.now

/-- Links carry traffic: PREOP and OPERATIONAL (Table 1-6). -/
def State.linksRun (s : State) : Bool := s.device = .preop || s.device = .operational

/-- Forwarding is on (Table 1-6). -/
def State.forwarding (s : State) : Bool := s.device = .operational

/-- Firmware is being replaced, or has failed: only the always-on island answers (R335, R336). -/
def State.firmwareAway (s : State) : Bool := s.r K.startupPhase = 10 || s.r K.startupPhase = 11

/-- Only the always-on island answers (R326, R335). -/
def State.islandOnly (s : State) : Bool := s.device = .boot || s.device = .hold || s.firmwareAway

/-! ## Beat state -/

/-- The number of a beat state. -/
def BeatState.num : BeatState → Nat
  | .acquiring => 0 | .locked => 1 | .holdover => 2 | .beatless => 3

/-- The beat state of a number. -/
def BeatState.ofNum : Nat → BeatState
  | 0 => .acquiring | 1 => .locked | 2 => .holdover | _ => .beatless

/-- `0x1401.02 BeatState`. -/
def State.beatState (s : State) : BeatState := BeatState.ofNum (s.r K.beatBeatState)

/-- A change of beat state. -/
def State.setBeatState (s : State) (b : BeatState) : State := s.w K.beatBeatState b.num

/-- This switch's beat goes out on an inter-switch link: a root is known, and the link is not that of the link source (R53). Log
entry 33 (DEDUCED). -/
def State.beatGoes (s : State) (p : Nat) : Bool := s.r K.beatRootIdentity ≠ 0 && s.r K.beatSourcePort ≠ p

/-! ## Slices, ports and lanes (R3, R68, R69) -/

/-- A slice's mode: 0 X4X4, 1 X8, 2 X16. Log entry 35 (DEDUCED). -/
def State.sliceMode (s : State) (sl : Nat) : Nat := s.r (K.sliceMode sl)

/-- The slice a port lies on. -/
def sliceOf (p : Nat) : Nat := p / 2

/-- Port p exists: no other port absorbs its number. Log entry 35 (DEDUCED). -/
def State.portExists (s : State) (p : Nat) : Bool :=
  let m := s.sliceMode (sliceOf p)
  if m = 2 then p % 4 = 0 else if m = 1 then p % 2 = 0 else true

/-- The two slices of the port's group differ, one of them X16. -/
def State.groupMismatch (s : State) (g : Nat) : Bool :=
  (s.sliceMode (2 * g) = 2) != (s.sliceMode (2 * g + 1) = 2)

/-- The width of the port's slice mode. -/
def State.modeWidth (s : State) (p : Nat) : Nat :=
  let m := s.sliceMode (sliceOf p)
  if m = 2 then 16 else if m = 1 then 8 else 4

/-- The configured width of a port. -/
def State.portWidth (s : State) (p : Nat) : Nat := min (s.modeWidth p) (s.r (K.portMaxWidth p))

/-- Data lane d of slice sl. -/
def dataLane (sl d : Nat) : Nat := 17 * (sl / 2) + 8 * (sl % 2) + d

/-- The data lanes of a port in logical order. -/
def State.portLanes (s : State) (p : Nat) : List Nat :=
  let sl := sliceOf p
  let m := s.sliceMode sl
  if m = 2 then (upTo 16).map (fun k => 17 * (p / 4) + k)
  else if m = 1 then (upTo 8).map (dataLane sl)
  else (upTo 4).map (fun k => dataLane sl (4 * (p % 2) + k))

/-- The spare lane of group g. -/
def spareLane (g : Nat) : Nat := 17 * g + 16

/-- The port that lane n serves as a data lane; a spare serves its group's first port. -/
def State.laneport (s : State) (n : Nat) : Nat :=
  let g := n / 17
  let k := n % 17
  if k = 16 then 4 * g
  else
    let sl := 2 * g + k / 8
    let m := s.sliceMode sl
    if m = 2 then 4 * g else if m = 1 then 2 * sl else 2 * sl + (k % 8) / 4

/-- Link states by number. Log entry 51 (DEDUCED). -/
def LinkState.num : LinkState → Nat
  | .disabled => 0 | .parked => 1 | .down => 2 | .active => 3 | .stalled => 4 | .retraining => 5 | .retired => 6
  | .unused => 7

/-- The link state of a number. -/
def LinkState.ofNum : Nat → LinkState
  | 0 => .disabled | 1 => .parked | 2 => .down | 3 => .active | 4 => .stalled | 5 => .retraining | 6 => .retired
  | _ => .unused

/-- `.0B LinkState` of port p, UNUSED where another port absorbs the number (R68). Log entry 35 (DEDUCED). -/
def State.link (s : State) (p : Nat) : LinkState :=
  if s.portExists p then LinkState.ofNum (s.r (K.portLinkState p)) else .unused

/-- The data link is up (Table 4-6). -/
def State.linkUp (s : State) (p : Nat) : Bool :=
  match s.link p with | .active | .stalled | .retraining => true | _ => false

/-- A change of link state. -/
def State.setLink (s : State) (p : Nat) (l : LinkState) : State := s.w (K.portLinkState p) l.num

/-- `.01 PortMode`: 0 DISABLED, 1 PCIE, 2 CXL, 3 WEURI. -/
def State.portMode (s : State) (p : Nat) : Nat := s.r (K.portPortMode p)

/-- `.02 PortRole`: 0 HOST, 1 DEVICE, 2 FABRIC. -/
def State.portRole (s : State) (p : Nat) : Nat := s.r (K.portPortRole p)

/-- The port is a HOST port. -/
def State.isHost (s : State) (p : Nat) : Bool := s.portRole p = 0
/-- The port is a DEVICE port. -/
def State.isDevice (s : State) (p : Nat) : Bool := s.portRole p = 1
/-- The port is a FABRIC port. -/
def State.isFabric (s : State) (p : Nat) : Bool := s.portRole p = 2

/-- Every port number. -/
def allPorts : List Nat := upTo 96

/-- The link-layer state of port p. -/
def State.port (s : State) (p : Nat) : PortSt := Tbl.getD s.ports p {}

/-- The link-layer state of port p changed. -/
def State.modPort (s : State) (p : Nat) (f : PortSt → PortSt) : State :=
  { s with ports := Tbl.putD s.ports p (f (s.port p)) {} }

/-- Lane states by number (Table 4-5). Log entry 51 (DEDUCED). -/
def LaneState.num : LaneState → Nat
  | .parked => 0 | .idle => 1 | .active => 2 | .spareReady => 3 | .substituting => 4 | .retirePending => 5 | .retired => 6

/-- The lane state of a number. -/
def LaneState.ofNum : Nat → LaneState
  | 0 => .parked | 1 => .idle | 2 => .active | 3 => .spareReady | 4 => .substituting | 5 => .retirePending
  | _ => .retired

/-- `.01 LaneState` of lane n. -/
def State.lane (s : State) (n : Nat) : LaneState := LaneState.ofNum (s.r (K.laneState n))

/-- A change of lane state; RETIRED is kept until start-up (Table 14-3). -/
def State.setLane (s : State) (n : Nat) (l : LaneState) : State :=
  if s.lane n = .retired then s else s.w (K.laneState n) l.num

/-- Messages that end in the cells of a list for destination p. -/
def heldIn (p : Nat) (l : List Cell) : Nat := sumOf (l.map (fun c => if c.dst = p then c.msgs.length else 0))

/-- `.1D HeldMessages`: the messages that wait in the switch for port p while its link is down (R85, R99). -/
def State.heldNow (s : State) (p : Nat) : Nat :=
  match s.link p with
  | .down | .stalled | .retraining =>
    let e := Tbl.getD s.core.egress p {}
    let received := sumOf (s.core.rxq.map (fun q => (q.2.filter (fun m => decide (m.dst = p))).length))
    let staged := s.core.staging.flatMap (·.2)
    let queued := s.core.voq.flatMap (fun q => q.2.map (·.cell))
    let flying := (s.core.flight1 ++ s.core.flight2 ++ s.core.window).flatMap (·.2)
    let waiting := (e.bi ++ e.memRsp ++ e.ioCpl ++ e.members.flatMap (·.2)).map (·.cell)
    received + heldIn p staged + heldIn p s.core.injectWait + heldIn p queued + heldIn p flying + heldIn p waiting
  | _ => 0

/-! ## Tenants, VMDs, regions, slots, engines -/

/-- Tenant states by number (Table 8-1). -/
def TenantState.num : TenantState → Nat
  | .disabled => 0 | .down => 1 | .resetting => 2 | .active => 3

/-- The tenant state of a number. -/
def TenantState.ofNum : Nat → TenantState
  | 0 => .disabled | 1 => .down | 2 => .resetting | _ => .active

/-- `.04 TenantState`. -/
def State.tenantState (s : State) (t : Nat) : TenantState := TenantState.ofNum (s.r (K.tenantState t))

/-- A change of tenant state. -/
def State.setTenant (s : State) (t : Nat) (x : TenantState) : State := s.w (K.tenantState t) x.num

/-- VMD states by number (Table 8-3). Log entry 51 (DEDUCED). -/
def VmdState.num : VmdState → Nat
  | .absent => 0 | .staged => 1 | .ready => 2 | .filling => 3 | .bound => 4 | .draining => 5

/-- The VMD state of a number. -/
def VmdState.ofNum : Nat → VmdState
  | 0 => .absent | 1 => .staged | 2 => .ready | 3 => .filling | 4 => .bound | _ => .draining

/-- `.01 VmdState`. -/
def State.vmdState (s : State) (v : Nat) : VmdState := VmdState.ofNum (s.r (K.vmdState v))

/-- A change of VMD state. -/
def State.setVmd (s : State) (v : Nat) (x : VmdState) : State := s.w (K.vmdState v) x.num

/-- A tenant's state beyond its objects. -/
def State.tenant (s : State) (t : Nat) : TenantSt := Tbl.getD s.tenants t {}

/-- A tenant's state changed. -/
def State.modTenant (s : State) (t : Nat) (f : TenantSt → TenantSt) : State :=
  { s with tenants := Tbl.putD s.tenants t (f (s.tenant t)) {} }

/-- A VMD's state beyond its objects. -/
def State.vmd (s : State) (v : Nat) : VmdSt := Tbl.getD s.vmds v {}

/-- A VMD's state changed. -/
def State.modVmd (s : State) (v : Nat) (f : VmdSt → VmdSt) : State :=
  { s with vmds := Tbl.putD s.vmds v (f (s.vmd v)) {} }

/-- A region's state beyond its objects. -/
def State.regionSt (s : State) (r : Nat) : RegionSt := Tbl.getD s.regions r {}

/-- A region's state changed. -/
def State.modRegion (s : State) (r : Nat) (f : RegionSt → RegionSt) : State :=
  { s with regions := Tbl.putD s.regions r (f (s.regionSt r)) {} }

/-- A slot channel's state beyond its objects. -/
def State.slot (s : State) (c : Nat) : SlotSt := Tbl.getD s.slots c {}

/-- A slot channel's state changed. -/
def State.modSlot (s : State) (c : Nat) (f : SlotSt → SlotSt) : State :=
  { s with slots := Tbl.putD s.slots c (f (s.slot c)) {} }

/-- An engine's state beyond its objects. -/
def State.engine (s : State) (n : Nat) : EngineSt := Tbl.getD s.jasper.engines n {}

/-- An engine's state changed. -/
def State.modEngine (s : State) (n : Nat) (f : EngineSt → EngineSt) : State :=
  { s with jasper := { s.jasper with engines := Tbl.putD s.jasper.engines n (f (s.engine n)) {} } }

/-- A job record. -/
def State.job (s : State) (j : Nat) : Job := Tbl.getD s.jasper.jobs j {}

/-- A job record changed. -/
def State.modJob (s : State) (j : Nat) (f : Job → Job) : State :=
  { s with jasper := { s.jasper with jobs := Tbl.putD s.jasper.jobs j (f (s.job j)) {} } }

/-- The tenant whose HOST port is p, judged by the live values (R141). -/
def State.tenantOfPort (s : State) (p : Nat) : Option Nat :=
  (upTo 64).find? (fun t => s.on (K.tenantEnable t) &&
    (s.r (K.tenantPrimaryPort t) = p || (toBytes 3 (s.r (K.tenantAuxPorts t))).contains p))

/-! ## Command objects (R26, R27) -/

/-- The command object of an index. -/
def State.cmd (s : State) (i : Nat) : CmdRec := Tbl.getD s.cmds i {}

/-- A command object changed. -/
def State.modCmd (s : State) (i : Nat) (f : CmdRec → CmdRec) : State :=
  { s with cmds := Tbl.putD s.cmds i (f (s.cmd i)) {} }

/-! ## Sessions (R34) -/

/-- The open session of an identifier. -/
def State.session (s : State) (id : Nat) : Option Session := s.mgmt.sessions.find? (fun x => x.id = id)

/-- An open session changed. -/
def State.modSession (s : State) (id : Nat) (f : Session → Session) : State :=
  { s with mgmt := { s.mgmt with sessions := s.mgmt.sessions.map (fun x => if x.id = id then f x else x) } }

/-- A message of an open session as it is sent: with the session's next counter, signed by its key (R31, R34). -/
def Session.sends (x : Session) (m : JdpSent) : JdpSent :=
  ({ m with session := x.id, alive := (x.tx + 1) % 256 } : JdpSent).sealed (some x.key)

/-- A message to an open session, which takes the session's next counter (R34). -/
def State.tell (s : State) (id : Nat) (m : JdpSent) : State :=
  match s.session id with
  | some x => (s.modSession id (fun y => { y with tx := (x.tx + 1) % 256 })).emit (.jdp (x.sends m))
  | none => s

/-- The management port on which an open session speaks (R32). -/
def Session.via (x : Session) : Transport := if x.mgmtB then .mgmtB else .mgmtA

/-- Table 2-5's State. -/
def CmdState.num : CmdState → Nat
  | .idle => 0 | .pending => 1 | .done => 2 | .failed => 3

/-- `.03 Status` of a command (Table 2-5). -/
def CmdRec.status (c : CmdRec) : List Byte := [c.state.num, c.tag % 256]

/-- The NOTIFY of a command's end: the command's Status. Log entry 9 (DESIGN CHOICE). -/
def State.endNotice (s : State) (i : Nat) (x : Session) : JdpSent :=
  { via := x.via, op := 0x07, index := i, sub := 0x03, payload := (s.cmd i).status }

/-- The sessions that triggered a command of index i are told of its end while the beat's limit lasts, and forget it (SUBSCRIBE,
R278). -/
def State.notifyEnd (s : State) (i : Nat) : State :=
  let told := s.mgmt.sessions.filter (fun x => x.triggered.contains i && x.subs.contains .commands)
  let t := s.each told (fun u x =>
    if x.notified < s.r K.onyxNotifyPerBeat then
      (u.modSession x.id (fun y => { y with notified := y.notified + 1 })).tell x.id (s.endNotice i x)
    else u.modSession x.id (fun y => { y with late := y.late + 1 }))
  { t with mgmt := { t.mgmt with sessions := t.mgmt.sessions.map (fun x =>
      { x with triggered := x.triggered.filter (fun j => j ≠ i) }) } }

/-- A PENDING command ends DONE with its results; one that has ended keeps its end. -/
def State.cmdDone (s : State) (i : Nat) (results : List Byte) : State :=
  if (s.cmd i).state = .pending then
    (s.modCmd i (fun c => { c with state := .done, result := 0, results := results })).notifyEnd i
  else s

/-- A PENDING command ends FAILED with a result code (R27). -/
def State.cmdFailed (s : State) (i code : Nat) : State :=
  if (s.cmd i).state = .pending then
    (s.modCmd i (fun c => { c with state := .failed, result := code, results := [] })).notifyEnd i
  else s

end Sys2Proof.Machine
end

