-- ==== Sys2Proof/Machine/Flags.lean ====
section
/-! DEFINITION. The block's event flags: the occurrences that set the pending counts of Onyx's sources (14), and the
missed-work counters with their sources (03). -/

namespace Sys2Proof.Machine

/-! ## Occurrences of event sources (R265, R266) -/

/-- Source k can occur: Table 14-2 assigns it, and no other port absorbs its port. Log entry 35 (DEDUCED). -/
def State.canOccur (s : State) (k : Nat) : Bool :=
  (Src.info k).cls ≠ .unused && (match Src.portOf k with | some p => s.portExists p | none => true)

/-- One occurrence reported with its details; the pending count saturates at 255 (R266). -/
def State.occurWith (s : State) (k : Nat) (d : Report) : State :=
  if s.canOccur k then
    let l := Tbl.getD s.onyx.pend k []
    if l.length < 255 then { s with onyx := { s.onyx with pend := Tbl.put s.onyx.pend k (l ++ [d]) } } else s
  else s

/-- The memory instance of a source's array (R323, Table 14-2). -/
def srcArray (k : Nat) : Nat :=
  let at' (die kind n : Nat) : Nat := (die * 16 + kind) * 256 + n
  if k = 0x28 then at' 10 5 0
  else if k = 0x29 then at' 10 6 0
  else if 0x080 ≤ k && k < 0x100 then at' (8 + (k - 0x080) / 4 / 16) 1 ((k - 0x080) / 4 % 16)
  else if 0x100 ≤ k && k < 0x200 then
    let h := (k - 0x100) / 32
    let j := (k - 0x100) % 32
    if j ≤ 15 then at' (8 + h / 4) 2 (h % 4) else if j = 21 then at' (8 + h / 4) 11 (h % 4) else Config.arrayOf k
  else if 0x600 ≤ k && k < 0x900 then
    let sl := (k - 0x600) / 16
    match (k - 0x600) % 16 with
    | 7 => at' (sl / 6) 3 (sl % 6)
    | 8 => at' (sl / 6) 4 (sl % 6)
    | 9 => at' (sl / 6) 7 (sl % 6)
    | 10 => at' (sl / 6) 8 (sl % 6)
    | 11 => at' (sl / 6) 9 (sl % 6)
    | _ => Config.arrayOf k
  else if 0x900 ≤ k && k < 0xA80 then
    let m := (k - 0x900) / 8
    at' (8 + m % 2) (if (k - 0x900) % 8 = 4 then 0 else 10) (m / 2)
  else Config.arrayOf k

/-- The memory instance of a bank's entries. -/
def bankArray (b : Nat) : Nat := srcArray (Src.bank b 0)

/-- A report without details of its own: a port's source names its port, and an SRAM-row source the array it stands for
(Table 14-7). Log entry 63 (DESIGN CHOICE). -/
def plainReport (k : Nat) : Report :=
  { d0 := (Src.portOf k).getD 0, memInst := match (Src.info k).target with | .sramRow => srcArray k | _ => 0 }

/-- One occurrence. -/
def State.occur (s : State) (k : Nat) : State := s.occurWith k (plainReport k)

/-- One occurrence of a NOTE source that names the tenant, region, port or job concerned (Table 14-7). -/
def State.occurOf (s : State) (k id : Nat) : State := s.occurWith k { d0 := id % 65536 }

/-- Missed work of Table 3-4: the counter `0x1410.0j` and its source, with the details of the entry. -/
def State.missedWork (s : State) (j : Nat) (d : Report) : State :=
  (s.bump (obj 0x1410 j) 1).occurWith (Src.missed j) d

end Sys2Proof.Machine
end

