-- ==== Sys2Proof/Machine/Mesh.lean ====
section
/-! DEFINITION. The Epkan mesh (01): what its routers forward first, what its endpoints check, and the bridges of its links
(17, Domain crossings). -/

namespace Sys2Proof.Machine

/-! ## Units, dies and domains (Table 1-1, R331) -/

/-- The mesh-integrity and mesh-path sources of a unit (Table 14-2). -/
def meshSources : MeshUnit → Nat × Nat
  | .slice s => (Src.slice s.val 0, Src.slice s.val 1)
  | .bank b => (Src.bank b.val 1, Src.bank b.val 2)
  | .home h => (Src.home h.val 19, Src.home h.val 20)
  | .atomicEngine => (Src.atomic 0, Src.atomic 1)
  | .engine n => (Src.engine n.val 3, Src.engine n.val 4)
  | .control x => (Src.device (0x18 + 2 * x.val), Src.device (0x19 + 2 * x.val))

/-- The die of a unit (Table 1-1): PD0 to PD7 are 0 to 7, CD0 and CD1 8 and 9, XD 10, SPD 11. -/
def unitDie : MeshUnit → Nat
  | .slice s => s.val / 6
  | .bank b => 8 + b.val / 16
  | .home h => 8 + h.val / 4
  | .atomicEngine => 8
  | .engine n => 8 + n.val / 2
  | .control x => if x.val = 7 then 11 else 10

/-- The lane-group domain of a unit, if it lies in one. -/
def unitDomain : MeshUnit → Option Nat
  | .slice s => some (s.val / 2)
  | _ => none

/-- Domain states by number (Table 17-6). -/
def DomainState.num : DomainState → Nat
  | .on => 0 | .draining => 1 | .fenced => 2 | .off => 3 | .poweringUp => 4 | .failed => 5

/-- The domain state of a number. -/
def DomainState.ofNum : Nat → DomainState
  | 0 => .on | 1 => .draining | 2 => .fenced | 3 => .off | 4 => .poweringUp | _ => .failed

/-- `.02 DomainState` of lane group g. -/
def State.domain (s : State) (g : Nat) : DomainState := DomainState.ofNum (s.r (K.domainState g))

/-- What a mesh link joins to the rest of the mesh, as a number: die d, or 16 + g for the domain of lane group g. The link
to the always-on island is asynchronous at all times and has no number. -/
def bridgeEnds : List Nat := upTo 12 ++ (upTo 24).map (· + 16)

/-- A packet from or to a unit crosses the links of the unit's die and domain. -/
def crosses (u : MeshUnit) (e : Nat) : Bool := decide (unitDie u = e) || decide ((unitDomain u).map (· + 16) = some e)

/-- A link carries a packet: one waits in a router, or is asked for again, for a unit on its far side (R331). -/
def Mesh.carries (m : Mesh) (e : Nat) : Bool :=
  m.waiting.any (fun w => crosses w.packet.sender e || crosses w.packet.dest e) || m.retries.any (fun x => crosses x.1 e)

/-- The mode that R331 gives a link: synchronous from the entry to PREOP, but asynchronous in BOOT and HOLD, while BIST
runs, and while its end is a domain that is not ON. -/
def State.bridgeSync (s : State) (e : Nat) : Bool :=
  s.device ≠ .boot && s.device ≠ .hold && (decide (e < 16) || s.domain (e - 16) = .on)

/-- Every link that carries no packet takes its mode (R331). -/
def State.settleBridges (s : State) : State :=
  let sync := bridgeEnds.filter (fun e => if s.mesh.carries e then s.mesh.sync.contains e else s.bridgeSync e)
  { s with mesh := { s.mesh with sync := sync } }

/-- A unit in a domain that is fenced or has no power is isolated (R332). -/
def State.isolated (s : State) (u : MeshUnit) : Bool :=
  match unitDomain u with
  | some g => s.domain g = .fenced || s.domain g = .off || s.domain g = .failed
  | none => false

/-! ## Routers (R14) -/

/-- The rank of a class: COORD before CONTROL before MANAGEMENT. -/
def meshRank : MeshClass → Nat
  | .coord => 2 | .control => 1 | .management => 0

/-- Whether x is forwarded before y at a router whose last forwarded packet came in at input `last`: by class, then the
greatest age, then the inputs in turn (R14). Log entry 41 (DESIGN CHOICE). -/
def meshBefore (last : Nat) (x y : MeshWait) : Bool :=
  let turn (w : MeshWait) : Nat := (w.packet.input.val + 7 - last) % 8
  if meshRank x.packet.cls ≠ meshRank y.packet.cls then decide (meshRank y.packet.cls < meshRank x.packet.cls)
  else if x.age ≠ y.age then decide (y.age < x.age)
  else decide (turn x < turn y)

/-- The packet that a router forwards first (R14). -/
def Mesh.first (m : Mesh) (router : Nat) : Option MeshWait :=
  (m.waiting.filter (fun w => w.router = router)).foldl (fun (b : Option MeshWait) w =>
    match b with
    | none => some w
    | some x => if meshBefore (Tbl.getD m.served router 7) w x then some w else b) none

/-- Where a packet waits. -/
def Mesh.place (m : Mesh) (p : MeshPacket) : Option MeshWait := m.waiting.find? (fun w => w.packet.id = p.id)

/-- The packet may leave where it waits: it waits nowhere, or is the one that its router forwards first (R14). -/
def Mesh.mayLeave (m : Mesh) (p : MeshPacket) : Bool :=
  match m.place p with
  | none => true
  | some w => decide (m.first w.router = some w)

/-- The packet leaves the router in which it waits. -/
def Mesh.leave (m : Mesh) (p : MeshPacket) : Mesh :=
  match m.place p with
  | none => m
  | some w => { m with
      waiting := m.waiting.filter (fun x => x.packet.id ≠ p.id)
      served := Tbl.put m.served w.router w.packet.input.val }

/-- MESH_AGE_TICK: 16 core cycles pass while the packet waits in a router; its age goes with it from router to router
(R14). A packet that its present router does not forward first cannot wait in another one. Log entry 41 (DESIGN
CHOICE). -/
def execMeshAgeTick (router : Nat) (packet : MeshPacket) (s : State) : Res :=
  effect (fun s =>
    let m := s.mesh
    let age := ((m.place packet).map (·.age)).getD 0
    let here := (m.place packet).any (fun w => w.router = router)
    if !here && !m.mayLeave packet then s
    else
      let m := if here then m else m.leave packet
      let w : MeshWait := { router := router, packet := packet, age := min 255 (age + 1) }
      { s with mesh := { m with waiting := m.waiting.filter (fun x => x.packet.id ≠ packet.id) ++ [w] } }) s

/-! ## Endpoints (R15) -/

/-- How often a packet has failed its check at a unit. -/
def Mesh.failures (m : Mesh) (unit : MeshUnit) (id : Nat) : Nat :=
  ((m.retries.find? (fun x => decide (x.1 = unit) && decide (x.2.1 = id))).map (·.2.2)).getD 0

/-- MESH_PACKET_RECEIVE: a packet whose check fails is discarded, counted and requested again from its sender up to three
times; the fourth failure raises the unit's mesh-path source (R15). Log entry 41 (DESIGN CHOICE). -/
def execMeshPacketReceive (unit : MeshUnit) (packet : MeshPacket) (good : Bool) (s : State) : Res :=
  effect (fun s =>
    if !s.mesh.mayLeave packet || s.isolated unit then s
    else
      let (soft, hard) := meshSources unit
      let n := s.mesh.failures unit packet.id
      let m := s.mesh.leave packet
      let rest := m.retries.filter (fun x => !(decide (x.1 = unit) && decide (x.2.1 = packet.id)))
      let dropped : State := { s with mesh := { m with retries := rest } }
      if good then dropped.settleBridges
      else if 3 ≤ n then ((dropped.settleBridges).occur soft).occur hard
      else
        let s : State := { s with mesh := { m with retries := rest ++ [(unit, packet.id, n + 1)] } }
        (s.occur soft).emit (.meshRetry packet.sender packet.id)) s

end Sys2Proof.Machine
end

