-- ==== Sys2Proof/Machine/Onyx.lean ====
section
/-! DEFINITION. The fault collector (14): the event log, notifications, escalation, the sweep, and stopping the
heartbeat. What retiring a target and entering SAFE do to the other units is given by the caller. -/

namespace Sys2Proof.Machine

/-- The number of a base class (Table 14-4). -/
def SrcClass.num : SrcClass → Nat
  | .unused => 0 | .note => 1 | .transient => 2 | .severe => 3 | .fatal => 4

/-- Table 14-7's target kind. -/
def SrcTarget.kind : SrcTarget → Nat
  | .none => 0 | .lane _ => 1 | .port _ => 2 | .slot _ => 4 | .garnetWay _ _ => 5 | .sramRow => 6 | .engine _ => 7

/-- Kinds of log entries (Table 14-6). -/
def kindOccurrence : Nat := 0
/-- Kind ESCALATION. -/
def kindEscalation : Nat := 1
/-- Kind RETIREMENT. -/
def kindRetirement : Nat := 2
/-- Kind STATE. -/
def kindState : Nat := 3
/-- Kind COMMIT. -/
def kindCommit : Nat := 4
/-- Kind FORCED. -/
def kindForced : Nat := 5

/-- The 256-bit row of an entry (Table 14-6). -/
def LogEntry.row (e : LogEntry) : Nat :=
  let head := (((((e.sequence % 2 ^ 32 * 2 ^ 48 + e.beat % 2 ^ 48) * 1024 + e.tick % 1024) * 4096 + e.source % 4096) * 4
    + e.cls % 4) * 16 + e.kind % 16) * 256 + e.count % 256
  let flags := ((head * 16 + e.targetKind % 16) * 2 + ofBool e.alreadyRetired) * 2 + ofBool e.uncorrectable
  ((flags * 64) * 2 ^ 64 + e.d0 % 2 ^ 64) * 2 ^ 64 + e.d1 % 2 ^ 64

/-- The details that Table 14-7 gives an entry of a target. Log entry 16 (DEDUCED). -/
def State.details (s : State) (tg : SrcTarget) (d : Report) : Nat × Nat :=
  match tg with
  | .lane n => ((s.r (K.laneMarginH n) * 65536 + s.r (K.laneMarginV n)) * 2 ^ 32 + n,
      s.r (K.laneLosCount n) * 2 ^ 32 + s.r (K.laneLolCount n))
  | .port p => ((s.link p).num * 256 + p, s.heldNow p)
  | .garnetWay _ w => (w * 65536 + d.row % 65536, d.bit)
  | .sramRow => (d.memInst * 2 ^ 48 + d.row, d.bit)
  | .engine n => (s.r (K.engineJob n), s.r (K.engineChunkOffset n))
  | .slot _ => (d.d0, d.d1)
  | .none => (d.d0, d.d1)

/-- A subscription matches an entry of a base class and source (SUBSCRIBE). -/
def Sub.matches (b : Sub) (cls src : Nat) : Bool :=
  match b with
  | .events classes first last => classes.testBit cls && decide (first ≤ src) && decide (src ≤ last)
  | .commands => false

/-- An entry written into the ring with the next sequence number (R276), and queued for every session that holds a
matching subscription (R278). -/
def State.logEntry (s : State) (e : LogEntry) : State :=
  let q := s.r K.onyxNextSequence
  let row := q % 8192
  let e := { e with sequence := q }
  let first := s.r K.onyxOldestSequence
  let old := if (q + 2 ^ 32 - first) % 2 ^ 32 = 8192 then (first + 1) % 2 ^ 32 else first
  let sess := s.mgmt.sessions.map (fun x =>
    if x.subs.any (fun b => b.matches ((Src.info e.source).cls.num - 1) e.source)
      then { x with unsent := x.unsent ++ [row] } else x)
  let t := { s with
    onyx := { s.onyx with log := Tbl.put s.onyx.log row e }
    mgmt := { s.mgmt with sessions := sess } }
  (t.w K.onyxNextSequence ((q + 1) % 2 ^ 32)).w K.onyxOldestSequence old

/-- The NOTIFY messages of one session: batches of at most 44 entries while the beat's limit lasts (R278). -/
def notifyBatches : Nat → Nat → List Nat → List (List Nat) × List Nat
  | 0, _, l => ([], l)
  | fuel + 1, room, l =>
    if l.isEmpty || room = 0 then ([], l)
    else
      let (bs, rest) := notifyBatches fuel (room - 1) (l.drop 44)
      (l.take 44 :: bs, rest)

/-- A NOTIFY of the entries in the listed rows of the ring (R278, R361). -/
def State.logNotice (s : State) (x : Session) (rows : List Nat) : JdpSent :=
  { via := x.via, op := 0x07, index := 0x1181, sub := 0x01, row := rows.headD 0
    payload := rows.flatMap (fun j => toBytes 32 (match Tbl.find s.onyx.log j with | some e => e.row | none => 0)) }

/-- A session is sent the entries queued for it, within NotifyPerBeat (R278). -/
def State.sendTo (s : State) (x : Session) : State :=
  let (bs, rest) := notifyBatches (x.unsent.length + 1) (s.r K.onyxNotifyPerBeat - x.notified) x.unsent
  (s.modSession x.id (fun y => { y with unsent := rest, notified := y.notified + bs.length })).each bs
    (fun u b => u.tell x.id (s.logNotice x b))

/-- Every session is sent the entries queued for it (R278). -/
def State.sendNotifies (s : State) : State := s.each s.mgmt.sessions (fun u x => u.sendTo x)

/-- Entries and command completions not sent by tick 1,023 of their beat are discarded, each counted once per session (R67, R278,
Table 3-4). -/
def State.discardNotifies (s : State) : State :=
  let n := sumOf (s.mgmt.sessions.map (fun x => x.unsent.length + x.late))
  let t := { s with mgmt := { s.mgmt with sessions := s.mgmt.sessions.map (fun x => { x with unsent := [], late := 0 }) } }
  (upTo n).foldl (fun u _ => u.missedWork 6 {}) t

/-- What a sweep needs from the units: retiring a target, with whether it was retired already and what is retired in the end
(R80). -/
abbrev Retirer := State → Nat → SrcTarget → Report → Bool × SrcTarget × State

/-- What one sweep has gathered: its lowest FATAL source and the sources that stop the heartbeat, in order. -/
structure SweepAcc where
  st : State
  fatal : Option Nat := none
  stops : List Nat := []

/-- The common part of the entries of a source in this sweep, for a target. -/
def State.entryAt (s : State) (tg : SrcTarget) (k : Nat) (kind cls count : Nat) (d : Report) : LogEntry :=
  let (d0, d1) := s.details tg d
  { sequence := 0, beat := s.beat, tick := s.tick, source := k, cls := cls, kind := kind, count := count,
    targetKind := tg.kind, uncorrectable := d.uncorrectable, d0 := d0, d1 := d1 }

/-- What the entries of a source name: its retire target, and for every source of a slot channel the channel (Table 14-7,
R315). -/
def entryTarget (k : Nat) : SrcTarget :=
  if 0xA80 ≤ k && k < 0xB80 then .slot ((k - 0xA80) / 8) else (Src.info k).target

/-- The common part of the entries of a source in this sweep, for what the source names. -/
def State.entryOf (s : State) (k : Nat) (kind cls count : Nat) (d : Report) : LogEntry :=
  s.entryAt (entryTarget k) k kind cls count d

/-- The OCCURRENCE, COMMIT and FORCED entries of a source that a sweep takes (R275 to R277). Log entry 16 (DEDUCED). -/
def State.logTaken (s : State) (k : Nat) (rs : List Report) : State :=
  let cls := (Src.info k).cls.num - 1
  let plain := rs.filter (fun d => !d.forced)
  let forced := rs.filter (fun d => d.forced)
  let s :=
    if plain.isEmpty then s
    else if 0x008 ≤ k && k ≤ 0x00A then s.each plain (fun u d => u.logEntry (u.entryOf k kindCommit cls 1 d))
    else
      let (lastBeat, since) := Tbl.getD s.onyx.logged k (2 ^ 64, 0)
      let n := since + plain.length
      if lastBeat = s.beat then
        { s with onyx := { s.onyx with logged := Tbl.put s.onyx.logged k (lastBeat, n) } }
      else
        let t := { s with onyx := { s.onyx with logged := Tbl.put s.onyx.logged k (s.beat, 0) } }
        t.logEntry (t.entryOf k kindOccurrence cls (min 255 n) (plain.getLastD {}))
  s.each forced (fun u d => u.logEntry (u.entryOf k kindForced cls 1 d))

/-- The STATE entry of R274, written to LastFatal in the persistent store (R282). Log entry 16 (DEDUCED). -/
def State.logState (s : State) (k : Nat) : State :=
  let e : LogEntry :=
    { sequence := s.r K.onyxNextSequence, beat := s.beat, tick := s.tick, source := k, cls := 3,
      kind := kindState, count := 0, d0 := DeviceState.safe.num, d1 := s.device.num }
  let t := s.logEntry e
  { t with store := { t.store with lastFatal := e.row } }

/-- Retirement by a source that escalates or is SEVERE, with its entry (R269). Log entry 16 (DEDUCED). -/
def State.retireFor (s : State) (ret : Retirer) (k : Nat) (d : Report) : State :=
  let tg := (Src.info k).target
  if tg = .none then s
  else
    let (already, lost, t) := ret s k tg d
    let t := t.logEntry { s.entryAt lost k kindRetirement 2 0 d with alreadyRetired := already }
    match tg with
    | .garnetWay _ _ => t
    | .sramRow => t
    | _ => if already then t else t.wb (K.sourceTargetRetired k) true

/-- One source taken by the sweep (R266 to R268, R273). Log entry 16 (DEDUCED). -/
def sweepTake (ret : Retirer) (a : SweepAcc) (e : Nat × List Report) : SweepAcc :=
  let k := e.1
  let rs := e.2
  let i := Src.info k
  let s := a.st
  let s := s.wb (K.sourceLatch k) true
  let s := s.bumpTo (K.sourceOccurrences k) rs.length 255
  let s := s.w (K.sourceLastAt k) s.now
  let s := s.logTaken k rs
  let live := rs.filter (fun d => !d.dry)
  if live.isEmpty then { a with st := s }
  else
    match i.cls with
    | .transient =>
      let n0 := s.r (K.sourceWindowCount k)
      let fresh := n0 = 0 || s.beat ≥ bits (s.r (K.sourceWindowStart k)) 57 10 + s.r (K.sourceEscalateWindow k)
      let s := if fresh then s.w (K.sourceWindowStart k) (beatVal s.beat 0) else s
      let n1 := if fresh then 0 else n0
      let n := n1 + live.length
      let lim := s.r (K.sourceEscalateCount k)
      let row := i.target = .sramRow || (match i.target with | .garnetWay _ _ => true | _ => false)
      let bad := live.find? (fun d => d.uncorrectable && row)
      if bad.isSome || n ≥ lim then
        let cause := bad.getD (live.getD (lim - n1 - 1) (live.getLastD {}))
        let s := s.w (K.sourceWindowCount k) 0
        let s := s.bumpTo (K.sourceEscalations k) 1 65535
        let s := s.logEntry (s.entryOf k kindEscalation 2 0 cause)
        let s := s.retireFor ret k cause
        { a with st := s, stops := if s.on (K.sourceStopsHeartbeat k) then a.stops ++ [k] else a.stops }
      else { a with st := s.w (K.sourceWindowCount k) (min 255 n) }
    | .severe =>
      let s := s.retireFor ret k (live.headD {})
      { a with st := s, stops := if s.on (K.sourceStopsHeartbeat k) then a.stops ++ [k] else a.stops }
    | .fatal =>
      let first := a.fatal.isNone && (s.device = .preop || s.device = .operational)
      let s := if first then s.logState k else s
      { st := s, fatal := a.fatal <|> some k, stops := a.stops ++ [k] }
    | _ => { a with st := s }

/-- The heartbeat stops (R280): neither output changes level from now on. Log entry 16 (DEDUCED). -/
def State.stopHeartbeat (s : State) (k : Nat) (all : List Nat) : State :=
  let s := { s with onyx := { s.onyx with stoppers := s.onyx.stoppers ++ all } }
  if s.r K.hbState = 3 then s
  else ((s.w K.hbState 3).w K.hbStoppedBy k).w K.hbStoppedAt s.now

/-- One sweep over every source with a pending count, in ascending number (R272 to R274); `safe` is the entry to
SAFE. -/
def State.sweep (s : State) (ret : Retirer) (safe : State → State) : State :=
  let taken := s.onyx.pend
  if taken.isEmpty then s
  else
    let s0 := ({ s with onyx := { s.onyx with pend := [] } }).bump K.onyxSweeps 1
    let a := taken.foldl (sweepTake ret) { st := s0 }
    let t := match a.stops with
      | k :: _ => a.st.stopHeartbeat k a.stops
      | [] => a.st
    let t := if a.fatal.isSome && (s.device = .preop || s.device = .operational) then safe t else t
    t.sendNotifies

end Sys2Proof.Machine
end

