-- ==== Sys2Proof/Machine/Topology.lean ====
section
/-! DEFINITION. The fabric's topology (12): links that carry the fabric management channel, distances between switches, the way
towards a switch, and the link-control queue of a port. -/

namespace Sys2Proof.Machine

/-! ## S0's link control (R128, R231) -/

/-- A port's egress buffer. -/
def State.egress (s : State) (p : Nat) : EgressSt := Tbl.getD s.core.egress p {}

/-- A port's egress buffer changed. -/
def State.modEgress (s : State) (p : Nat) (f : EgressSt → EgressSt) : State :=
  { s with core := { s.core with egress := Tbl.putD s.core.egress p (f (s.egress p)) {} } }

/-- A link-control message joins S0 of a port (R128); one that waits there already waits once. Log entry 24 (DEDUCED). -/
def State.queueControl (s : State) (p : Nat) (c : Ctl) : State :=
  s.modEgress p (fun e => { e with control := if e.control.contains c then e.control else e.control ++ [c] })

/-- A message of the fabric management channel joins S0 of a port (R231). -/
def State.queueOut (s : State) (p : Nat) (o : Out) : State := s.queueControl p (.carry o)

/-! ## Links and distances (R230, R234) -/

/-- The port carries the fabric management channel: ACTIVE to a ZENLIA neighbour, whose hellos still come (R230, R231).
Log entry 18 (DEDUCED). -/
def State.managed (s : State) (p : Nat) : Bool :=
  s.portExists p && s.isFabric p && s.link p = .active && (s.port p).neighbour.isSome && (s.port p).helloAt.isSome
    && !(s.port p).foreign

/-- The inter-switch links on which cancels, records and beats are sent. -/
def State.managedPorts (s : State) : List Nat := allPorts.filter s.managed

/-- The switch of a record names another as a neighbour. -/
def lsrPeers (l : Lsr) : List Nat := l.links.filterMap (·.peer)

/-- The record of an identity in a topology. -/
def lsrOf (g : List Lsr) (id : Nat) : Option Lsr := g.find? (fun l => l.identity = id)

/-- The neighbours of an identity that the topology holds. -/
def peersOf (g : List Lsr) (id : Nat) : List Nat :=
  match lsrOf g id with
  | none => []
  | some l => (lsrPeers l).filter (fun x => (lsrOf g x).isSome)

/-- Breadth-first search: the distance from the frontier to the first state that `goal` accepts. -/
def bfs {α : Type} [DecidableEq α] (next : α → List α) (goal : α → Bool) : Nat → List α → List α → Nat → Option Nat
  | 0, _, _, _ => none
  | fuel + 1, frontier, seen, d =>
    if frontier.any goal then some d
    else
      let more := (frontier.flatMap next).foldl (fun acc x => if acc.contains x || seen.contains x then acc else acc ++ [x]) []
      if more.isEmpty then none else bfs next goal fuel more (seen ++ more) (d + 1)

/-- Hop distance between two switches of a topology. -/
def hops (g : List Lsr) (a b : Nat) : Option Nat := bfs (peersOf g) (fun x => x = b) (g.length + 1) [a] [a] 0

/-- The switches of a topology that one reaches. -/
def island (g : List Lsr) (a : Nat) : List Lsr := g.filter (fun l => (hops g a l.identity).isSome)

/-- The topology with no limit on stamps: this switch's record and those that are reachable. -/
def State.topologyNow (s : State) : List Lsr := s.fabric.own.toList ++ (s.fabric.db.filter (·.reachable)).map (·.lsr)

/-- The port on which management traffic leaves for a switch: it begins a shortest path of ZENLIA links (R235). Of several, the
lowest. Log entry 18 (DEDUCED). -/
def State.towards (s : State) (id : Nat) : Option Nat :=
  let g := s.topologyNow
  let l := s.managedPorts.filterMap (fun p =>
    ((s.port p).neighbour.bind (fun n => hops g n.1 id)).map (fun d => (p, d)))
  (l.find? (fun x => decide (x.2 = minOf 0 (l.map (·.2))))).map (·.1)

/-- A message of the fabric management channel, made for the port on which it leaves, goes towards a switch; with no path to it,
nothing leaves (R235). -/
def State.sendTowards (s : State) (id : Nat) (o : Nat → Out) : State :=
  match s.towards id with
  | some p => s.queueOut p (o p)
  | none => s

end Sys2Proof.Machine
end

