-- ==== Sys2Proof/Machine/Jdp.lean ====
section
/-! DEFINITION. The Jaxel Dictionary Protocol (02): the checks of R28 as one shared operation, answers, command
triggers, sessions, subscriptions and proxy access. -/

namespace Sys2Proof

/-- Offsets 0 to 23 + Length of a message (Table 2-7). -/
def JdpEnv.head (e : JdpEnv) (op index sub : Nat) : List Byte :=
  jdpHead e.version op e.flags e.alive e.session index sub e.echo e.segment e.length e.abort e.proxyTarget e.row e.payload

/-- The datagram is whole and its CRC field can be located (R29). -/
def JdpEnv.located (e : JdpEnv) : Bool :=
  decide (44 ≤ e.size) && decide (e.length ≤ 1408) && decide (e.size = 44 + e.length)
    && decide (e.payload.length = e.length)

/-- The CRC field can be located and is good (R29, R30). -/
def JdpEnv.crcGood (e : JdpEnv) (op index sub : Nat) : Bool :=
  e.located && decide (jdpCrc (e.head op index sub) e.tag = e.crc)

/-- The tag that the session key gives the message (Table 2-7). -/
def JdpEnv.goodTag (e : JdpEnv) (op index sub : Nat) (key : List Byte) : Nat := jdpTag key (e.head op index sub)

/-- The staged-view flag. -/
def JdpEnv.stagedView (e : JdpEnv) : Bool := e.flags.testBit 4
/-- The more-segments flag. -/
def JdpEnv.more (e : JdpEnv) : Bool := e.flags.testBit 5
/-- The proxy flag with a target (R39). Log entry 11 (DEDUCED). -/
def JdpEnv.proxied (e : JdpEnv) : Bool := e.flags.testBit 3 && decide (e.proxyTarget ≠ 0)

/-- The message came in at a management port, where sessions are. -/
def Transport.isPort : Transport → Bool
  | .mgmtA | .mgmtB => true
  | _ => false

end Sys2Proof

namespace Sys2Proof.Machine

/-- Operation codes of Table 2-7. -/
def opRead : Nat := 0x01
/-- WRITE. -/
def opWrite : Nat := 0x02
/-- READ_BLOCK. -/
def opReadBlock : Nat := 0x03
/-- WRITE_BLOCK. -/
def opWriteBlock : Nat := 0x04
/-- COMMAND. -/
def opCommand : Nat := 0x05
/-- SUBSCRIBE. -/
def opSubscribe : Nat := 0x06
/-- HELLO. -/
def opHello : Nat := 0x10
/-- CHALLENGE. -/
def opChallenge : Nat := 0x11
/-- PROOF. -/
def opProof : Nat := 0x12
/-- ACCEPT. -/
def opAccept : Nat := 0x13
/-- CLOSE. -/
def opClose : Nat := 0x14

/-- The operations that a client may ask for in a session. A NOTIFY, CHALLENGE or ACCEPT from a client is taken for no
operation. Log entry 12 (DEDUCED). -/
def opAsked (op : Nat) : Bool := (decide (1 ≤ op) && decide (op ≤ 6)) || decide (op = opClose)

/-- The rank of a privilege (R20). -/
def privRank : Priv → Nat
  | .observer => 0 | .operator => 1 | .owner => 2 | .secure => 3

/-- The privilege that an ENUM8 value stands for (R350). -/
def privOf : Nat → Priv
  | 0 => .observer | 1 => .operator | 2 => .owner | _ => .secure

/-- The open session in which a message came; one that came by proxy or over I3C has none here (R39). -/
def State.sessionOf (s : State) (e : JdpEnv) : Option Session := if e.via.isPort then s.session e.session else none

/-- The session of a message changed. -/
def State.modOwn (s : State) (e : JdpEnv) (f : Session → Session) : State :=
  if e.via.isPort then s.modSession e.session f else s

/-- The answer to a request: its operation, index, sub-index, segment and row, its counter as the Echo, and a payload or
an abort code with its flag (Table 2-7). Log entry 11 (DEDUCED). -/
def answerTo (e : JdpEnv) (op index sub abort : Nat) (payload : List Byte) (more : Bool := false) : JdpSent :=
  { via := e.via, op := op, flags := 0x80 + (if abort = 0 then 0 else 0x40) + (if more then 0x20 else 0)
    session := e.session, index := index, sub := sub, echo := e.alive % 256, segment := e.segment, abort := abort
    row := e.row, payload := payload }

/-- An answer: code 0 with a payload, or an abort code. In a session it takes the session's next counter and the tag of
its key (R34); an answer outside a session, or to an entry switch, has counter 0 and no tag. -/
def State.reply (s : State) (e : JdpEnv) (op index sub abort : Nat) (payload : List Byte) (more : Bool := false) :
    State :=
  match s.sessionOf e with
  | some x => s.tell x.id (answerTo e op index sub abort payload more)
  | none => s.emit (.jdp ((answerTo e op index sub abort payload more).sealed none))

/-- The answer as it leaves: in a session with its next counter and the tag of its key, elsewhere with neither (R34). -/
def State.answered (s : State) (e : JdpEnv) (op index sub abort : Nat) (payload : List Byte) (more : Bool := false) :
    JdpSent :=
  match s.sessionOf e with
  | some x => x.sends (answerTo e op index sub abort payload more)
  | none => (answerTo e op index sub abort payload more).sealed none

/-- What a dictionary operation gives: an abort code, or the new state and the answer's payload. -/
abbrev Served := Except Nat (State × List Byte)

/-- What a block operation gives: the new state, and an abort code or the answer's payload with its more-segments
flag. -/
abbrev ServedBlock := State × Except Nat (List Byte × Bool)

/-- The answer to an operation. -/
def State.answer (s : State) (e : JdpEnv) (op index sub : Nat) (x : Served) : State :=
  match x with
  | .error code => s.reply e op index sub code []
  | .ok (t, p) => t.reply e op index sub 0 p

/-- The switches' PIDs (R235): this switch owns its SwitchPid and the assigned rows of its PortPids. -/
def State.ownsPid (s : State) (pid : Nat) : Bool :=
  s.r K.fabricSwitchPid = pid ||
  allPorts.any (fun p =>
    let row := s.r (K.fabricPortPids + p)
    row.testBit 31 && decide (bits row 11 0 = pid))

/-- Another switch of the topology database owns the PID. -/
def State.otherOwner (s : State) (pid : Nat) : Option Lsr :=
  (s.fabric.db.find? (fun d => d.lsr.switchPid = pid || d.lsr.pids.any (fun x => decide (bits x.2 11 0 = pid)))).map
    (·.lsr)

/-- A message with the proxy flag is forwarded to the switch that owns the target, on a shortest path of ZENLIA links, with the
privilege of the entry session (R39, R235). Log entry 11 (DEDUCED). -/
def State.forward (s : State) (e : JdpEnv) (p : Priv) (op index sub : Nat) : State :=
  match s.otherOwner (e.proxyTarget % 4096) with
  | none => s.reply e op index sub 0x0D01 []
  | some o =>
    let n := s.mgmt.nextProxy
    let q : ProxyReq :=
      { number := n, session := e.session, op := op, index := index, sub := sub, echo := e.alive % 256
        segment := e.segment, row := e.row, via := e.via, since := s.clock }
    let s := { s with mgmt := { s.mgmt with proxies := s.mgmt.proxies ++ [q], nextProxy := n + 1 } }
    s.sendTowards o.identity (fun x =>
      .forwarded x n (e.proxyTarget % 4096) p e.flags e.session e.segment e.row op index sub e.payload)

/-- A forwarded message for a target that another switch owns goes on towards its owner; the entry switch's number of it rides in
the Echo field (R235). Log entry 64 (DESIGN CHOICE). -/
def State.passOn (s : State) (e : JdpEnv) (p : Priv) (op index sub : Nat) : State :=
  match s.otherOwner (e.proxyTarget % 4096) with
  | none => s.reply e op index sub 0x0D01 []
  | some o => s.sendTowards o.identity (fun x =>
      .forwarded x e.echo (e.proxyTarget % 4096) p e.flags e.session e.segment e.row op index sub e.payload)

/-- The identity objects and start-up objects, which session identifier 0 may READ (R33). -/
def openIndex (i : Nat) : Bool := (decide (0x1000 ≤ i) && decide (i ≤ 0x10FF)) || (decide (0x7F00 ≤ i) && decide (i ≤ 0x7FFF))

/-- The message installs the first credential: a WRITE of the arguments of CredentialInstall or its trigger, which the I3C
target carries before any credential exists (02, Sessions). -/
def State.firstCredential (s : State) (op index sub : Nat) : Bool :=
  s.store.credentials.isEmpty && decide (index = 0x1110)
    && ((decide (op = opWrite) && decide (sub = 0x01)) || (decide (op = opCommand) && decide (sub = 0x02)))

/-- Step 5 of R28: the version, then the operation. -/
def versionRefusal (e : JdpEnv) (op : Nat) : Option Nat :=
  if e.version ≠ 1 then some 0x0102 else if opAsked op then none else some 0x0101

/-- Steps 1 to 5 of R28 for a message of operation `op`: the state that has turned it away, with the answer that says
so where it gets one; or the privilege it acts with, and the state that has accepted it. Messages that fail steps 1 to
3 are counted and not answered; a fragmented datagram is discarded (R29). Log entries 10 (DEDUCED), 11 (DEDUCED). -/
def State.front (s : State) (e : JdpEnv) (op index sub : Nat) : Except State (Priv × State) :=
  match e.via with
  | .proxy p =>
    if s.islandOnly then .error s
    else if e.proxied && !s.ownsPid (e.proxyTarget % 4096) then .error (s.passOn e p op index sub)
    else if !s.on K.proxyAdmit then .error (s.reply e op index sub 0x0D03 [])
    else
      match versionRefusal e op with
      | some code => .error (s.reply e op index sub code [])
      | none => .ok (p, s)
  | .i3c =>
    if e.fragmented then .error s
    else if !e.crcGood op index sub then .error (s.bump K.jdpCrcDiscards 1)
    else if index ≠ 0x1110 then .error (s.bump K.jdpUnknownSessionDiscards 1)
    else
      match versionRefusal e op with
      | some code => .error (s.reply e op index sub code [])
      | none =>
        if !s.firstCredential op index sub then .error (s.reply e op index sub 0x0401 [])
        else if s.device ≠ .preop || s.firmwareAway then .error (s.reply e op index sub 0x0501 [])
        else .ok (.owner, s)
  | _ =>
    if e.fragmented then .error s
    else if !e.crcGood op index sub then .error (s.bump K.jdpCrcDiscards 1)
    else if e.session = 0 then
      if op = opRead && openIndex index then
        if e.version ≠ 1 then .error (s.reply e op index sub 0x0102 [])
        else if e.proxied && !s.ownsPid (e.proxyTarget % 4096) && !s.islandOnly then
          .error (s.forward e .observer op index sub)
        else .ok (.observer, s)
      else .error (s.bump K.jdpUnknownSessionDiscards 1)
    else
      match s.session e.session with
      | none => .error (s.bump K.jdpUnknownSessionDiscards 1)
      | some x =>
        if e.tag ≠ e.goodTag op index sub x.key then .error (s.bump K.jdpTagDiscards 1)
        else
          let d := (e.alive + 256 - x.lastAlive) % 256
          if d = 0 then .error ((s.bump K.jdpAliveRefusals 1).reply e op index sub 0x0B01 [])
          else if 16 < d then .error ((s.bump K.jdpAliveRefusals 1).reply e op index sub 0x0B02 [])
          else
            let s := s.modSession e.session (fun x =>
              { x with lastAlive := e.alive, mgmtB := decide (e.via = .mgmtB), seen := s.clock })
            match versionRefusal e op with
            | some code => .error (s.reply e op index sub code [])
            | none =>
              if e.proxied && !s.ownsPid (e.proxyTarget % 4096) then .error (s.forward e x.priv op index sub)
              else .ok (x.priv, s)

/-- A message served: turned away by steps 1 to 5 of R28, or handled by `h` with its privilege and answered. -/
def State.serve (s : State) (e : JdpEnv) (op index sub : Nat) (h : Priv → State → Served) : State :=
  match s.front e op index sub with
  | .error t => t
  | .ok (p, t) => t.answer e op index sub (h p t)

/-- A message of a block served: an answer may carry the more-segments flag, and a refusal may end the open block. -/
def State.serveBlock (s : State) (e : JdpEnv) (op index sub : Nat) (h : Priv → State → ServedBlock) : State :=
  match s.front e op index sub with
  | .error t => t
  | .ok (p, t) =>
    match h p t with
    | (u, .error code) => u.reply e op index sub code []
    | (u, .ok (d, more)) => u.reply e op index sub 0 d more

/-- A command is admitted in the present device state (Table 19-6, R355). -/
def CmdInfo.admits (c : CmdInfo) (d : DeviceState) : Bool :=
  match d with
  | .preop => c.preop | .operational => c.oper | .safe => c.safe | _ => false

/-- The checks that a command adds to those of every trigger: its resource state (step 10), its range (step 12) and
what it is busy with (step 13). Each gives an abort code, or none. -/
structure CmdChecks where
  resource : Option Nat := none
  range : Option Nat := none
  busy : Option Nat := none
  deriving DecidableEq, Repr

/-- Steps 7 to 13 of R28 for a COMMAND at `.02` of index i (R26, R27, R355), with the checks of that command on the
state and its argument block. -/
def State.triggerRefusal (s : State) (e : JdpEnv) (p : Priv) (c : CmdInfo) (admitted : Bool) (k : CmdChecks) :
    Option Nat :=
  let args := (s.cmd c.index).args
  if privRank p < privRank c.priv then some 0x0401
  else if !admitted then some 0x0501
  else
    k.resource <|>
    (if e.payload.length ≠ 1 then some 0x0601
     else if args.length < c.argMin || c.argMax < args.length then some 0x0601
     else none) <|>
    k.range <|>
    k.busy <|>
    (if (s.cmd c.index).state = .pending then some 0x0801 else none)

/-- The trigger is accepted: `.01` is latched, State is PENDING and Tag is set (R27). -/
def State.accept (s : State) (e : JdpEnv) (i : Nat) : State :=
  let s := s.modCmd i (fun c =>
    { c with latched := c.args, state := .pending, tag := e.payload.headD 0, result := 0, results := [] })
  s.modOwn e (fun x => { x with triggered := x.triggered.filter (fun j => j ≠ i) ++ [i] })

/-- A COMMAND message for index i, its admission given by the command table. -/
def State.trigger (s : State) (e : JdpEnv) (i : Nat) (checks : State → List Byte → CmdChecks)
    (run : State → List Byte → State) : State :=
  s.serve e opCommand i 0x02 (fun p s =>
    match Schema.cmd i with
    | none => .error 0x0201
    | some c =>
      let args := (s.cmd i).args
      match s.triggerRefusal e p c (c.admits s.device) (checks s args) with
      | some code => .error code
      | none => .ok (run (s.accept e i) args, []))

/-! ## Sessions (R31 to R34) -/

/-- The first identifier from x on that no session and no CHALLENGE holds. Log entry 10 (DEDUCED). -/
def State.freeId (s : State) : Nat → Nat → Nat
  | 0, x => x
  | n + 1, x =>
    if x = 0 || s.mgmt.sessions.any (fun y => y.id = x) || s.mgmt.challenges.any (fun y => y.id = x)
    then s.freeId n ((x + 1) % 2 ^ 32) else x

/-- An answer to an opening message, with an all-zero tag (R31). Log entry 10 (DEDUCED). -/
def State.replyOpen (s : State) (e : JdpEnv) (op session abort : Nat) : State :=
  s.emit (.jdp ((answerTo { e with session := session, segment := 0, row := 0 } op 0 0 abort []).sealed none))

/-- HELLO (R31, R32, R33). Log entry 10 (DEDUCED). -/
def State.hello (s : State) (e : JdpEnv) : State :=
  if e.fragmented then s
  else if !e.crcGood opHello 0 0 then s.bump K.jdpCrcDiscards 1
  else if e.session ≠ 0 || s.islandOnly then s.bump K.jdpUnknownSessionDiscards 1
  else if e.tag ≠ 0 then s.bump K.jdpTagDiscards 1
  else if e.version ≠ 1 then s.replyOpen e opHello 0 0x0102
  else if e.payload.length ≠ 18 then s.replyOpen e opHello 0 0x0601
  else if 15 < e.payload.getD 0 0 then s.replyOpen e opHello 0 0x0702
  else if 2 < e.payload.getD 1 0 then s.replyOpen e opHello 0 0x0703
  else if 16 ≤ s.mgmt.sessions.length then s.replyOpen e opHello 0 0x0A02
  else
    let (x, s) := s.fresh
    let (y, s) := s.fresh
    let id := s.freeId 1100 (x % (2 ^ 32 - 1) + 1)
    let nonce := toBytes 16 y
    let c : Challenge :=
      { id := id, slot := e.payload.getD 0 0, asked := privOf (e.payload.getD 1 0),
        clientNonce := e.payload.drop 2, deviceNonce := nonce, since := s.clock }
    let s := { s with mgmt := { s.mgmt with challenges := s.mgmt.challenges ++ [c] } }
    s.emit (.jdp (({ via := e.via, op := opChallenge, session := id, payload := nonce ++ toBytes 8 Config.fabricIdentity } :
      JdpSent).sealed none))

/-- The bytes over which a PROOF is computed. -/
def Challenge.proofBytes (c : Challenge) : List Byte :=
  [0x4A, 0x44, 0x50, 0x31] ++ c.clientNonce ++ c.deviceNonce ++ toBytes 4 c.id

/-- The bytes over which the session key is computed. -/
def Challenge.keyBytes (c : Challenge) : List Byte :=
  [0x4A, 0x44, 0x50, 0x4B] ++ c.deviceNonce ++ c.clientNonce ++ toBytes 4 c.id

/-- A CHALLENGE is forgotten. -/
def State.dropChallenge (s : State) (id : Nat) : State :=
  { s with mgmt := { s.mgmt with challenges := s.mgmt.challenges.filter (fun c => c.id ≠ id) } }

/-- The lower of two privileges. -/
def privMin (a b : Priv) : Priv := if privRank a ≤ privRank b then a else b

/-- PROOF (R31). Log entry 10 (DEDUCED). -/
def State.proof (s : State) (e : JdpEnv) : State :=
  if e.fragmented then s
  else if !e.crcGood opProof 0 0 then s.bump K.jdpCrcDiscards 1
  else
    match s.mgmt.challenges.find? (fun c => c.id = e.session) with
    | none => s.bump K.jdpUnknownSessionDiscards 1
    | some c =>
      if e.tag ≠ 0 then s.bump K.jdpTagDiscards 1
      else if e.version ≠ 1 then s.replyOpen e opProof e.session 0x0102
      else
        let t := s.dropChallenge c.id
        let refuse (code : Nat) := t.replyOpen e opProof e.session code
        match Tbl.find s.store.credentials c.slot with
        | none => refuse 0x0B03
        | some (secret, p) =>
          if e.payload.length ≠ 32 || e.alive ≠ 0 || e.payload ≠ hmac secret c.proofBytes then refuse 0x0B03
          else if 16 ≤ s.mgmt.sessions.length then refuse 0x0A02
          else
            let x : Session :=
              { id := c.id, credential := c.slot, priv := privMin c.asked p, key := hmac secret c.keyBytes,
                lastAlive := 0, tx := 0, mgmtB := decide (e.via = .mgmtB), seen := s.clock }
            let t := { t with mgmt := { t.mgmt with sessions := t.mgmt.sessions ++ [x] } }
            t.emit (.jdp (({ via := e.via, op := opAccept, session := c.id, payload := [privRank x.priv] } :
              JdpSent).sealed (some x.key)))

/-- A session closes, with its subscriptions and its open block (R32, R35). -/
def State.closeSession (s : State) (id : Nat) : State :=
  { s with mgmt := { s.mgmt with sessions := s.mgmt.sessions.filter (fun x => x.id ≠ id) } }

/-- A subscription as its payload gives it: kind 0 with class bits, first and last source, or kind 1. Log entry 9
(DESIGN CHOICE). -/
def subOf (p : List Byte) : Except Nat Sub :=
  match p with
  | [0, c, f1, f0, l1, l0] =>
    if 15 < c then .error 0x0702
    else if 0xFFF < f1 * 256 + f0 || 0xFFF < l1 * 256 + l0 then .error 0x0702
    else if l1 * 256 + l0 < f1 * 256 + f0 then .error 0x0704
    else .ok (.events c (f1 * 256 + f0) (l1 * 256 + l0))
  | [1] => .ok .commands
  | k :: _ => if 1 < k then .error 0x0703 else .error 0x0601
  | [] => .error 0x0601

/-- HELLO: a CHALLENGE, or a refusal. -/
def execHello (env : JdpEnv) (s : State) : Res := effectOf env (fun s => s.hello env) s

/-- PROOF: an ACCEPT and an open session, or a refusal. -/
def execProof (env : JdpEnv) (s : State) : Res := effectOf env (fun s => s.proof env) s

/-- A CHALLENGE without a good PROOF within 2 s is forgotten (R31). -/
def execChallengeTimeout (session : Nat) (s : State) : Res :=
  effect (fun s =>
    if s.mgmt.challenges.any (fun c => decide (c.id = session) && decide (2000000000 ≤ s.nsAgo c.since)) then
      s.dropChallenge session
    else s) s

/-- CLOSE from the client: answered, and the session ends (R32). One with the proxy flag is forwarded as any message, and the entry
session stays; at its target it is answered with success and closes nothing. Log entry 64 (DESIGN CHOICE). -/
def execClose (env : JdpEnv) (s : State) : Res :=
  effectOf env (fun s =>
    match s.front env opClose 0 0 with
    | .error t => t
    | .ok (_, t) =>
      let t := t.reply env opClose 0 0 0 []
      if env.via.isPort then t.closeSession env.session else t) s

/-- The session has been idle for SessionIdleTimeout (R32). -/
def State.sessionIdle (s : State) (id : Nat) : Bool :=
  (s.session id).any (fun x => decide (s.r K.mgmtSessionIdleTimeout * 1000000000 ≤ s.nsAgo x.seen))

/-- SessionIdleTimeout passes with no accepted message: the session closes (R32). One that a message has kept open stays.
Log entry 3 (DESIGN CHOICE). -/
def execSessionIdleTimeout (session : Nat) (s : State) : Res :=
  effect (fun s => if s.sessionIdle session then s.closeSession session else s) s

/-- SUBSCRIBE: at most 16 subscriptions of a session (02, Subscriptions and notifications); one that comes by proxy is answered with
success and leaves no subscription, since NOTIFY goes to sessions of this switch. Log entries 9 (DESIGN CHOICE), 64 (DESIGN CHOICE). -/
def execSubscribe (env : JdpEnv) (s : State) : Res :=
  effectOf env (fun s => s.serve env opSubscribe 0 0 (fun _ s =>
    match subOf env.payload with
    | .error c => .error c
    | .ok b =>
      match s.sessionOf env with
      | none => .ok (s, [])
      | some x =>
        if 16 ≤ x.subs.length then .error 0x0A03
        else .ok (s.modSession env.session (fun x => { x with subs := x.subs ++ [b] }), []))) s

/-- The FM API return code of a refusal by its abort code's class (R40, R357). -/
def fmCode (code : Nat) : RetCode :=
  match code / 256 with
  | 0x00 => .success
  | 0x01 => .unsupported
  | 0x02 => .unsupported
  | 0x03 => .unsupported
  | 0x04 => .unsupported
  | 0x05 => .invalidInput
  | 0x06 => .invalidInput
  | 0x07 => .invalidInput
  | 0x08 => .busy
  | 0x09 => .busy
  | 0x0A => .resourcesExhausted
  | 0x0D => if code = 0x0D02 then .retryRequired else .invalidInput
  | _ => .internalError

/-- The answer of a proxied request goes to the session, or over the FM API, that made it (R39, R359). Log entry 47
(DESIGN CHOICE). -/
def State.passAnswer (s : State) (q : ProxyReq) (abort : Nat) (payload : List Byte) (more : Bool := false) : State :=
  match q.fm with
  | some via => s.emit (.fm via (fmCode abort) (if abort = 0 then payload else []))
  | none =>
    let m : JdpSent :=
      { via := q.via, op := q.op, flags := 0x80 + (if abort = 0 then 0 else 0x40) + (if more then 0x20 else 0)
        index := q.index, sub := q.sub, echo := q.echo, segment := q.segment, row := q.row, abort := abort
        payload := payload }
    if q.session = 0 then s.emit (.jdp (m.sealed none))
    else
      match s.session q.session with
      | none => s
      | some x => s.tell q.session { m with via := x.via }

/-- The target's answer is passed on under the entry session (R39). -/
def execProxyAnswer (request abort : Nat) (payload : Segment) (s : State) : Res :=
  effect (fun s =>
    match s.mgmt.proxies.find? (fun q => q.number = request) with
    | none => s
    | some q =>
      let s := { s with mgmt := { s.mgmt with proxies := s.mgmt.proxies.filter (fun q => q.number ≠ request) } }
      s.passAnswer q abort payload.bytes payload.more) s

/-- No answer within 10 ms: abort code 0x0D02, counted (R39). -/
def execProxyTimeout (request : Nat) (s : State) : Res :=
  effect (fun s =>
    match s.mgmt.proxies.find? (fun q => q.number = request) with
    | none => s
    | some q =>
      if s.nsAgo q.since < 10000000 then s
      else
        let s := { s with mgmt := { s.mgmt with proxies := s.mgmt.proxies.filter (fun q => q.number ≠ request) } }
        (s.bump K.jdpProxyTimeouts 1).passAnswer q 0x0D02 []) s

/-- The checks of CredentialInstall (R362). Log entry 12 (DEDUCED). -/
def credentialChecks (args : List Byte) : CmdChecks :=
  { range := if 15 < args.getD 0 0 then some 0x0702 else if 2 < args.getD 1 0 then some 0x0703 else none }

/-- A credential written into its slot of the persistent store. -/
def State.installCredential (s : State) (args : List Byte) : State :=
  let s := { s with store := { s.store with
    credentials := Tbl.put s.store.credentials (args.getD 0 0) (args.drop 2, privOf (args.getD 1 0)) } }
  s.cmdDone 0x1110 []

/-- CREDENTIAL_INSTALL: over a session of an OWNER; over the I3C target, without a session, only before any credential
exists and only in PREOP (02, Sessions; R355). -/
def execCredentialInstall (env : JdpEnv) (s : State) : Res :=
  effectOf env (fun s =>
    s.trigger env 0x1110 (fun _ args => credentialChecks args) (fun s args => s.installCredential args)) s

end Sys2Proof.Machine
end

