-- ==== Sys2Proof/Machine/Operands.lean ====
section
/-! DEFINITION. The operand forms of dictionary operations: values of each object type with their refusals (R19), and
the checks of reads and writes by existence, privilege, access code and device state (R20, R22, R28, R349). -/

namespace Sys2Proof.Machine

/-- The value is a valid encoding of the type (R19). Log entry 12 (DEDUCED). -/
def Ty.encodingRefusal (t : Ty) (v : Nat) : Option Nat :=
  match t with
  | .bool => if 1 < v then some 0x0602 else none
  | .beat => if v >>> 58 ≠ 0 then some 0x0602 else none
  | _ => none

/-- The value lies in the object's range (R19). Log entry 12 (DEDUCED). -/
def Dom.rangeRefusal (d : Dom) (t : Ty) (v : Nat) : Option Nat :=
  match d with
  | .any => none
  | .range lo hi => if v < lo then some 0x0701 else if hi < v then some 0x0702 else none
  | .signed lo hi =>
    let x := ofTwos (8 * t.size) v
    if x < lo then some 0x0701 else if hi < x then some 0x0702 else none
  | .enum n => if v < n then none else some 0x0703
  | .oneOf lo hi l =>
    if v < lo then some 0x0701 else if hi < v then some 0x0702 else if l.contains v then none else some 0x0703
  | .orNone hi none' =>
    if v ≤ hi || v = none' then none else if none' < v then some 0x0702 else some 0x0703

/-- Type and range of one value of an object (steps 11 and 12 of R28). -/
def ObjInfo.valueRefusal (o : ObjInfo) (v : Nat) : Option Nat :=
  o.ty.encodingRefusal v <|> o.dom.rangeRefusal o.ty v

/-- Step 6 of R28: the object exists (R349). -/
def existsRefusal (i sub : Nat) : Option Nat :=
  match Schema.highest i with
  | none => some 0x0201
  | some h =>
    if sub = 0 then none
    else if (Schema.cmd i).isSome then (if sub ≤ h then none else some 0x0202)
    else if (Schema.find i sub).isSome then none else some 0x0202

/-- A read is admitted in the device state (Table 2-3): while only the island answers, that of the RO objects among the
identity and start-up objects. -/
def State.admitsRead (s : State) (i sub : Nat) : Bool :=
  !s.islandOnly ||
    (openIndex i && (Schema.cmd i).isNone
      && (decide (sub = 0) || (match Schema.find i sub with | some o => decide (o.acc = .ro) | none => false)))

/-- A write of an object with this access code is admitted in the device state (Table 2-3). -/
def State.admitsWrite (s : State) (a : Acc) : Bool :=
  match s.device, a with
  | .preop, .ro => false
  | .preop, _ => true
  | .operational, .rw => true
  | .operational, .stg => true
  | .operational, .wo => true
  | _, _ => false

/-- The object is WO (Table 2-2): an object so declared, a command's trigger, or the argument block of CredentialInstall,
which holds a secret (02, Sessions). Log entry 12 (DEDUCED). -/
def writeOnly (i sub : Nat) : Bool :=
  match Schema.cmd i with
  | some _ => decide (sub = 2) || (decide (i = 0x1110) && decide (sub = 1))
  | none => match Schema.find i sub with | some o => decide (o.acc = .wo) | none => false

/-- Steps 6 to 9 of R28 for a READ. -/
def State.readRefusal (s : State) (i sub : Nat) : Option Nat :=
  existsRefusal i sub <|> (if writeOnly i sub then some 0x0301 else none) <|>
  (if s.admitsRead i sub then none else some 0x0501)

/-- Step 7 of R28: the privilege of the request against that of the object (R20). -/
def privRefusal (p least : Priv) : Option Nat :=
  if least = .secure then some 0x0402 else if privRank p < privRank least then some 0x0401 else none

/-- Steps 6 to 9 of R28 for a WRITE of an object that is no command. -/
def State.writeRefusal (s : State) (p : Priv) (i sub : Nat) : Option Nat :=
  existsRefusal i sub <|>
  (match Schema.find i sub with
   | none => some 0x0302
   | some o =>
     privRefusal p o.priv <|>
     (if o.acc = .ro then some 0x0302 else if s.admitsWrite o.acc then none else some 0x0501))

/-- Steps 6 to 9 of R28 for a WRITE of `.01` of a command (R22, R26, Table 19-6). Log entry 12 (DEDUCED). -/
def State.argsRefusal (s : State) (p : Priv) (c : CmdInfo) (sub : Nat) : Option Nat :=
  existsRefusal c.index sub <|> privRefusal p c.priv <|>
  (if sub ≠ 1 then some 0x0302 else if c.admits s.device then none else some 0x0501)

/-- Steps 6 to 8 of R28 for a COMMAND that triggers nothing: to an object that is no command, or to a sub-index of one
other than 0x02 (R26). -/
def commandRefusal (p : Priv) (i sub : Nat) : Nat :=
  (existsRefusal i sub <|>
   (match Schema.cmd i, Schema.find i sub with
    | some c, _ => privRefusal p c.priv
    | none, some o => privRefusal p o.priv
    | none, none => none)).getD 0x0303

/-- The whole rows that a window's payload holds. -/
def rowsOf (size : Nat) (p : List Byte) : List Nat :=
  if size = 0 then [] else (pieces size (p.length / size) p).map ofBytes

/-- Length and range of a window written to a TABLE (R37): whole rows, all of them in the table. A window of Length 0 holds no
row: what R37 says of it is open, and it is refused with 0x0601. Log entry 59 (DESIGN CHOICE). -/
def ObjInfo.windowRefusal (o : ObjInfo) (row : Nat) (p : List Byte) : Option Nat :=
  let n := o.ty.size
  if p.isEmpty || p.length % n ≠ 0 then some 0x0601
  else if o.rows ≤ row || o.rows < row + p.length / n then some 0x0702
  else none

/-- The first refusal of a list of checks. -/
def firstOf (l : List (Option Nat)) : Option Nat :=
  match l with
  | [] => none
  | x :: t => match x with
    | some c => some c
    | none => firstOf t

end Sys2Proof.Machine
end

