-- ==== Sys2Proof/Machine/Telemetry.lean ====
section
/-! DEFINITION. Counters and transaction sampling (15). -/

namespace Sys2Proof.Machine

/-- The event types of Table 15-3. -/
def evFlitsReceived : Nat := 0x000
/-- FlitsSent. -/
def evFlitsSent : Nat := 0x001
/-- CreditStallTime, ns. -/
def evCreditStall : Nat := 0x010
/-- RequestsAccepted. -/
def evRequests : Nat := 0x040
/-- ReadDataBytes. -/
def evReadBytes : Nat := 0x041
/-- WriteDataBytes. -/
def evWriteBytes : Nat := 0x042
/-- CellsIntoCore. -/
def evCellsIn : Nat := 0x080
/-- StopMapClosures. -/
def evClosures : Nat := 0x081
/-- CellsSent. -/
def evCellsSent : Nat := 0x0C0
/-- PolicedTime, ns. -/
def evPoliced : Nat := 0x0C1
/-- ExtentLookups. -/
def evLookups : Nat := 0x100
/-- ExtentMisses. -/
def evMisses : Nat := 0x101
/-- HomeAcquires. -/
def evAcquires : Nat := 0x140
/-- SnoopsSent. -/
def evSnoops : Nat := 0x141
/-- Replacements. -/
def evReplacements : Nat := 0x142
/-- DualWrites. -/
def evDualWrites : Nat := 0x180
/-- CopyBytes. -/
def evCopyBytes : Nat := 0x181
/-- AtomicOps. -/
def evAtomics : Nat := 0x190
/-- AcuRefusals. -/
def evRefusals : Nat := 0x1C0
/-- PoisonAnswers. -/
def evPoison : Nat := 0x1C1

/-- The event types that Table 15-3 defines. Log entry 16 (DEDUCED). -/
def eventTypes : List Nat :=
  [evFlitsReceived, evFlitsSent, evCreditStall, evRequests, evReadBytes, evWriteBytes, evCellsIn, evClosures,
   evCellsSent, evPoliced, evLookups, evMisses] ++
  [evAcquires, evSnoops, evReplacements, evDualWrites, evCopyBytes, evAtomics, evRefusals, evPoison]

/-- The attributes an occurrence carries. -/
structure EventOf where
  tenant : Option Nat := none
  port : Option Nat := none
  cls : Option Nat := none
  deriving DecidableEq, Repr

/-- An occurrence passes the filters of a counter's row (R284). -/
def counterMatches (row ev : Nat) (e : EventOf) : Bool :=
  row.testBit 63 && decide (bits row 62 54 = ev)
    && (row.testBit 53 || (match e.tenant with | some t => decide (bits row 52 47 = t) | none => false))
    && (row.testBit 46 || (match e.port with | some p => decide (bits row 45 39 = p) | none => false))
    && (match e.cls with | some c => row.testBit (38 - c) | none => decide (bits row 38 33 = 0x3F))

/-- The rows of CounterConfig that differ from their default. -/
def State.counterRows (s : State) : List (Nat × Nat) :=
  s.regs.filter (fun e => decide (K.telCounterConfig ≤ e.1) && decide (e.1 < K.telCounterConfig + 2048))

/-- Every enabled counter that an event matches adds its amount, modulo 2^48, and counts its wraps (R284). -/
def State.count (s : State) (ev amount : Nat) (e : EventOf) : State :=
  s.each (s.counterRows.filter (fun r => counterMatches r.2 ev e)) (fun u r =>
    let c := r.1 - K.telCounterConfig
    let (v, w) := Tbl.getD u.tel.counters c (0, 0)
    let x := v + amount
    { u with tel := { u.tel with
      counters := Tbl.putD u.tel.counters c (x % 2 ^ 48, (w + x / 2 ^ 48) % 256) (0, 0) } })

/-- The class of a link channel's messages (Table 5-1), numbered as Table 6-1 numbers it. -/
def chanClass (c : Nat) : Nat := [0, 1, 2, 3, 3, 4, 4, 5, 5, 3, 3].getD c 4

/-- The time of the policer's holds that no counter holds yet is added to PolicedTime (R137, R284). -/
def State.accruePoliced (s : State) (p : Nat) : State :=
  s.each (s.port p).policed (fun u e =>
    let ns := u.nsSince e.2.1 e.2.2
    let new := ns - Tbl.getD (u.port p).policedNs e.1 0
    let u := (u.bump (K.egressPolicedTime p) new).count evPoliced new
      { tenant := u.tenantOfPort p, port := some p, cls := some (chanClass e.1) }
    u.modPort p (fun x => { x with policedNs := Tbl.put x.policedNs e.1 ns }))

/-- The time of running credit timers that no counter holds yet is counted (R97, R284). -/
def State.accrueStalls (s : State) (p : Nat) : State :=
  s.each (s.port p).creditTimer (fun u e =>
    let ns := u.nsSince e.2.1 e.2.2
    let u := u.count evCreditStall (ns - Tbl.getD (u.port p).stalledNs e.1 0) { port := some p }
    u.modPort p (fun x => { x with stalledNs := Tbl.put x.stalledNs e.1 ns }))

/-- Times that run now are counted as far as they have run: whoever reads a counter sees every cycle before it (R284). Log entry
16 (DEDUCED). -/
def State.accrueTimes (s : State) : State := s.each (s.ports.map (·.1)) (fun u p => (u.accruePoliced p).accrueStalls p)

/-- A counter's Value and Wraps become 0 (R285). -/
def State.clearCounter (s : State) (c : Nat) : State :=
  { s with tel := { s.tel with counters := Tbl.del s.tel.counters c } }

/-- A row of CounterConfig is refused (R285). -/
def counterRowRefusal (row : Nat) : Option Nat :=
  if !eventTypes.contains (bits row 62 54) then some 0x0703
  else if 95 < bits row 45 39 then some 0x0702
  else none

/-- A row of StreamConfig is refused (Table 15-4). -/
def streamRowRefusal (row : Nat) : Option Nat :=
  if 24 < bits row 62 58 then some 0x0702 else if 95 < bits row 49 43 then some 0x0702 else none

/-- The row of a counter in CounterValues or ShadowBank (Table 15-2). -/
def counterRow (v w tag : Nat) : Nat := (w % 256) * 2 ^ 56 + (tag % 256) * 2 ^ 48 + v % 2 ^ 48

/-- The snapshot of R287. -/
def State.snapshot (s : State) : State :=
  let t := { s with tel := { s.tel with shadow := s.tel.counters.map (fun (e : Nat × CounterVal) => (e.1, (e.2, s.beat % 256))) } }
  (t.w K.telShadowBeat (beatVal s.beat 0)).wb K.telShadowHeld true

/-- A snapshot is due at the present beat (R288). Log entry 34 (DEDUCED). -/
def State.snapshotDue (s : State) : Bool :=
  let p := s.r K.telSnapshotPeriod
  (p ≠ 0 && s.beat % p = 0) || s.tel.snapshotAt.any (fun n => decide (n ≤ s.beat))

/-- A due snapshot is made or skipped, and an armed one ends its command (R287 to R289). -/
def State.snapshotStep (s : State) : State :=
  if !s.snapshotDue then s
  else
    let s := s.accrueTimes
    let skip := s.on K.telShadowHeld || s.beatState = .beatless || s.device ≠ .operational
    let armed := s.tel.snapshotAt.any (fun n => decide (n ≤ s.beat))
    let t := if skip then s.missedWork 5 {} else s.snapshot
    let t := if armed then { t with tel := { t.tel with snapshotAt := none } } else t
    if !armed then t
    else if skip then t.cmdFailed 0x7004 0x0002
    else t.cmdDone 0x7004 (toBytes 8 (beatVal s.beat 0))

/-! ## Sampling -/

/-- The channels of Table 15-4, from bit 42 down: M2S Req, M2S RwD, IO TLP, AtomicOp. -/
def streamMatches (row tenant port chan : Nat) : Bool :=
  row.testBit 63 && (row.testBit 57 || decide (bits row 56 51 = tenant))
    && (row.testBit 50 || decide (bits row 49 43 = port)) && row.testBit (42 - chan)

/-- The seed of stream k's register (R290). Log entry 49 (DEDUCED). -/
def State.streamSeed (s : State) (k : Nat) : Nat :=
  let x := (s.r K.telSamplerSeed ^^^ k) % 2 ^ 31
  if x = 0 then 1 else x

/-- At start-up every stream's register is seeded (R290). Log entry 49 (DEDUCED). -/
def State.seedStreams (s : State) : State :=
  { s with tel := { s.tel with streams := (upTo 16).map (fun k => (k, s.streamSeed k)) } }

/-- The register of stream k. -/
def State.stream (s : State) (k : Nat) : Nat := Tbl.getD s.tel.streams k 1

/-- The register shifted left by one bit, entering bit 30 exclusive-or bit 27 (R290). -/
def shiftStream (x : Nat) : Nat := (x * 2 + ofBool (x.testBit 30 != x.testBit 27)) % 2 ^ 31

/-- Every matching stream shifts; the lowest stream that selects the transaction (R290). -/
def State.shiftStreams (s : State) (tenant port chan : Nat) : Option Nat × State :=
  (upTo 16).foldl (fun acc k =>
    let (sel, u) := acc
    let row := u.r (K.telStreamConfig + k)
    if streamMatches row tenant port chan then
      let x := shiftStream (u.stream k)
      let u := { u with tel := { u.tel with streams := Tbl.put u.tel.streams k x } }
      let hit := x % 2 ^ bits row 62 58 = 0
      (if sel.isNone && hit then some k else sel, u)
    else (sel, u)) (none, s)

/-- The attributes of a transaction that a record keeps (Table 15-5). -/
structure Transaction where
  tenant : Nat
  port : Nat
  slice : Nat
  chan : Nat
  opcode : Nat
  hpa : Nat
  deriving DecidableEq, Repr

/-- The first number from `h` on whose row is in use (R271). Log entry 49 (DEDUCED). -/
def skipRows (rows : List Nat) : Nat → Nat → Nat
  | 0, h => h
  | fuel + 1, h => if rows.contains (h % 65536) then skipRows rows fuel ((h + 1) % 2 ^ 32) else h

/-- What a record keeps of a transaction at its allocation. -/
def State.newSample (s : State) (k : Nat) (x : Transaction) (number : Nat) : Sample :=
  { stream := k, tenant := x.tenant, port := x.port, opcode := x.opcode, beat := s.beat, tick := s.tick, hpa := x.hpa,
    gen := s.r (K.tenantGeneration x.tenant), number := number, slice := x.slice }

/-- A selected transaction is given the next row of the ring (R291): the record's number, unless the ring is full in STOP.
Log entry 49 (DEDUCED). -/
def State.allocSample (s : State) (k : Nat) (x : Transaction) : Option (Nat × Nat) × State :=
  let head := skipRows s.tel.retiredRows s.tel.retiredRows.length (s.r K.telSampleHead)
  let tail := s.r K.telSampleTail
  let used := (head + 2 ^ 32 - tail) % 2 ^ 32
  if s.r K.telSampleMode = 1 && 65536 ≤ used then (none, s.bump K.telSamplesLost 1)
  else
    let next := (head + 1) % 2 ^ 32
    let s := { s with tel := { s.tel with
      samples := Tbl.put s.tel.samples (head % 65536) (s.newSample k x head), lastSlot := some (s.core.slot, x.slice, head) } }
    let s := s.w K.telSampleHead next
    let s := if s.r K.telSampleMode = 0 && 65536 < (next + 2 ^ 32 - tail) % 2 ^ 32
      then s.w K.telSampleTail ((next + 2 ^ 32 - 65536) % 2 ^ 32) else s
    (some (head, x.slice), s)

/-- A transaction is offered to the sampler at its ingress: streams shift, and a selected one is given a record. Of those selected in
one slot the lowest-numbered slice keeps the record, and every other one is counted in SamplesDropped (R290, R291). The answer is
the record's number and slice. Log entry 49 (DEDUCED). -/
def State.sampleTransaction (s : State) (x : Transaction) : Option (Nat × Nat) × State :=
  let (sel, s) := s.shiftStreams x.tenant x.port x.chan
  match sel with
  | none => (none, s)
  | some k =>
    if s.device ≠ .operational then (none, s)
    else
      match s.tel.lastSlot with
      | some (slot, slice, n) =>
        if slot ≠ s.core.slot then s.allocSample k x
        else
          let s := s.bump K.telSamplesDropped 1
          if slice ≤ x.slice then (none, s)
          else (some (n, x.slice), { s with tel := { s.tel with
            samples := Tbl.put s.tel.samples (n % 65536) (s.newSample k x n), lastSlot := some (slot, x.slice, n) } })
      | none => s.allocSample k x

/-- The record that a transaction was given is changed while it is that transaction's and not complete (R291, R294). -/
def State.modSample (s : State) (l : Option (Nat × Nat)) (f : Sample → Sample) : State :=
  match l with
  | none => s
  | some (n, slice) =>
    match Tbl.find s.tel.samples (n % 65536) with
    | some x =>
      if x.number = n && x.slice = slice && !x.valid then
        { s with tel := { s.tel with samples := Tbl.put s.tel.samples (n % 65536) (f x) } }
      else s
    | none => s

/-- What the translation of a sampled request finds is kept (Table 15-5). -/
def State.sampleTarget (s : State) (l : Option (Nat × Nat)) (target ld path : Nat) : State :=
  s.modSample l (fun x => { x with target := target, ld := ld, path := path })

/-- A record that ends without times: they read all ones (R292, R293). -/
def Sample.ended (x : Sample) (outcome : Nat) : Sample :=
  { x with valid := true, toEgress := 2 ^ 20 - 1, toCompletion := 2 ^ 32 - 1, outcome := outcome }

/-- The records of a tenant's transactions that have not ended end as STALE (R293). -/
def State.staleSamples (s : State) (t : Nat) : State :=
  { s with tel := { s.tel with samples := s.tel.samples.map (fun e =>
      if e.2.tenant = t && !e.2.valid then (e.1, e.2.ended 4) else e) } }

/-- The 256-bit row of a record; while it is not valid, only what was known at allocation (R293). -/
def Sample.row (x : Sample) : Nat :=
  let v := x.valid
  let z (n : Nat) : Nat := if v then n else 0
  let a := ((ofBool v * 16 + x.stream % 16) * 64 + x.tenant % 64) * 128 + x.port % 128
  let b := ((a * 256 + z (x.opcode % 256)) * 8 + z (x.outcome % 8)) * 4 + z (x.path % 4)
  let c := (b * 2 ^ 48 + x.beat % 2 ^ 48) * 1024 + x.tick % 1024
  let d := ((c * 2 ^ 52 + z (x.hpa % 2 ^ 52)) * 4096 + z (x.target % 4096)) * 16 + z (x.ld % 16)
  let e := (d * 2 ^ 20 + z x.toEgress) * 2 ^ 32 + z x.toCompletion
  ((e * 65536 + z (x.depth % 65536)) * 65536 + z (x.gen % 65536)) * 2 ^ 15

/-- SAMPLE_RECORD_COMPLETE: the record becomes Valid; a reallocated row is not written (R292, R294). Times past their
field read all ones. Log entry 49 (DEDUCED). -/
def execSampleRecordComplete (record toEgress toCompletion : Nat) (outcome : Fin 6) (s : State) : Res :=
  effect (fun s =>
    match Tbl.find s.tel.samples (record % 65536) with
    | none => s
    | some x =>
      if x.number ≠ record then
        if (x.number + 2 ^ 32 - record) % 2 ^ 32 < 2 ^ 31 then s.bump K.telRecordsAbandoned 1 else s
      else if x.valid then s
      else
        let y := { x with
          valid := true, toEgress := min toEgress (2 ^ 20 - 1), toCompletion := min toCompletion (2 ^ 32 - 1),
          outcome := outcome.val }
        { s with tel := { s.tel with samples := Tbl.put s.tel.samples (record % 65536) y } }) s

/-- A WRITE of SampleTail: it moves forward, never past SampleHead (R295). -/
def State.writeTail (s : State) (p : Priv) (data : List Byte) : Served :=
  let v := ofBytes data
  let head := s.r K.telSampleHead
  let tail := s.r K.telSampleTail
  let ahead := (v + 2 ^ 32 - tail) % 2 ^ 32
  let room := (head + 2 ^ 32 - tail) % 2 ^ 32
  match firstOf [s.writeRefusal p 0x7000 0x06, if data.length ≠ 4 then some 0x0601 else none,
    if ahead ≤ room then none else if v < tail then some 0x0701 else some 0x0702] with
  | some c => .error c
  | none => .ok (s.w K.telSampleTail v, [])

/-- SAMPLE_TAIL_WRITE (R295). -/
def execSampleTailWrite (env : JdpEnv) (s : State) : Res :=
  effectOf env (fun s => s.serve env opWrite 0x7000 0x06 (fun p s => s.writeTail p env.payload)) s

/-- COUNTER_WINDOW_READ: a READ of a window of CounterValues, its rows latched in ascending order (R286, R37). The
model takes no time between the rows: the counters of one window are those of one step. Log entry 15 (DESIGN CHOICE). -/
def execCounterWindowRead (env : JdpEnv) (s : State) : Res :=
  effectOf env (fun s => s.serve env opRead 0x7002 0x01 (fun _ s =>
    match firstOf [s.readRefusal 0x7002 0x01, if env.length ≠ 0 then some 0x0601 else none,
      if 2048 ≤ env.row then some 0x0702 else none] with
    | some c => .error c
    | none =>
      let s := s.accrueTimes
      let rows := (upTo (min 176 (2048 - env.row))).map (fun k =>
        let (v, w) := Tbl.getD s.tel.counters (env.row + k) (0, 0)
        toBytes 8 (counterRow v w 0))
      .ok (s, rows.flatMap id))) s

/-- The checks of SnapshotArm. -/
def State.snapshotChecks (s : State) (args : List Byte) : CmdChecks :=
  { range :=
      if ofBytes args % 1024 ≠ 0 || ofBytes args >>> 58 ≠ 0 then some 0x0602
      else if s.beat + 1048576 < ofBytes args / 1024 then some 0x0702 else none }

/-- SNAPSHOT_ARM (R289). -/
def execSnapshotArm (env : JdpEnv) (s : State) : Res :=
  effectOf env (fun s => s.trigger env 0x7004
    (fun s args => s.snapshotChecks args)
    (fun s args =>
      let n := ofBytes args / 1024
      if s.afterCutoff n then s.cmdFailed 0x7004 0x0301
      else { s with tel := { s.tel with snapshotAt := some n } })) s

/-- SHADOW_RELEASE: ShadowHeld becomes FALSE (R288). -/
def execShadowRelease (env : JdpEnv) (s : State) : Res :=
  effectOf env (fun s => s.trigger env 0x7005 (fun _ _ => {})
    (fun s _ => (s.wb K.telShadowHeld false).cmdDone 0x7005 [])) s

/-- READ_COUNTERS: opcode 0xC000 of the tenant's mailbox, for the counters that filter on the tenant: each row of CounterValues, and
with the shadow flag each row of ShadowBank, preceded by its counter's number (R296). -/
def execReadCounters (tenant : TenantId) (shadow : Bool) (s : State) : Res :=
  effect (fun s =>
    if !s.on (K.tenantTelemetryGrant tenant.val) then s.emit (.mailbox tenant.val .unsupported [])
    else
      let s := s.accrueTimes
      let rows := (s.counterRows.filter (fun r => !r.2.testBit 53 && decide (bits r.2 52 47 = tenant.val))).flatMap
        (fun r =>
          let c := r.1 - K.telCounterConfig
          let (v, w) := Tbl.getD s.tel.counters c (0, 0)
          let live := counterRow v w 0
          let ((sv, sw), tag) := Tbl.getD s.tel.shadow c ((0, 0), bits (s.r K.telShadowBeat) 17 10)
          if shadow then [c, live, c, counterRow sv sw tag] else [c, live])
      s.emit (.mailbox tenant.val .success rows)) s

/-- Of the `left` records from sequence n on, up to `room` of a tenant, and the next sequence to ask for. -/
def State.samplesOf (s : State) (t : Nat) : Nat → Nat → Nat → List Nat × Nat
  | 0, n, _ => ([], n)
  | left + 1, n, room =>
    if room = 0 then ([], n)
    else
      match Tbl.find s.tel.samples (n % 65536) with
      | some x =>
        if x.number = n && x.tenant = t then
          let (l, m) := s.samplesOf t left ((n + 1) % 2 ^ 32) (room - 1)
          (x.row :: l, m)
        else s.samplesOf t left ((n + 1) % 2 ^ 32) room
      | none => s.samplesOf t left ((n + 1) % 2 ^ 32) room

/-- The records that the ring holds from a starting sequence on, modulo 2^32: where to start, and how many. -/
def State.sampleSpan (s : State) (start : Nat) : Nat × Nat :=
  let ahead := (s.r K.telSampleHead + 2 ^ 32 - start % 2 ^ 32) % 2 ^ 32
  if ahead ≤ 65536 then (start % 2 ^ 32, ahead)
  else if ahead < 2 ^ 31 then ((s.r K.telSampleHead + 2 ^ 32 - 65536) % 2 ^ 32, 65536)
  else (start % 2 ^ 32, 0)

/-- READ_SAMPLES: opcode 0xC001 of the tenant's mailbox (R296). -/
def execReadSamples (tenant : TenantId) (start : Nat) (s : State) : Res :=
  effect (fun s =>
    if !s.on (K.tenantTelemetryGrant tenant.val) then s.emit (.mailbox tenant.val .unsupported [])
    else
      let (rows, next) := s.samplesOf tenant.val (s.sampleSpan start).2 (s.sampleSpan start).1 64
      s.emit (.mailbox tenant.val .success (rows ++ [next]))) s

end Sys2Proof.Machine
end

