-- ==== Sys2Proof/Machine/Fabric.lean ====
section
/-! DEFINITION. The fabric (12): neighbours, link-state records, routes, forwarding and the multipath hash. -/

namespace Sys2Proof.Machine

/-- Sequence number a is newer than b, modulo 2^32 (R233). -/
def seqNewer (a b : Nat) : Bool :=
  let d := (a + 2 ^ 32 - b % 2 ^ 32) % 2 ^ 32
  decide (0 < d) && decide (d < 2 ^ 31)

/-- The port has a ZENLIA neighbour whose link counts in the routes (R230, R240, R245). -/
def State.linkCounts (s : State) (p : Nat) : Bool :=
  s.portExists p && s.isFabric p && (s.port p).inRoutes && (s.port p).neighbour.isSome && !(s.port p).foreign

/-- The hello that this switch sends on a port (R230). -/
def State.ownHello (s : State) (p : Nat) : Hello :=
  { identity := Config.fabricIdentity, switchPid := s.r K.fabricSwitchPid, port := p,
    width := s.r (K.portNegotiatedWidth p), rate := s.r (K.portNegotiatedRate p) }

/-- One entry of this switch's link-state record. -/
def State.ownLink (s : State) (p : Nat) : LsrLink :=
  let n := (s.port p).neighbour
  { localPort := p, peer := n.map (·.1), peerPort := (n.map (·.2.1)).getD 0, weuri := s.portMode p = 3,
    delay := s.r (K.beatLinkDelay + p), width := s.r (K.portNegotiatedWidth p), rate := s.r (K.portNegotiatedRate p) }

/-- The content of this switch's link-state record (R233). -/
def State.ownLsr (s : State) (sequence stamp : Nat) : Lsr :=
  { identity := Config.fabricIdentity, switchPid := s.r K.fabricSwitchPid, beatRoot := s.on K.beatBeatRoot,
    proxyAdmit := s.on K.proxyAdmit,
    pids := (allPorts.filter (fun p => (s.r (K.fabricPortPids + p)).testBit 31)).map
      (fun p => (p, s.r (K.fabricPortPids + p))),
    links := (allPorts.filter s.linkCounts).map s.ownLink, sequence := sequence, stamp := stamp }

/-- A record is flooded at once on every link to a ZENLIA neighbour but one (R231, R233). Log entry 18 (DEDUCED). -/
def State.flood (s : State) (l : Lsr) (but : Option Nat) : State :=
  s.each (s.managedPorts.filter (fun p => but ≠ some p)) (fun u p => u.queueOut p (.lsr p l))

/-- A new record is originated when the content has changed (R233). -/
def State.originate (s : State) : State :=
  match s.fabric.own with
  | none =>
    let l := s.ownLsr 1 s.beat
    ({ s with fabric := { s.fabric with own := some l, refreshedAt := s.beat } }).flood l none
  | some o =>
    if s.ownLsr o.sequence o.stamp = o then s
    else
      let l := s.ownLsr ((o.sequence + 1) % 2 ^ 32) s.beat
      ({ s with fabric := { s.fabric with own := some l, ownOlder := o :: s.fabric.ownOlder,
                                               refreshedAt := s.beat } }).flood l none

/-! ## Topology (R234, R239, R240) -/

/-- The routing root: the lowest fabric identity (R239). -/
def rootOf (g : List Lsr) (a : Nat) : Nat := minOf a ((island g a).map (·.identity))

/-- A switch's level. -/
def levelOf (g : List Lsr) (root id : Nat) : Nat := (hops g root id).getD 0

/-- The hop from x to y is up (R239). Log entry 18 (DEDUCED). -/
def hopUp (g : List Lsr) (root x y : Nat) : Bool :=
  let a := levelOf g root y
  let b := levelOf g root x
  decide (a < b) || (decide (a = b) && decide (y < x))

/-- The hops of a legal path from a switch, with whether only down hops may follow (R239). -/
def legalNext (g : List Lsr) (root : Nat) (x : Nat × Bool) : List (Nat × Bool) :=
  (peersOf g x.1).filterMap (fun y =>
    if hopUp g root x.1 y then (if x.2 then none else some (y, false)) else some (y, true))

/-- The length of the shortest legal path, or with `down` of the shortest path of down hops only. -/
def legalDist (g : List Lsr) (root a b : Nat) (down : Bool) : Option Nat :=
  bfs (legalNext g root) (fun x => x.1 = b) (2 * g.length + 2) [(a, down)] [(a, down)] 0

/-- The owners of a PID in a topology (R235). -/
def ownersOf (g : List Lsr) (pid : Nat) : List Lsr :=
  g.filter (fun l => l.switchPid = pid || l.pids.any (fun x => decide (bits x.2 11 0 = pid)))

/-- An element put into a list that rises by a key. -/
def insertBy {α : Type} (key : α → Nat) (x : α) : List α → List α
  | [] => [x]
  | y :: t => if key x ≤ key y then x :: y :: t else y :: insertBy key x t

/-- A list in rising order of a key. -/
def sortBy {α : Type} (key : α → Nat) : List α → List α
  | [] => []
  | x :: t => insertBy key x (sortBy key t)

/-- The ports of a next-hop set: those of least distance, the four of lowest number (R240). -/
def nextHops (cands : List (Nat × Nat)) : List Nat × Nat :=
  let best := minOf 0 (cands.map (·.2))
  (((cands.filter (fun c => c.2 = best)).map (·.1)).take 4, best)

/-- A row of the RoutingTable (Table 12-3). -/
def routeRow (kind : Nat) (written : Bool) (up down : List Nat) (localPort hopCount owner : Nat) : Nat :=
  let ports (l : List Nat) : Nat := (upTo 4).foldl (fun a k => a * 128 + l.getD k 0) 0
  let a := ((kind * 2 + ofBool written) * 8 + up.length) * 8 + down.length
  let b := (a * 128 + localPort % 128) * 256 + hopCount % 256
  ((b * 2 ^ 28 + ports up) * 2 ^ 28 + ports down) * 2 ^ 48 + (owner % 256) * 2 ^ 40

/-- The ports of a 28-bit field. -/
def portsField (f n : Nat) : List Nat := (upTo n).map (fun k => bits f (27 - 7 * k) (21 - 7 * k))

/-- The UpSet of a row. -/
def rowUp (row : Nat) : List Nat := portsField (bits row 103 76) (min 4 (bits row 124 122))
/-- The DownSet of a row. -/
def rowDown (row : Nat) : List Nat := portsField (bits row 75 48) (min 4 (bits row 121 119))
/-- The Kind of a row: 0 NONE, 1 LOCAL, 2 REMOTE, 3 CONFLICT. -/
def rowKind (row : Nat) : Nat := bits row 127 126

/-- The version of a record with a stamp of at most `lim`. Log entry 18 (DEDUCED). -/
def versionAt (l : List Lsr) (lim : Nat) : Option Lsr := l.find? (fun x => decide (x.stamp ≤ lim))

/-- The island's topology at a stamp limit, this switch's record first: reachability too is judged by the versions of the records at
that limit (R234, R242). Log entry 18 (DEDUCED). -/
def State.topology (s : State) (lim : Nat) : List Lsr :=
  let own := match s.fabric.own with
    | none => []
    | some o => (versionAt (o :: s.fabric.ownOlder) lim).toList
  island (own ++ s.fabric.db.filterMap (fun d => versionAt (d.lsr :: d.older) lim)) Config.fabricIdentity

/-- The autonomous route of a PID that another switch owns, from the records of one topology, this switch's own among
them (R237, R240, R245). Log entry 18 (DEDUCED). -/
def State.routeFor (s : State) (g : List Lsr) (pid : Nat) : Nat :=
  let me := Config.fabricIdentity
  match ownersOf g pid with
  | [] => 0
  | [o] =>
    if o.identity = me then
      let lp := (o.pids.find? (fun x => decide (bits x.2 11 0 = pid))).map (·.1)
      routeRow 1 false [] [] (lp.getD 0) 0 0
    else
      let root := rootOf g me
      let links := ((lsrOf g me).map (·.links)).getD [] |>.filterMap (fun l => l.peer.map (fun n => (l.localPort, n)))
      let via (downOnly : Bool) : List (Nat × Nat) := links.filterMap (fun pn =>
        let up := hopUp g root me pn.2
        if downOnly && up then none
        else ((legalDist g root pn.2 o.identity (downOnly || !up)).map (fun d => (pn.1, d + 1))))
      let (up, hop) := nextHops (via false)
      let (down, _) := nextHops (via true)
      if up.isEmpty && down.isEmpty then 0
      else routeRow 2 false up down 0 hop (s.fabric.db.findIdx (fun d => d.lsr.identity = o.identity) + 1)
  | _ => routeRow 3 false [] [] 0 0 0

/-- Every PID that some record of a topology owns. -/
def pidsOf (g : List Lsr) : List Nat :=
  (g.flatMap (fun l => l.switchPid :: l.pids.map (fun x => bits x.2 11 0))).foldl
    (fun acc x => if 4095 < x || acc.contains x then acc else acc ++ [x]) []

/-- Routes for the next boundary, computed at the arming cut-off; after BEATLESS from the database as it stands (R242). -/
def State.computeRoutes (s : State) : State :=
  let lim := s.beat + 1 - s.r K.fabricRouteApplyDelay
  let g := if s.fabric.standing then s.topologyNow
    else if s.beat + 1 < s.r K.fabricRouteApplyDelay then [] else s.topology lim
  let rows : Tbl Nat := (pidsOf g).foldl (fun t pid => Tbl.putD t pid (s.routeFor g pid) 0) []
  { s with fabric := { s.fabric with computed := some rows, drawn := g } }

/-- A row is kept as the fabric manager wrote it (R243). -/
def State.rowWritten (s : State) (row : Nat) : Bool := s.r K.fabricRoutingMode = 1 || row.testBit 125

/-- The PIDs of the island that two switches own, and each owner's report (R237). -/
def State.noteConflicts (s : State) (rows : Tbl Nat) : State :=
  let now := (rows.filter (fun e => rowKind e.2 = 3)).map (·.1)
  let mine := now.filter s.ownsPid
  let new := mine.filter (fun x => !s.fabric.conflicts.contains x)
  let s := s.each new (fun u x => u.occurOf (Src.device 0x11) x)
  ({ s with fabric := { s.fabric with conflicts := mine } }).w K.fabricPidConflicts mine.length

/-- The island's diameter in hops (`0x5000.08 Diameter`, R66). -/
def State.diameter (s : State) : Nat :=
  let g := s.topologyNow
  let isl := island g Config.fabricIdentity
  maxOf (isl.flatMap (fun a => isl.map (fun b => (hops g a.identity b.identity).getD 0))) % 256

/-- `0x5000.09 RoutingRoot`: the lowest fabric identity of the island (R239). -/
def State.routingRoot (s : State) : Nat := rootOf s.topologyNow Config.fabricIdentity

/-- Routes have changed at this boundary (`0x5000.0C LastRouteApply`). -/
def State.stampRoutes (s : State) : State := s.w K.fabricLastRouteApply (beatVal s.beat 0)

/-- The computed routes come into force at a boundary; in BEATLESS none do, and until routes differ after it they are those of the
database as it stands (R242, R243). Log entry 18 (DEDUCED). -/
def State.applyRoutes (s : State) : State :=
  if s.beatState = .beatless then { s with fabric := { s.fabric with computed := none, standing := true } }
  else
    match s.fabric.computed with
    | none => s
    | some rows =>
      let upd (u : State) (pid : Nat) : State :=
        let old := u.r (K.fabricRoutingTable + pid)
        if u.rowWritten old then u
        else u.w (K.fabricRoutingTable + pid) (Tbl.getD rows pid 0)
      let listed := (s.regs.filter (fun e => decide (K.fabricRoutingTable ≤ e.1) &&
        decide (e.1 < K.fabricRoutingTable + 4096))).map (fun e => e.1 - K.fabricRoutingTable)
      let t := s.each (listed ++ rows.map (·.1)) upd
      let same := decide (t.regs = s.regs)
      let t := if same then t else t.stampRoutes
      ({ t with fabric := { t.fabric with inForce := t.fabric.drawn, standing := t.fabric.standing && same } }).noteConflicts rows

/-- The flood bound in units of 1/8,192 ns, from the length of the beat's ticks, the diameter and the largest link delay
of the island (R66). -/
def State.floodScaled (s : State) : Nat :=
  let period := ((s.quartz.period : Int) + s.quartz.correction).toNat
  let dmax := maxOf (((island s.topologyNow Config.fabricIdentity).flatMap (·.links)).map (·.delay))
  128 * period + 1024 * (s.diameter * (3200 + dmax) + 8000)

/-- `0x1401.07 FloodBound` in ns (R66). -/
def State.floodBound (s : State) : Nat := s.floodScaled / 8192 % 2 ^ 32

/-- Reachability is judged again, and the count of records shown; a record is UNREACHABLE from the beat in which its path is lost
(R234). -/
def State.judgeReach (s : State) : State :=
  let g := s.fabric.own.toList ++ s.fabric.db.map (·.lsr)
  let db := s.fabric.db.map (fun d =>
    let r := (hops g Config.fabricIdentity d.lsr.identity).isSome
    { d with reachable := r, lostAt := if d.reachable && !r then s.beat else d.lostAt })
  ({ s with fabric := { s.fabric with db := db } }).w K.fabricSwitchesKnown (db.length + 1)

/-- A record is kept: its path is there and it has been refreshed within 4,096 beats, or its path was lost less than 4,096 beats
ago (R234). -/
def DbRec.kept (d : DbRec) (beat : Nat) : Bool := decide (beat < (if d.reachable then d.refreshedAt else d.lostAt) + 4096)

/-! ## Forwarding (R238, R241, R244, R247) -/

/-- The multipath hash (R247). -/
def pathHash (src dst classByte : Nat) : Nat :=
  crc16Run 0xFFFF (toBytes 2 (src % 4096) ++ toBytes 2 (dst % 4096) ++ [classByte % 256])

/-- Where a message for a PID goes. -/
inductive Route where
  | port (p : Nat) | self | unroutable
  deriving DecidableEq, Repr

/-- The local port that holds a PID. -/
def State.pidPort (s : State) (pid : Nat) : Option Nat :=
  allPorts.find? (fun p =>
    let row := s.r (K.fabricPortPids + p)
    row.testBit 31 && decide (bits row 11 0 = pid))

/-- The route of a message (R238, R241, R247): `overFabric` and `down` tell how it arrived. -/
def State.route (s : State) (src dst classByte : Nat) (overFabric down : Bool) : Route :=
  let row := s.r (K.fabricRoutingTable + dst % 4096)
  if rowKind row = 3 then .unroutable
  else
    match s.pidPort dst with
    | some p =>
      if overFabric && !(s.r (K.fabricPortPids + p)).testBit 30 then .unroutable else .port p
    | none =>
      if s.r K.fabricSwitchPid = dst then .self
      else if rowKind row = 2 then
        let set := sortBy id (if overFabric && down then rowDown row else rowUp row)
        match set with
        | [] => .unroutable
        | _ => .port (set.getD (pathHash src dst classByte % set.length) 0)
      else .unroutable

/-- A message came over a down hop: its neighbour's hop to this switch is down in the topology of the routes in force; where that
topology does not hold the neighbour, the message says it (R239, R241). Log entry 18 (DEDUCED). -/
def State.cameDown (s : State) (p : Nat) (said : Bool) : Bool :=
  let g := s.fabric.inForce
  match (s.port p).neighbour with
  | some (n, _) => if (lsrOf g n).isSome then !hopUp g (rootOf g Config.fabricIdentity) n Config.fabricIdentity else said
  | none => said

/-- Beats without a hello after which a neighbour is lost (R230). -/
def State.helloLimit (s : State) : Nat := s.r K.fabricHelloInterval * s.r K.fabricHelloLossCount

/-- New keys of both directions, whose values the spec leaves to the secure core. Log entry 29 (DESIGN CHOICE). -/
def State.setKeys (s : State) (p : Nat) : State :=
  let (a, s) := s.fresh
  let (b, s) := s.fresh
  s.modPort p (fun x => { x with ideKeys := some (a % 2 ^ 256, b % 2 ^ 256) })

/-- IDE_KM sets the keys of a link to a ZENLIA neighbour over the fabric management channel, where they are not set (R73, R231). -/
def State.startIde (s : State) (p : Nat) : State :=
  if s.on (K.portIdeEnable p) && (s.port p).ideKeys.isNone && s.managed p then (s.queueOut p (.ideKm p)).setKeys p else s

/-- FABRIC_HELLO_RECEIVE: the port has a ZENLIA neighbour, and its link returns to the routes (R230, R245). -/
def execFabricHelloReceive (port : PortId) (hello : Hello) (s : State) : Res :=
  effect (fun s =>
    let p := port.val
    if s.isFabric p && s.link p = .active then
      let s := s.modPort p (fun x =>
        { x with
          helloAt := some s.beat, neighbour := some (hello.identity, hello.port, hello.switchPid),
          foreign := false, inRoutes := true })
      (s.originate.judgeReach).startIde p
    else s) s

/-- FOREIGN_NEIGHBOUR: a standard FABRIC port that has been ACTIVE without a hello (R230). -/
def execForeignNeighbour (port : PortId) (s : State) : Res :=
  effect (fun s =>
    let p := port.val
    if s.isFabric p && s.link p = .active && s.portMode p ≠ 3 && (s.port p).helloAt.isNone && !(s.port p).foreign
        && decide ((s.port p).activeSince + s.helloLimit ≤ s.beat) then
      (s.modPort p (fun x => { x with foreign := true, neighbour := none })).occurOf (Src.port p 6) p
    else s) s

/-- HELLO_LOSS, once hellos have been missing for HelloLossCount intervals: the link leaves the routes under RerouteOn LINK_DOWN (R245). -/
def execHelloLoss (port : PortId) (s : State) : Res :=
  effect (fun s =>
    let p := port.val
    if (s.port p).helloAt.all (fun h => decide (s.beat < h + s.helloLimit)) then s
    else
      let s := s.modPort p (fun x => { x with helloAt := none, inRoutes := x.inRoutes && s.r K.fabricRerouteOn = 1 })
      s.originate.judgeReach) s

/-- LSR_RECEIVE: a newer record is stored and flooded (R233, R234, R242). Log entry 18 (DEDUCED). -/
def execLsrReceive (port : PortId) (lsr : Lsr) (s : State) : Res :=
  effect (fun s =>
    if !s.managed port.val || lsr.identity = Config.fabricIdentity then s
    else
      let late (u : State) : State :=
        if u.r K.fabricRoutingMode = 0 && u.afterCutoff (lsr.stamp + u.r K.fabricRouteApplyDelay)
        then (u.bump K.fabricRoutesLate 1).occur (Src.device 0x12) else u
      match s.fabric.db.find? (fun d => d.lsr.identity = lsr.identity) with
      | some d =>
        if seqNewer lsr.sequence d.lsr.sequence then
          let fresh := d.lsr.stamp ≠ lsr.stamp
          let older := if fresh then d.lsr :: d.older else d.older
          let s := { s with fabric := { s.fabric with db := s.fabric.db.map (fun (x : DbRec) =>
            if x.lsr.identity = lsr.identity then { x with lsr := lsr, older := older, refreshedAt := s.beat } else x) } }
          let s := State.judgeReach s
          (if fresh then late s else s).flood lsr (some port.val)
        else s
      | none =>
        if 255 ≤ s.fabric.db.length then s.occur (Src.device 0x10)
        else
          let s := { s with fabric := { s.fabric with
            db := s.fabric.db ++ [({ lsr := lsr, refreshedAt := s.beat, reachable := true } : DbRec)] } }
          (late (State.judgeReach s)).flood lsr (some port.val)) s

/-- LSR_REFRESH, 1,024 beats after the record last went out: the unchanged record with a new sequence number and the old stamp (R233). -/
def execLsrRefresh (s : State) : Res :=
  effect (fun s =>
    match s.fabric.own with
    | none => s.originate
    | some o =>
      let l := { o with sequence := (o.sequence + 1) % 2 ^ 32 }
      if s.beat < s.fabric.refreshedAt + 1024 then s
      else ({ s with fabric := { s.fabric with own := some l, refreshedAt := s.beat } }).flood l none) s

/-- LSR_EXPIRY: a record not refreshed for 4,096 beats, or unreachable for as long, is removed (R234). -/
def execLsrExpiry (identity : Nat) (s : State) : Res :=
  effect (fun s =>
    ({ s with fabric := { s.fabric with
      db := s.fabric.db.filter (fun d =>
        d.lsr.identity ≠ identity || d.kept s.beat) } }).judgeReach) s

/-- The checks of RemotePidAssign. -/
def remotePidChecks (args : List Byte) : CmdChecks :=
  { range := if 4095 < fieldAt args 8 2 && fieldAt args 8 2 ≠ 0xFFFF then some 0x0703 else none }

/-- REMOTE_PID_ASSIGN: delivered to the switch of an identity in the database (R236). -/
def execRemotePidAssign (env : JdpEnv) (s : State) : Res :=
  effectOf env (fun s => s.trigger env 0x5020
    (fun _ args => remotePidChecks args)
    (fun s args =>
      let id := fieldAt args 0 8
      let pid := fieldAt args 8 2
      if s.fabric.db.any (fun d => d.lsr.identity = id) then
        ({ s with fabric := { s.fabric with assigning := some (id, pid), assignedAt := s.clock } }).sendTowards id
          (fun p => .remotePid p id pid)
      else if id = Config.fabricIdentity then
        (if s.on K.proxyAdmit then ((s.w K.fabricSwitchPid pid).originate).cmdDone 0x5020 [] else s.cmdFailed 0x5020 0x0D03)
      else s.cmdFailed 0x5020 0x0D01)) s

/-- REMOTE_PID_ASSIGN_DELIVERY: another switch assigns this one's SwitchPid, where ProxyAdmit admits it, and hears of it; a write for
another switch goes on towards it (R235, R236). -/
def execRemotePidAssignDelivery (pid : PidWrite) (s : State) : Res :=
  effect (fun s =>
    match pid.target with
    | some id => s.sendTowards id (fun p => .remotePid p id pid.pid)
    | none =>
      let ok := s.on K.proxyAdmit && (decide (pid.pid ≤ 4095) || decide (pid.pid = 0xFFFF))
      let s := if ok then (s.w K.fabricSwitchPid pid.pid).originate else s
      s.sendTowards pid.origin (fun p => .remotePidConfirm p pid.origin ok)) s

/-- REMOTE_PID_ASSIGN_CONFIRM: DONE, or NOT_ADMITTED (R236, Table 19-8). -/
def execRemotePidAssignConfirm (admitted : Bool) (s : State) : Res :=
  effect (fun s =>
    if s.fabric.assigning.isSome then
      let s := { s with fabric := { s.fabric with assigning := none } }
      if admitted then s.cmdDone 0x5020 [] else s.cmdFailed 0x5020 0x0D03
    else s) s

/-- REMOTE_PID_ASSIGN_TIMEOUT: no confirmation within 10 ms (Table 19-8). -/
def execRemotePidAssignTimeout (s : State) : Res :=
  effect (fun s =>
    if s.fabric.assigning.isSome && decide (10000000 ≤ s.nsAgo s.fabric.assignedAt) then
      ({ s with fabric := { s.fabric with assigning := none } }).cmdFailed 0x5020 0x0D02
    else s) s

/-- The checks of RouteProbe. -/
def routeProbeChecks (args : List Byte) : CmdChecks :=
  { range :=
      if 4095 < fieldAt args 0 2 || 4095 < fieldAt args 2 2 then some 0x0702
      else if !([0, 3, 4, 5].contains (args.getD 4 0)) then some 0x0703
      else if 1 < args.getD 5 0 then some 0x0602 else none }

/-- ROUTE_PROBE: the kind and port this switch would choose (R247). -/
def execRouteProbe (env : JdpEnv) (s : State) : Res :=
  effectOf env (fun s => s.trigger env 0x5041
    (fun _ args => routeProbeChecks args)
    (fun s args =>
      let dst := fieldAt args 2 2
      let down := args.getD 5 0 = 1
      let row := s.r (K.fabricRoutingTable + dst)
      let kind := if rowKind row = 3 then 3 else if s.ownsPid dst then 1 else rowKind row
      let port := match s.route (fieldAt args 0 2) dst (args.getD 4 0) down down with
        | .port p => p
        | _ => 0xFF
      s.cmdDone 0x5041 [kind, port])) s

end Sys2Proof.Machine
end

