-- ==== Sys2Proof/Machine/Acu.lean ====
section
/-! DEFINITION. Access control (13): rules, the order of checks, refusals, accesses in flight and the swap of rule
sets. -/

namespace Sys2Proof.Machine

/-- The four bits of a set of permissions. -/
def Perm.num (p : Perm) : Nat := ofBool p.read * 8 + ofBool p.write * 4 + ofBool p.atomic * 2 + ofBool p.config

/-- Every permission of q is in p. -/
def Perm.covers (p q : Perm) : Bool :=
  (p.read || !q.read) && (p.write || !q.write) && (p.atomic || !q.atomic) && (p.config || !q.config)

/-- The permissions of a rule row. -/
def rulePerm (row : Nat) : Perm :=
  { read := row.testBit 123, write := row.testBit 122, atomic := row.testBit 121, config := row.testBit 120 }

/-- The rule grants the access at one address (R254). -/
def ruleGrants (row : Nat) (a : Access) (addr : Nat) : Bool :=
  row.testBit 127 && decide (bits row 126 124 = a.space)
    && (row.testBit 112 || (decide (bits row 111 100 = a.target) && decide (bits row 99 96 = a.ld)))
    && (row.testBit 119 || decide (a.tenant = some (bits row 118 113)))
    && decide (bits row 95 48 / 4096 ≤ addr / 4096) && decide (addr / 4096 ≤ bits row 47 0 / 4096)
    && (rulePerm row).covers a.need

/-- The rows of a unit's rule set, A or B. -/
def State.ruleRows (s : State) (u : Nat) (b : Bool) : List Nat :=
  let k := if b then K.acuRulesB u else K.acuRulesA u
  (s.regs.filter (fun e => decide (k ≤ e.1) && decide (e.1 < k + 64))).map (·.2)

/-- The unit's active set is B. -/
def State.setB (s : State) (u : Nat) : Bool := s.r (K.acuActiveSet u) = 1

/-- Some rule of the active set grants each 4 KiB granule that the access spans (R254). -/
def State.rulesGrant (s : State) (u : Nat) (a : Access) : Bool :=
  let rows := s.ruleRows u (s.setB u)
  rows.any (fun r => ruleGrants r a a.addr)
    && (decide (a.addr / 4096 = a.last / 4096) || rows.any (fun r => ruleGrants r a a.last))

/-- The locked regions of Table 13-7. -/
def lockedRegions : List (Nat × Nat) :=
  [(0xFF00000000, 0xFF0000FFFF), (0xFF00010000, 0xFF00010FFF), (0xFF00100000, 0xFF001FFFFF)]

/-- An INTERNAL range meets a locked region (R259). -/
def meetsLocked (lo hi : Nat) : Bool := lockedRegions.any (fun r => decide (lo ≤ r.2) && decide (r.1 ≤ hi))

/-- The row of the inventory that registers a target and logical device (Table 9-7). -/
def State.inventoryRow (s : State) (pid ld : Nat) : Option Nat :=
  let k := K.berylDeviceInventory
  ((s.regs.filter (fun e => decide (k ≤ e.1) && decide (e.1 < k + 1024))).find? (fun e =>
    e.2.testBit 127 && decide (bits e.2 126 115 = pid) && decide (bits e.2 114 111 = ld))).map (fun e => e.1 - k)

/-- The capacity in extents that the inventory registers for a target, 0 for none. -/
def State.capacity (s : State) (pid ld : Nat) : Nat :=
  match s.inventoryRow pid ld with
  | some r => bits (s.r (K.berylDeviceInventory + r)) 110 88
  | none => 0

/-- The bytes of one extent. -/
def extentBytes : Nat := 16777216

/-- The default map grants the access of a privileged master (Table 13-6). -/
def State.defaultGrants (s : State) (u : Nat) (a : Access) : Bool :=
  if u < 48 then false
  else if u ≤ 51 then
    (decide (a.space = 3) && decide (a.last ≤ 0xFFFFFFFFFF) && !meetsLocked a.addr a.last
      && (Perm.covers { read := true, write := true } a.need))
    || (decide (a.space = 1) && (Perm.covers { read := true, config := true } a.need)
      && (match s.pidPort a.target with | some p => s.isDevice p | none => false))
    || (decide (a.space = 4) && decide (a.last / 65536 ≤ 1088) && (Perm.covers { read := true, write := true } a.need))
  else if u ≤ 55 then
    decide (a.space = 0) && (Perm.covers { read := true, write := true } a.need)
      && decide (a.last < s.capacity a.target a.ld * extentBytes)
  else
    decide (a.space = 3) && decide (a.last ≤ 0xFFFF) && (Perm.covers { read := true } a.need)

/-- The number of a reason. -/
def RefusalReason.num : RefusalReason → Nat
  | .noGrant => 1 | .writer => 2 | .locked => 3 | .defaultMap => 4

/-- The checks of a unit in the order of R255; `writerOk` is the outcome of the Writer check of R180. -/
def State.acuRefusal (s : State) (u : Nat) (a : Access) (writerOk : Bool) : Option RefusalReason :=
  if decide (a.space = 3) && meetsLocked a.addr a.last && !(decide (u = 56) && s.on K.fuseDebugAdmission)
  then some .locked
  else if u < 48 && !writerOk then some .writer
  else if s.rulesGrant u a then none
  else if u < 48 then some .noGrant
  else if s.defaultGrants u a then none else some .defaultMap

/-- LastRefusal (Table 13-9). -/
def State.refusalRow (s : State) (a : Access) (x : RefusalReason) : Nat :=
  let h := ((x.num * 8 + a.space % 8) * 16 + a.need.num) * 64 + (a.tenant.getD 0) % 64
  let t := ((h * 4096 + a.target % 4096) * 16 + a.ld % 16) * 2 ^ 48 + a.addr % 2 ^ 48
  (t * 2 ^ 37 + s.beat % 2 ^ 37) * 1024 + s.tick

/-- A refusal recorded (R255, R259). -/
def State.recordRefusal (s : State) (u : Nat) (a : Access) (x : RefusalReason) : State :=
  let row := s.refusalRow a x
  let s := (s.bump (K.acuRefusals u) 1).w (K.acuLastRefusal u) row
  let d : Report := { d0 := row / 2 ^ 64, d1 := row % 2 ^ 64 }
  let s := s.occurWith (Src.acu u 0) d
  if x = .locked then s.occurWith (Src.acu u 1) d else s

/-- An access admitted: in flight under the active epoch (R260). Log entry 48 (DEDUCED). -/
def State.admitAccess (s : State) (u : Nat) : State := s.bump (K.acuInFlightActive u) 1

/-- An access checked: none and the state that counts it in flight, or the reason and the state that records it. -/
def State.checkAccess (s : State) (u : Nat) (a : Access) (writerOk : Bool) : Option RefusalReason × State :=
  match s.acuRefusal u a writerOk with
  | none => (none, s.admitAccess u)
  | some x => (some x, s.recordRefusal u a x)

/-- An access of unit u admitted under an epoch of this parity ends (R260). Log entry 48 (DEDUCED). -/
def State.endAccess (s : State) (u epoch : Nat) : State :=
  if s.r (K.acuEpoch u) % 2 = epoch % 2 then s.lower (K.acuInFlightActive u) 1
  else s.lower (K.acuInFlightPrevious u) 1

/-- A CheckCompute is over, and the access that it holds ends (R260, R353). -/
def State.endCheck (s : State) : State :=
  let t := { s with startup := { s.startup with check := none, checkUnit := none } }
  match s.startup.checkUnit with | some (u, epoch) => t.endAccess u epoch | none => t

/-- The unit's rules may name the space (Table 13-1). -/
def spaceAllowed (u space : Nat) : Bool :=
  if u < 48 then decide (space ≤ 2)
  else if u ≤ 51 then decide (space ≤ 4)
  else if u ≤ 55 then decide (space = 0)
  else decide (space = 3) || decide (space = 4) || decide (space = 0)

/-- The secure core's check of a proposal (R261): the number of ProposalCheck, 1 ACCEPTED. Base and Limit are compared
without their bits 11:0, which a rule ignores (Table 13-2). Log entry 48 (DEDUCED). -/
def State.proposalVerdict (s : State) (u : Nat) (rows : List Nat) : Nat :=
  let valid := rows.filter (fun r => r.testBit 127)
  if valid.any (fun r => decide (bits r 47 0 / 4096 < bits r 95 48 / 4096)) then 2
  else if valid.any (fun r => !spaceAllowed u (bits r 126 124)) then 3
  else if valid.any (fun r => decide (3 ≤ bits r 126 124) && !r.testBit 112) then 4
  else if valid.any (fun r => decide (48 ≤ u) && !r.testBit 119) then 5
  else if valid.any (fun r => decide (bits r 126 124 = 3) &&
      meetsLocked (bits r 95 48 / 4096 * 4096) (bits r 47 0 / 4096 * 4096 + 4095)) then 6
  else if s.r (K.acuUnitState u) ≠ 0 then 7
  else 1

/-- The proposal's rows written into the unit's inactive set. -/
def State.installProposal (s : State) (u : Nat) (row : Nat → Nat) : State :=
  let k := if s.setB u then K.acuRulesA u else K.acuRulesB u
  s.each (upTo 64) (fun t j => t.w (k + j) (row j))

/-- The rule sets change over (R262). -/
def State.swapSets (s : State) (u : Nat) : State :=
  let moved := s.r (K.acuInFlightActive u)
  let s := s.w (K.acuActiveSet u) (1 - s.r (K.acuActiveSet u))
  let s := s.bump (K.acuEpoch u) 1
  let s := ((s.w (K.acuInFlightPrevious u) moved).w (K.acuInFlightActive u) 0).wb (K.acuSwap u) false
  if moved = 0 then (s.w (K.acuSettledAt u) s.now).occurOf (Src.acu u 2) 0
  else s.w (K.acuUnitState u) 1

/-- ACU_SETTLED: the previous epoch's last access has ended (R262). Log entry 48 (DEDUCED). -/
def execAcuSettled (unit : AcuId) (s : State) : Res :=
  effect (fun s =>
    let u := unit.val
    if s.r (K.acuUnitState u) = 1 && s.r (K.acuInFlightPrevious u) = 0 then
      (((s.w (K.acuUnitState u) 0).w (K.acuSettledAt u) s.now)).occurOf (Src.acu u 2) 0
    else s) s

/-- A WRITE of Swap: in PREOP the proposal is checked, installed and made active at once; in OPERATIONAL the write is
staged (R24, R261, R262). Log entry 48 (DEDUCED). -/
def State.writeSwap (s : State) (p : Priv) (u : Nat) (data : List Byte) : Served :=
  let v := ofBytes data
  let verdict := s.proposalVerdict u ((upTo 64).map (fun j => s.r (K.acuProposal u + j)))
  let now := s.device = .preop && v = 1
  match firstOf [s.writeRefusal p (0x5800 + u) 0x07, if now && s.r (K.acuUnitState u) ≠ 0 then some 0x0502 else none,
    if data.length ≠ 1 then some 0x0601 else none, if 1 < v then some 0x0602 else none,
    if now && verdict ≠ 1 then some 0x0704 else none] with
  | some c => .error c
  | none =>
    if now then
      .ok (((s.installProposal u (fun j => s.r (K.acuProposal u + j))).w (K.acuProposalCheck u) 1).swapSets u, [])
    else if s.device = .preop then .ok (s.wb (K.acuSwap u) false, [])
    else .ok ({ s with staged := Tbl.put s.staged (K.acuSwap u) v }, [])

/-- SWAP_WRITE (R261, R262). -/
def execSwapWrite (env : JdpEnv) (unit : AcuId) (s : State) : Res :=
  effectOf env (fun s =>
    s.serve env opWrite (0x5800 + unit.val) 0x07 (fun p s => s.writeSwap p unit.val env.payload)) s

end Sys2Proof.Machine
end

