-- ==== Sys2Proof/Machine/Beryl.lean ====
section
/-! DEFINITION. The extent map (09): entries, reference counts, runs and their conditions, patches, background writes
and the dictionary tables of Beryl. -/

namespace Sys2Proof.Machine

/-! ## Entries (Table 9-1) -/

/-- State of an entry: 0 FREE, 1 BOUND, 2 SHARED, 3 MIGRATING, 4 POISONED. -/
def entState (e : Nat) : Nat := bits e 63 61
/-- Target of an entry. -/
def entTarget (e : Nat) : Nat := bits e 60 49
/-- LogicalDevice of an entry. -/
def entLd (e : Nat) : Nat := bits e 48 45
/-- DeviceExtent of an entry. -/
def entExtent (e : Nat) : Nat := bits e 44 23
/-- InRegion of an entry. -/
def entInRegion (e : Nat) : Bool := bit e 22
/-- Region of an entry. -/
def entRegion (e : Nat) : Nat := bits e 21 14
/-- MigrationJob of an entry. -/
def entJob (e : Nat) : Nat := bits e 13 4

/-- An entry of the given fields; Region is zero when InRegion is 0. -/
def entOf (st pid ld x : Nat) (region : Option Nat) : Nat :=
  setBits (setBits (setBits (setBits (setBits (setBits 0 63 61 st) 60 49 pid) 48 45 ld) 44 23 x)
    22 22 (ofBool region.isSome)) 21 14 (region.getD 0)

/-- An entry as the fabric manager writes it: MigrationJob and the zero bits are zero, and so is Region unless InRegion
is 1. Log entry 14 (DEDUCED). -/
def entWritten (v : Nat) : Nat :=
  let e := setBits v 13 0 0
  if entInRegion e then e else setBits e 21 14 0

/-- The entry of an index. -/
def State.entry (s : State) (i : Nat) : Nat := s.r (K.berylEntryTable + i)

/-- The listed entries: index and value. -/
def State.entries (s : State) : List (Nat × Nat) :=
  let k := K.berylEntryTable
  (s.regs.filter (fun e => decide (k ≤ e.1) && decide (e.1 < k + 4194304))).map (fun e => (e.1 - k, e.2))

/-- The counter of entries in a state (Table 9-6). -/
def entCounter (st : Nat) : Nat :=
  if st = 0 then K.berylEntriesFree else if st = 1 then K.berylEntriesBound else if st = 2 then K.berylEntriesShared
  else if st = 3 then K.berylEntriesMigrating else K.berylEntriesPoisoned

/-! ## Rows of runs (Table 9-3) -/

/-- Kind of a row: 0 NONE, 1 PRIVATE, 2 SHARED, 3 REGION. -/
def rrKind (r : Nat) : Nat := bits r 127 120
/-- Vmd of a row. -/
def rrVmd (r : Nat) : Nat := bits r 119 110
/-- Window of a row. -/
def rrWindow (r : Nat) : Nat := bits r 109 108
/-- Region of a row. -/
def rrRegion (r : Nat) : Nat := bits r 107 100
/-- Flip. -/
def rrFlip (r : Nat) : Bool := bit r 99
/-- Settled. -/
def rrSettled (r : Nat) : Bool := bit r 98
/-- NextValid. -/
def rrNextValid (r : Nat) : Bool := bit r 97
/-- LiveBase. -/
def rrLive (r : Nat) : Nat := bits r 95 74
/-- NextBase. -/
def rrNext (r : Nat) : Nat := bits r 73 52
/-- Length. -/
def rrLength (r : Nat) : Nat := bits r 51 33
/-- Split. -/
def rrSplit (r : Nat) : Nat := bits r 32 14

/-- A row as a creation makes it, with no next run; Settled as given. Log entry 20 (DESIGN CHOICE). -/
def rrOf (kind vmd window region live len : Nat) (settled : Bool) : Nat :=
  setBits (setBits (setBits (setBits (setBits (setBits (setBits 0 127 120 kind) 119 110 vmd) 109 108 window)
    107 100 region) 98 98 (ofBool settled)) 95 74 live) 51 33 len

/-- The STG fields of a row: Flip, NextValid, NextBase and Split. -/
def rrStg (r : Nat) : Bool × Bool × Nat × Nat := (rrFlip r, rrNextValid r, rrNext r, rrSplit r)

/-- A row with the STG fields of another value. Log entry 14 (DEDUCED). -/
def rrWithStg (r v : Nat) : Nat :=
  setBits (setBits (setBits (setBits r 99 99 (bits v 99 99)) 97 97 (bits v 97 97)) 73 52 (rrNext v)) 32 14 (rrSplit v)

/-- A row with its STG fields, Settled and the zero bits cleared: what a write may not change. -/
def rrFixed (r : Nat) : Nat := setBits (rrWithStg (setBits (setBits r 98 98 0) 96 96 0) 0) 13 0 0

/-- A row after the boundary that applies its staged fields: a Flip makes the next run the live run (R167), and
Settled clears (R168). -/
def rrApplied (r : Nat) : Nat :=
  let t := if rrFlip r then rrWithStg (setBits r 95 74 (rrNext r)) 0 else r
  setBits t 98 98 0

/-- The referenced part of a row's run (R166): starts and lengths. -/
def rrRanges (r : Nat) : List (Nat × Nat) :=
  if rrKind r = 1 || rrKind r = 3 then
    let split := if rrFlip r then rrLength r else rrSplit r
    [(rrLive r + split, rrLength r - split), (rrNext r, split)].filter (fun x => decide (x.2 ≠ 0))
  else []

/-- The index lies in one of the ranges. -/
def inRanges (l : List (Nat × Nat)) (i : Nat) : Bool := l.any (fun x => decide (x.1 ≤ i) && decide (i < x.1 + x.2))

/-- Two ranges share an index. -/
def rangesMeet (x y : Nat × Nat) : Bool := decide (x.1 < y.1 + y.2) && decide (y.1 < x.1 + x.2)

/-- No two of the ranges share an index. -/
def rangesApart : List (Nat × Nat) → Bool
  | [] => true
  | x :: t => t.all (fun y => !rangesMeet x y) && rangesApart t

/-- The keys of the rows that describe a run. -/
def State.runKeys (s : State) : List Nat :=
  ((s.regs.filter (fun e => (decide (K.berylDescriptorTable ≤ e.1) && decide (e.1 < K.berylDescriptorTable + 4096)) ||
    (decide (K.berylRegionRunTable ≤ e.1) && decide (e.1 < K.berylRegionRunTable + 256)))).filter
    (fun e => rrKind e.2 = 1 || rrKind e.2 = 3)).map (·.1)

/-- The key of the row in whose referenced part an index lies, with the live rows. -/
def State.runOf (s : State) (i : Nat) : Option Nat := s.runKeys.find? (fun k => inRanges (rrRanges (s.r k)) i)

/-- A row as it reads: a descriptor of Kind SHARED follows its region's run (Table 9-3). Log entry 20 (DESIGN CHOICE). -/
def State.shownRow (s : State) (k : Nat) : Nat :=
  let r := s.r k
  if rrKind r = 2 then setBits r 99 0 (bits (s.r (K.berylRegionRunTable + rrRegion r)) 99 0) else r

/-- The extent offset of an index in a row's run. -/
def rrOffset (r i : Nat) : Nat :=
  if decide (rrNext r ≤ i) && decide (i < rrNext r + rrSplit r) then i - rrNext r else i - rrLive r

/-- The byte at which window w of a VMD begins (R151). -/
def State.windowStart (s : State) (v w : Nat) : Nat :=
  sumOf (((s.vmd v).windows.take w).map (fun x => x.2.2.2)) * extentBytes

/-- The VMDs and device physical addresses at which an entry is mapped. -/
def State.mappings (s : State) (i : Nat) : List (Nat × Nat) :=
  match s.runOf i with
  | none => []
  | some k =>
    let r := s.r k
    let o := rrOffset r i * extentBytes
    if rrKind r = 1 then [(rrVmd r, s.windowStart (rrVmd r) (rrWindow r) + o)]
    else
      (s.regs.filter (fun e => decide (K.berylDescriptorTable ≤ e.1) && decide (e.1 < K.berylDescriptorTable + 4096)
        && decide (rrKind e.2 = 2) && decide (rrRegion e.2 = rrRegion r))).map
        (fun e => (rrVmd e.2, s.windowStart (rrVmd e.2) (rrWindow e.2) + o))

/-- A General Media Event record in a VMD's event log (R143). -/
def State.mediaEvent (s : State) (v dpa : Nat) : State :=
  s.modVmd v (fun x => { x with
    events := x.events ++ [{ handle := x.nextHandle, dpa := dpa }], nextHandle := x.nextHandle + 1 })

/-- An extent's poisoned flag set in the inventory (R164). -/
def State.poisonExtent (s : State) (x : Nat × Nat × Nat) : State :=
  if s.beryl.poisoned.contains x then s else { s with beryl := { s.beryl with poisoned := s.beryl.poisoned ++ [x] } }

/-- An entry written into the array with its check (R162): the counters of Table 9-6 follow, a POISONED entry marks its extent, and one that
becomes POISONED is told to every VMD that maps it (R178); an uncorrectable error of the entry ends (R163). -/
def State.putEntry (s : State) (i e : Nat) : State :=
  let old := s.entry i
  let s := s.w (K.berylEntryTable + i) e
  let s := { s with beryl := { s.beryl with
    checks := Tbl.put s.beryl.checks i (Config.entryCheck e), errors := s.beryl.errors.filter (fun k => decide (k ≠ i)) } }
  let s := if entState e = 4 then s.poisonExtent (entTarget e, entLd e, entExtent e) else s
  if entState old = entState e then s
  else
    let s := s.lower (entCounter (entState old)) 1
    let s := s.w (entCounter (entState e)) (s.r (entCounter (entState e)) + 1)
    if entState e = 4 then s.each (s.mappings i) (fun t m => t.mediaEvent m.1 m.2) else s

/-! ## Device extents (R164) -/

/-- An entry in a state other than FREE names the extent. -/
def entNames (e pid ld x : Nat) : Bool :=
  decide (entState e ≠ 0) && decide (entTarget e = pid) && decide (entLd e = ld) && decide (entExtent e = x)

/-- The job holds its destination: it is a MOVE that has not ended (R209). -/
def Job.holds (j : Job) : Bool :=
  !j.fill && (match j.state with | .free => false | .done => false | .failed => false | _ => true)

/-- References that a job adds to an extent: its hold, and the source until the commit settles (R209, R218). -/
def Job.refs (j : Job) (pid ld x : Nat) : Nat :=
  ofBool (j.holds && decide (j.destTarget = pid) && decide (j.destLd = ld) && decide (j.destExtent = x))
    + ofBool (j.releasing && entNames j.before pid ld x)

/-- The reference count of a device extent (R164). -/
def State.refs (s : State) (pid ld x : Nat) : Nat :=
  (s.entries.filter (fun e => entNames e.2 pid ld x)).length
    + (s.beryl.heldExtents.filter (fun h => decide (h = (pid, ld, x)))).length
    + sumOf (s.jasper.jobs.map (fun j => j.2.refs pid ld x))

/-- The inventory marks the extent poisoned (R164, R177). -/
def State.extentPoisoned (s : State) (pid ld x : Nat) : Bool :=
  s.beryl.retiredTargets.contains pid || s.beryl.poisoned.contains (pid, ld, x)

/-- The extent is FREE for the pools of Table 8-6. -/
def State.extentFree (s : State) (pid ld x : Nat) : Bool :=
  decide (x < s.capacity pid ld) && !s.extentPoisoned pid ld x && s.refs pid ld x = 0

/-- An extent held for a creation or by a job (R153, R209). -/
def State.extentHeld (s : State) (pid ld x : Nat) : Bool :=
  s.beryl.heldExtents.contains (pid, ld, x)
    || s.jasper.jobs.any (fun j => j.2.holds && decide (j.2.destTarget = pid) && decide (j.2.destLd = ld)
        && decide (j.2.destExtent = x))

/-- The extents of a target that are not FREE: named by entries, held, or poisoned. -/
def State.busyExtents (s : State) (pid ld : Nat) : List Nat :=
  let named := (s.entries.filter (fun e => decide (entState e.2 ≠ 0) && decide (entTarget e.2 = pid)
    && decide (entLd e.2 = ld))).map (fun e => entExtent e.2)
  let held := (s.beryl.heldExtents.filter (fun h => decide (h.1 = pid) && decide (h.2.1 = ld))).map (·.2.2)
  let jobs := s.jasper.jobs.flatMap (fun j =>
    (if j.2.holds && decide (j.2.destTarget = pid) && decide (j.2.destLd = ld) then [j.2.destExtent] else [])
    ++ (if j.2.releasing && decide (entTarget j.2.before = pid) && decide (entLd j.2.before = ld)
        then [entExtent j.2.before] else []))
  let bad := (s.beryl.poisoned.filter (fun h => decide (h.1 = pid) && decide (h.2.1 = ld))).map (·.2.2)
  (named ++ held ++ jobs ++ bad).eraseDups

/-- FreeCount of a target (Table 9-7). -/
def State.freeCount (s : State) (pid ld : Nat) : Nat :=
  if s.beryl.retiredTargets.contains pid then 0
  else s.capacity pid ld - ((s.busyExtents pid ld).filter (fun x => decide (x < s.capacity pid ld))).length

/-- PoisonedCount of a target (Table 9-7). -/
def State.poisonedCount (s : State) (pid ld : Nat) : Nat :=
  if s.beryl.retiredTargets.contains pid then s.capacity pid ld
  else (s.beryl.poisoned.filter (fun h => decide (h.1 = pid) && decide (h.2.1 = ld))).length

/-- The n lowest extents from x on that are not in the list, below the capacity. -/
def lowestFree (busy : List Nat) : Nat → Nat → Nat → List Nat
  | 0, _, _ => []
  | fuel + 1, n, x =>
    if n = 0 then []
    else if busy.contains x then lowestFree busy fuel n (x + 1) else x :: lowestFree busy fuel (n - 1) (x + 1)

/-- The n lowest FREE extents of a target, or none if it has fewer. -/
def State.drawExtents (s : State) (pid ld n : Nat) : Option (List Nat) :=
  if s.beryl.retiredTargets.contains pid then none
  else
    let l := lowestFree (s.busyExtents pid ld) (s.capacity pid ld) n 0
    if l.length = n then some l else none

/-- Ranges of entries that no creation may draw: entries that are not FREE, held entries and referenced parts. -/
def State.takenRanges (s : State) : Tbl Nat :=
  let t : Tbl Nat := (s.entries.filter (fun e => decide (entState e.2 ≠ 0))).map (fun e => (e.1, 1))
  let t := s.beryl.heldEntries.foldl (fun t h => Tbl.put t h.1 (max 1 (Tbl.getD t h.1 0))) t
  (s.runKeys.flatMap (fun k => rrRanges (s.r k))).foldl (fun t x => Tbl.put t x.1 (max x.2 (Tbl.getD t x.1 0))) t

/-- The gaps between taken ranges, from `pos` on: start and length. -/
def gapsFrom (pos : Nat) : Tbl Nat → List (Nat × Nat)
  | [] => [(pos, 4194304 - pos)]
  | (a, l) :: t => (pos, a - pos) :: gapsFrom (max pos (a + l)) t

/-- The lowest run of n FREE, unreferenced entries that are not held (R176). -/
def State.lowestRun (s : State) (n : Nat) : Option Nat :=
  ((gapsFrom 0 s.takenRanges).find? (fun g => decide (n ≤ g.2))).map (·.1)

/-- `0x3800.0B LargestFreeRun`. -/
def State.largestFreeRun (s : State) : Nat := maxOf ((gapsFrom 0 s.takenRanges).map (·.2))

/-! ## Validation of changes of runs and patches (R166, R170) -/

/-- The row of a key after a set of staged values: its STG fields come from the set. -/
def State.rowAfter (s : State) (set : Tbl Nat) (k : Nat) : Nat :=
  match Tbl.find set k with
  | some v => rrWithStg (s.r k) v
  | none => s.r k

/-- The keys of the rows of runs that the set changes. -/
def State.changedRows (s : State) (set : Tbl Nat) : List Nat :=
  (set.map (·.1)).filter (fun k => (objIndex k = 0x3802 || objIndex k = 0x3803) && s.rowAfter set k ≠ s.r k)

/-- Every index of a list of ranges. -/
def rangeIndices (l : List (Nat × Nat)) : List Nat := l.flatMap (fun x => (upTo x.2).map (fun k => x.1 + k))

/-- Conditions 1 to 4 of R166 for a set of staged values. Log entry 19 (DEDUCED). -/
def State.runsOk (s : State) (set : Tbl Nat) : Bool :=
  let changed := s.changedRows set
  changed.isEmpty ||
  (changed.all (fun k =>
      let r := s.rowAfter set k
      decide (rrSplit r ≤ rrLength r) && (rrNextValid r || (decide (rrSplit r = 0) && !rrFlip r))
        && (rrRanges r).all (fun x => decide (x.1 + x.2 ≤ 4194304))
        && (rangeIndices (rrRanges r)).all (fun i =>
            let e := s.entry i
            if rrKind r = 1 then entState e = 1 || entState e = 4
            else (entState e = 2 || entState e = 4) && entInRegion e && decide (entRegion e = rrRegion r))
        && (rangeIndices (rrRanges (s.r k))).all (fun i => decide (entState (s.entry i) ≠ 3)))
    && rangesApart (s.runKeys.flatMap (fun k => rrRanges (s.rowAfter set k))))

/-- A single-entry change is admitted (R170): the entry is in the referenced part of a run, is not MIGRATING, and the
new state fits the run. -/
def State.replaceOk (s : State) (set : Tbl Nat) (i e : Nat) : Bool :=
  match s.runKeys.find? (fun k => inRanges (rrRanges (s.rowAfter set k)) i) with
  | none => false
  | some k =>
    decide (entState (s.entry i) ≠ 3) &&
    (if rrKind (s.r k) = 1 then entState e = 1 || entState e = 4
     else (entState e = 2 || entState e = 4) && entInRegion e && decide (entRegion e = rrRegion (s.r k)))

/-- The patches that staged commands make: index and value. -/
def patchesOf (acts : List StagedAct) : List (Nat × Nat) :=
  acts.filterMap (fun a => match a with | .entryReplace i e => some (i, e) | _ => none)

/-- No index is patched twice. -/
def patchesApart : List (Nat × Nat) → Bool
  | [] => true
  | x :: t => t.all (fun y => decide (y.1 ≠ x.1)) && patchesApart t

/-- Patches that fall in a bank. -/
def bankPatches (l : List (Nat × Nat)) (b : Nat) : Nat := (l.filter (fun x => decide (x.1 % 32 = b))).length

/-- The state with entries replaced, for counting references only. -/
def State.trial (s : State) (rows : List (Nat × Nat)) : State :=
  s.each rows (fun t x => t.w (K.berylEntryTable + x.1) x.2)

/-- The writes of a pending EntryRunWrite that have not been done: index and value. -/
def State.runWritesWaiting (s : State) : List (Nat × Nat) :=
  s.beryl.writes.flatMap (fun q => (q.2.filter (fun x => decide (x.2.2 = WriteOwner.entryRun))).map (fun x => (x.1, x.2.1)))

/-- The extent map's part of the validation of an armed set (R59, R166, R169, R170). -/
def State.berylValid (s : State) (set : Tbl Nat) (acts : List StagedAct) : Bool :=
  let l := patchesOf acts
  let after := [s.trial l, (s.trial l).trial s.runWritesWaiting]
  s.runsOk set && l.all (fun x => s.replaceOk set x.1 x.2) && patchesApart l
    && l.all (fun x => entState x.2 = 0 || after.all (fun t => decide (t.refs (entTarget x.2) (entLd x.2) (entExtent x.2) ≤ 2)))
    && (upTo 32).all (fun b => decide (bankPatches l b ≤ 16))

/-- A row of a run takes its staged fields at a boundary (R167, R168, R175). -/
def State.applyRow (s : State) (k v : Nat) : State :=
  let old := s.r k
  let new := rrWithStg old v
  if new = old then s
  else
    let removed := (rrRanges old).map (fun x => (k, x.1, x.2))
    let d := k - K.berylDescriptorTable
    let drop (c : CacheLine) : Bool :=
      if objIndex k = 0x3802 then decide (c.descriptor = d)
      else decide (rrKind (s.r (K.berylDescriptorTable + c.descriptor)) = 2)
        && decide (rrRegion (s.r (K.berylDescriptorTable + c.descriptor)) = rrRegion old)
    let cache := s.beryl.cache.map (fun e => (e.1, e.2.filter (fun c => !drop c)))
    let refills := s.beryl.refills.map (fun x =>
      if drop { index := x.index, descriptor := x.descriptor, entry := 0 } then { x with stale := true, rows := x.rows ++ [k] }
      else x)
    { s.w k (rrApplied new) with beryl := { s.beryl with
      unsettled := s.beryl.unsettled ++ removed, cache := cache, refills := refills } }

/-- Patches of a list kept to 16 for each bank: a bank's oldest drains for its seventeenth (R169, R173). -/
def boundPatches (l : Tbl Nat) (i : Nat) : Tbl Nat :=
  let mine := l.filter (fun x => decide (x.1 % 32 = i % 32) && decide (x.1 ≠ i))
  if mine.length < 16 then l else l.filter (fun x => decide (some x.1 ≠ (mine.head?.map (·.1))))

/-- A patch in force from the boundary on: lookups return it, the old extent's count falls and the new one's rises
(R169, R170), and every slice forgets the index (R175). -/
def State.applyPatch (s : State) (i e : Nat) : State :=
  let s := s.putEntry i e
  let cache := s.beryl.cache.map (fun x => (x.1, x.2.filter (fun c => decide (c.index ≠ i))))
  let refills := s.beryl.refills.map (fun x => if x.index = i then { x with stale := true } else x)
  { s with beryl := { s.beryl with patches := Tbl.put (boundPatches s.beryl.patches i) i e, cache := cache, refills := refills } }

/-- A beat boundary: a refill begun before it is not stored, and a translation begun before it completes under the state it
found (R9, R175). -/
def State.ageRefills (s : State) : State :=
  { s with beryl := { s.beryl with
    refills := s.beryl.refills.map (fun x => { x with stale := true })
    waiting := s.beryl.waiting.map (fun e => (e.1, e.2.map (fun w =>
      { w with plan := w.plan.map (fun pl => { pl with old := true }) }))) } }

/-- The apply-preparation ticks: patches enter the buffers of their banks (R169). -/
def State.loadPatches (s : State) (l : List (Nat × Nat)) : State :=
  { s with beryl := { s.beryl with loaded := l.foldl (fun t x => Tbl.put t x.1 x.2) [] } }

/-! ## Writes of the tables (R164, R166, R171, R172) -/

/-- Entry i may not be written by the fabric manager (R168, R171): it is referenced, in a staged or armed change,
not yet settled, or held. -/
def State.entryLocked (s : State) (i : Nat) : Bool :=
  let inSet (set : Tbl Nat) := (s.changedRows set).any (fun k => inRanges (rrRanges (s.rowAfter set k)) i)
  let acts := s.stagedActs ++ (match s.armed with | some a => a.acts | none => [])
  (s.runOf i).isSome || inSet s.staged || (match s.armed with | some a => inSet a.values | none => false)
    || (patchesOf acts).any (fun x => decide (x.1 = i))
    || s.beryl.unsettled.any (fun u => decide (u.2.1 ≤ i) && decide (i < u.2.1 + u.2.2))
    || (Tbl.find s.beryl.heldEntries i).isSome

/-- An entry written by the fabric manager names a held extent (R153, R209). -/
def State.namesHeld (s : State) (e : Nat) : Bool :=
  decide (entState e ≠ 0) && s.extentHeld (entTarget e) (entLd e) (entExtent e)

/-- The patches of the staged and armed sets, whose reference counts have not moved yet (R170). -/
def State.patchesDue (s : State) : List (Nat × Nat) :=
  patchesOf (s.stagedActs ++ (match s.armed with | some a => a.acts | none => []))

/-- The states that a write of entries can come to, for counting references only: with the staged and armed patches to come, with the
rest of a pending EntryRunWrite, and with both; a patch of an index that is written is superseded (R164). -/
def State.trials (s : State) (rows : List (Nat × Nat)) : List State :=
  let due := s.patchesDue.filter (fun x => !rows.any (fun y => decide (y.1 = x.1)))
  let run := s.runWritesWaiting
  [s.trial rows, (s.trial rows).trial run, (s.trial due).trial rows, ((s.trial due).trial rows).trial run]

/-- The entry names a registered extent whose count stays at most 2 in every one of the trial states (R164). -/
def State.extentRefusal (s : State) (ts : List State) (e : Nat) : Option Nat :=
  if entState e = 0 then none
  else if entExtent e < s.capacity (entTarget e) (entLd e)
      && ts.all (fun t => decide (t.refs (entTarget e) (entLd e) (entExtent e) ≤ 2)) then none
  else some 0x0704

/-- A state that no write may set: MIGRATING or not used (R171). -/
def stateRefusal (e : Nat) : Option Nat := if entState e = 3 || 5 ≤ entState e then some 0x0703 else none

/-- Writes placed in the background queues of their banks (R173). Log entry 20 (DESIGN CHOICE). -/
def State.queueWrites (s : State) (l : List (Nat × Nat × WriteOwner)) : State :=
  let q := l.foldl (fun (t : Tbl (List (Nat × Nat × WriteOwner))) x =>
    Tbl.put t (x.1 % 32) (Tbl.getD t (x.1 % 32) [] ++ [x])) s.beryl.writes
  { s with beryl := { s.beryl with writes := q } }

/-- A release write that waits for an index does not outlast a write that the fabric manager makes after it. -/
def State.overtakeReleases (s : State) (l : List Nat) : State :=
  let keep (x : Nat × Nat × WriteOwner) : Bool := !(decide (x.2.2 = WriteOwner.release) && l.contains x.1)
  { s with beryl := { s.beryl with
    writes := (s.beryl.writes.map (fun q => (q.1, q.2.filter keep))).filter (fun q => !q.2.isEmpty) } }

/-- `0x3800.07 BackgroundQueue`. -/
def State.backgroundQueue (s : State) : Nat :=
  sumOf (s.beryl.writes.map (fun q => q.2.length)) + s.beryl.patches.length

/-- A window of `0x3801 EntryTable` (R171): written in one step, or refused whole. Log entry 20 (DESIGN CHOICE). -/
def State.writeEntries (s : State) (p : Priv) (row : Nat) (data : List Byte) : Served :=
  let o : ObjInfo := ⟨0x01, 4194304, .octets 8, .rw, .owner, false, 0, .any⟩
  let rows := ((rowsOf 8 data).mapIdx (fun k v => (row + k, entWritten v))).filter (fun x => decide (x.1 < 4194304))
  let t := s.trials rows
  match firstOf ([s.writeRefusal p 0x3801 0x01,
      if rows.any (fun x => s.entryLocked x.1 || s.namesHeld x.2) then some 0x0502 else none,
      o.windowRefusal row data] ++ rows.map (fun x => stateRefusal x.2)
      ++ rows.map (fun x => s.extentRefusal t x.2)) with
  | some c => .error c
  | none => .ok (((s.each rows (fun u x => u.putEntry x.1 x.2)).overtakeReleases (rows.map (·.1))).queueWrites
      (rows.map (fun x => (x.1, x.2, WriteOwner.entryTable))), [])

/-- A window of `0x3802 DescriptorTable` or `0x3803 RegionRunTable` (R166). -/
def State.writeRuns (s : State) (p : Priv) (region : Bool) (row : Nat) (data : List Byte) : Served :=
  let (i, n) := if region then (0x3803, 256) else (0x3802, 4096)
  let o : ObjInfo := ⟨0x01, n, .octets 16, .stg, .owner, false, 2 ^ 98, .any⟩
  let base := obj i 0x01
  let rows := ((rowsOf 16 data).mapIdx (fun k v => (base + row + k, v))).filter (fun x => decide (x.1 < base + n))
  let set : Tbl Nat := rows.foldl (fun t x => Tbl.put t x.1 (rrWithStg (s.r x.1) x.2)) []
  match firstOf [s.writeRefusal p i 0x01,
      if rows.any (fun x => decide (rrFixed x.2 ≠ rrFixed (s.shownRow x.1))) then some 0x0302 else none,
      if rows.any (fun x => rrKind (s.r x.1) = 0 || rrKind (s.r x.1) = 2) then some 0x0502 else none,
      o.windowRefusal row data,
      if s.device = .preop && !s.runsOk set then some 0x0704 else none] with
  | some c => .error c
  | none =>
    if s.device = .preop then .ok (s.each set (fun t x => t.applyRow x.1 x.2), [])
    else .ok ({ s with staged := set.foldl (fun t x => Tbl.put t x.1 x.2) s.staged }, [])

/-- A row of the inventory without its RO fields. Log entry 14 (DEDUCED). -/
def inventoryWritten (v : Nat) : Nat := setBits v 87 0 0

/-- A row's registration: target and logical device, where Valid. -/
def inventoryName (v : Nat) : Option (Nat × Nat) :=
  if bit v 127 then some (bits v 126 115, bits v 114 111) else none

/-- Range of an inventory row (R164). -/
def inventoryRefusal (v : Nat) : Option Nat :=
  if bit v 127 && decide (bits v 110 88 = 0) then some 0x0701
  else if bit v 127 && decide (4194304 < bits v 110 88) then some 0x0702 else none

/-- The rows of the inventory that are valid: row and value. -/
def State.inventory (s : State) : List (Nat × Nat) :=
  let k := K.berylDeviceInventory
  ((s.regs.filter (fun e => decide (k ≤ e.1) && decide (e.1 < k + 1024))).filter (fun e => bit e.2 127)).map
    (fun e => (e.1 - k, e.2))

/-- No target and logical device stands in two rows. -/
def namesApart : List (Nat × Nat) → Bool
  | [] => true
  | x :: t => t.all (fun y => decide (inventoryName y.2 ≠ inventoryName x.2)) && namesApart t

/-- The row registers a target with a count above 0 on some extent. -/
def State.targetInUse (s : State) (v : Nat) : Bool :=
  match inventoryName v with
  | none => false
  | some (pid, ld) =>
    s.entries.any (fun e => decide (entState e.2 ≠ 0) && decide (entTarget e.2 = pid) && decide (entLd e.2 = ld))
      || s.beryl.heldExtents.any (fun h => decide (h.1 = pid) && decide (h.2.1 = ld))
      || s.jasper.jobs.any (fun j => (j.2.holds && decide (j.2.destTarget = pid) && decide (j.2.destLd = ld))
          || (j.2.releasing && decide (entTarget j.2.before = pid) && decide (entLd j.2.before = ld)))

/-- A window of `0x3804 DeviceInventory` (R164). -/
def State.writeInventory (s : State) (p : Priv) (row : Nat) (data : List Byte) : Served :=
  let o : ObjInfo := ⟨0x01, 1024, .octets 16, .rw, .owner, true, 0, .any⟩
  let k := K.berylDeviceInventory
  let rows := ((rowsOf 16 data).mapIdx (fun j v => (row + j, inventoryWritten v))).filter
    (fun x => decide (x.1 < 1024))
  let t := s.each rows (fun u x => u.w (k + x.1) x.2)
  match firstOf ([s.writeRefusal p 0x3804 0x01,
      if rows.any (fun x => decide (x.2 ≠ s.r (k + x.1)) && s.targetInUse (s.r (k + x.1))) then some 0x0502 else none,
      o.windowRefusal row data] ++ rows.map (fun x => inventoryRefusal x.2)
      ++ [if !namesApart t.inventory || 8388608 < sumOf (t.inventory.map (fun e => bits e.2 110 88))
          then some 0x0704 else none]) with
  | some c => .error c
  | none => .ok (t, [])

/-- ENTRY_TABLE_WRITE. -/
def execEntryTableWrite (env : JdpEnv) (s : State) : Res :=
  effectOf env (fun s => s.serve env opWrite 0x3801 0x01 (fun p s => s.writeEntries p env.row env.payload)) s

/-- DESCRIPTOR_TABLE_WRITE. -/
def execDescriptorTableWrite (env : JdpEnv) (s : State) : Res :=
  effectOf env (fun s => s.serve env opWrite 0x3802 0x01 (fun p s => s.writeRuns p false env.row env.payload)) s

/-- REGION_RUN_TABLE_WRITE. -/
def execRegionRunTableWrite (env : JdpEnv) (s : State) : Res :=
  effectOf env (fun s => s.serve env opWrite 0x3803 0x01 (fun p s => s.writeRuns p true env.row env.payload)) s

/-- DEVICE_INVENTORY_WRITE. -/
def execDeviceInventoryWrite (env : JdpEnv) (s : State) : Res :=
  effectOf env (fun s => s.serve env opWrite 0x3804 0x01 (fun p s => s.writeInventory p env.row env.payload)) s

/-- The entries that an EntryRunWrite writes: index and value (R172). -/
def runWriteRows (first count template : Nat) : List (Nat × Nat) :=
  let e := entWritten template
  (upTo count).map (fun j =>
    (first + j, if entState e = 0 then e else setBits e 44 23 (entExtent e + j)))

/-- The checks of EntryRunWrite: the rules of R171 over the whole run (R172). -/
def State.runWriteChecks (s : State) (args : List Byte) : CmdChecks :=
  let first := fieldAt args 0 4
  let count := fieldAt args 4 4
  let e := fieldAt args 8 8
  let inRange := decide (first < 4194304) && decide (count ≤ 262144) && decide (first + count ≤ 4194304)
  let rows := if inRange then runWriteRows first count e else []
  let t := s.trials rows
  { resource := if rows.any (fun x => s.entryLocked x.1 || s.namesHeld x.2) then some 0x0502 else none
    range := firstOf ([if 4194303 < first then some 0x0702 else none, if count = 0 then some 0x0701 else none,
        if 262144 < count then some 0x0702 else none, if 4194304 < first + count then some 0x0704 else none,
        stateRefusal e,
        if entState e ≠ 0 && 4194304 < entExtent e + count then some 0x0704 else none]
      ++ rows.map (fun x => s.extentRefusal t x.2)) }

/-- ENTRY_RUN_WRITE: the run is held and its writes wait for background slots (R172). -/
def execEntryRunWrite (env : JdpEnv) (s : State) : Res :=
  effectOf env (fun s => s.trigger env 0x3805 (fun s args => s.runWriteChecks args)
    (fun (s : State) (args : List Byte) =>
      let rows : List (Nat × Nat) := runWriteRows (fieldAt args 0 4) (fieldAt args 4 4) (fieldAt args 8 8)
      let s := { s with beryl := { s.beryl with
        runWrite := some (rows.length, rows.length)
        heldEntries := rows.foldl (fun (t : Tbl Nat) (x : Nat × Nat) => Tbl.put t x.1 1) s.beryl.heldEntries } }
      s.queueWrites (rows.map (fun (x : Nat × Nat) => (x.1, x.2, WriteOwner.entryRun))))) s

/-- The hold on an entry ends. -/
def State.unholdEntry (s : State) (i : Nat) : State :=
  { s with beryl := { s.beryl with heldEntries := Tbl.del s.beryl.heldEntries i } }

/-- The hold on a device extent ends. -/
def State.unholdExtent (s : State) (e : Nat) : State :=
  { s with beryl := { s.beryl with heldExtents := s.beryl.heldExtents.erase (entTarget e, entLd e, entExtent e) } }

/-- Every entry of a VMD's windows has been written: no write of its creation or of its regions waits (R176). -/
def State.windowsWritten (s : State) (v : Nat) : Bool :=
  s.beryl.writes.all (fun q => q.2.all (fun x =>
    match x.2.2 with
    | .creation u => decide (u ≠ v)
    | .region r => !(s.vmd v).windows.any (fun w => decide (w.1 = 2) && decide (w.2.1 = r))
    | _ => true))

/-- The HDM decoders whose Commit request waits are committed once their VMD's windows are written (R176). -/
def State.grantDecoders (s : State) : State :=
  let ready := s.beryl.commitPending.filter (fun d => s.windowsWritten (d / 4))
  let s := s.each ready (fun t d =>
    t.w (K.vmdDecodersCommitted (d / 4)) (setBit (t.r (K.vmdDecodersCommitted (d / 4))) (d % 4) true))
  { s with beryl := { s.beryl with commitPending := s.beryl.commitPending.filter (fun d => !ready.contains d) } }

/-- One background write done (R172, R173, R176). -/
def State.doneWrite (s : State) (i e : Nat) (o : WriteOwner) : State :=
  match o with
  | .patch => s
  | .entryTable => s
  | .release => s.putEntry i e
  | .entryRun =>
    let s := (s.putEntry i e).unholdEntry i
    { s with beryl := { s.beryl with runWrite := s.beryl.runWrite.map (fun x => (x.1 - 1, x.2)) } }
  | .scrub =>
    if entState (s.entry i) ≠ 0 && s.beryl.retiredTargets.contains (entTarget (s.entry i)) then
      s.putEntry i (setBits (s.entry i) 63 61 4) else s
  | .creation _ => (((s.putEntry i e).unholdEntry i).unholdExtent e).grantDecoders
  | .region _ => (((s.putEntry i e).unholdEntry i).unholdExtent e).grantDecoders

/-- The patches of a bank that wait for their drain. -/
def State.firstPatch (s : State) (b : Nat) : Option Nat :=
  (s.beryl.patches.find? (fun x => decide (x.1 % 32 = b))).map (·.1)

/-- BACKGROUND_WRITE: the bank's reserved cycle performs one waiting write, patch drains first (R173). -/
def execBackgroundWrite (bank : BankId) (s : State) : Res :=
  effect (fun s =>
    let b := bank.val
    match s.firstPatch b with
    | some i => { s with beryl := { s.beryl with patches := Tbl.del s.beryl.patches i } }
    | none =>
      match Tbl.getD s.beryl.writes b [] with
      | [] => s
      | (i, e, o) :: rest =>
        let s := { s with beryl := { s.beryl with writes := Tbl.putD s.beryl.writes b rest [] } }
        s.doneWrite i e o) s

/-- The waiting writes of EntryRunWrite. -/
def State.takeRunWrites (s : State) : List (Nat × Nat × WriteOwner) × State :=
  let mine (x : Nat × Nat × WriteOwner) : Bool := decide (x.2.2 = .entryRun)
  let l := s.beryl.writes.flatMap (fun q => q.2.filter mine)
  let rest := (s.beryl.writes.map (fun q => (q.1, q.2.filter (fun x => !mine x)))).filter (fun q => !q.2.isEmpty)
  (l, { s with beryl := { s.beryl with writes := rest } })

/-- ENTRY_RUN_WRITE_COMPLETE: the run's last writes are done, and the command ends DONE with EntriesWritten (R172). Log
entry 20 (DESIGN CHOICE). -/
def execEntryRunWriteComplete (s : State) : Res :=
  effect (fun s =>
    match s.beryl.runWrite with
    | none => s
    | some (_, n) =>
      let (l, s) := s.takeRunWrites
      let s := s.each l (fun t x => t.doneWrite x.1 x.2.1 x.2.2)
      ({ s with beryl := { s.beryl with runWrite := none } }).cmdDone 0x3805 (toBytes 4 n)) s

/-- The checks of EntryReplace (R170). -/
def State.replaceChecks (s : State) (args : List Byte) : CmdChecks :=
  let i := fieldAt args 0 4
  let e := entWritten (fieldAt args 4 8)
  let t := s.trials [(i, e)]
  { resource := if (Tbl.find s.beryl.heldEntries i).isSome || s.namesHeld e then some 0x0502 else none
    range := firstOf [if 4194303 < i then some 0x0702 else none, stateRefusal e, s.extentRefusal t e,
      if s.device = .preop && !s.replaceOk [] i e then some 0x0704 else none] }

/-- ENTRY_REPLACE: a patch staged, or applied at once in PREOP (R170). -/
def execEntryReplace (env : JdpEnv) (s : State) : Res :=
  effectOf env (fun s => s.trigger env 0x3806 (fun s args => s.replaceChecks args)
    (fun s args =>
      let i := fieldAt args 0 4
      let e := entWritten (fieldAt args 4 8)
      let s := if s.device = .preop then s.applyPatch i e
        else { s with stagedActs := s.stagedActs ++ [.entryReplace i e] }
      s.cmdDone 0x3806 [])) s

/-- A refill of a row's run that began before the row's last change is outstanding, and with it the lookups that wait for it
(R168). -/
def State.rowUnsettled (s : State) (k : Nat) : Bool := s.beryl.refills.any (fun x => x.rows.contains k)

/-- ROW_SETTLED: once every lookup and refill of the row's run that began before the change has completed (R168). -/
def execRowSettled (region : Bool) (row : Nat) (s : State) : Res :=
  effect (fun s =>
    let n := row % (if region then 256 else 4096)
    let k := (if region then K.berylRegionRunTable else K.berylDescriptorTable) + n
    if s.rowUnsettled k then s
    else
      let s := s.w k (setBits (s.r k) 98 98 1)
      { s with beryl := { s.beryl with unsettled := s.beryl.unsettled.filter (fun u => decide (u.1 ≠ k)) } }) s

/-- The poison scrub starts: the entries that name a retired target, and those that a write ahead of the scrub will have name it, wait
for a background slot each, and behind them in each bank one slot stands for the reads of its other entries (R173, R177). Log entry 20
(DESIGN CHOICE). -/
def State.startScrub (s : State) (pid : Nat) : State :=
  let names (e : Nat) : Bool := decide (entState e ≠ 0) && decide (entState e ≠ 4) && decide (entTarget e = pid)
  let l := (s.entries.filter (fun e => names e.2)).map (·.1)
  let due := s.beryl.writes.flatMap (fun q => (q.2.filter (fun x => names x.2.1)).map (·.1))
  (s.queueWrites (((l ++ due).eraseDups ++ upTo 32).map (fun i => (i, 0, WriteOwner.scrub)))).wb K.berylScrubActive true

/-- A write of the scrub waits for a slot. -/
def State.scrubbing (s : State) : Bool := s.beryl.writes.any (fun q => q.2.any (fun x => decide (x.2.2 = WriteOwner.scrub)))

/-- POISON_SCRUB_COMPLETE: the scrub's last write has been done (R177). -/
def execPoisonScrubComplete (s : State) : Res :=
  effect (fun s => if s.on K.berylScrubActive && !s.scrubbing then s.wb K.berylScrubActive false else s) s

end Sys2Proof.Machine
end

