-- ==== Sys2Proof/Machine/Vmd.lean ====
section
/-! DEFINITION. Virtual memory devices and shared regions (08, 10): creation and destruction, the pools of Table 8-6,
FILL jobs, bindings to vPPBs and emulated hot-plug. -/

namespace Sys2Proof.Machine

/-! ## Job records (R208, R210) -/

/-- The record that a new job takes: the lowest FREE one, else the ended one with the earliest EndedAt whose source extent is
released (R208, R218). Log entry 26 (DEDUCED). -/
def State.takeRecord (s : State) : Option Nat :=
  match (upTo 1024).find? (fun j => (s.job j).state = .free) with
  | some j => some j
  | none =>
    (upTo 1024).foldl (fun (best : Option Nat) j =>
      if ((s.job j).state = .done && !(s.job j).releasing) || (s.job j).state = .failed then
        match best with
        | none => some j
        | some b => if (s.job j).endedAt < (s.job b).endedAt then some j else best
      else best) none

/-- Records that a new job could take. -/
def State.recordsFree (s : State) : Nat :=
  1024 - (s.jasper.jobs.filter (fun j =>
    match j.2.state with | .free => false | .done => j.2.releasing | .failed => false | _ => true)).length

/-- A FILL job for a run (R210). -/
def State.newFill (s : State) (first count : Nat) (vmd region : Option Nat) : State :=
  match s.takeRecord with
  | none => s
  | some j => s.modJob j (fun _ =>
      { state := .pending, fill := true, index := first, count := count, createdAt := s.beat, forVmd := vmd,
        forRegion := region })

/-- A job ends DONE or FAILED. -/
def State.endJob (s : State) (j : Nat) (ok : Bool) (why : JobReason) : State :=
  let s := s.modJob j (fun x => { x with
    state := if ok then .done else .failed, reason := why, endedAt := s.beat, held := false })
  if ok then s.bump K.jasperJobsDone 1 else s.bump K.jasperJobsFailed 1

/-! ## Argument blocks (Tables 8-5 and 10-8) -/

/-- Window k of a VmdCreate argument block: kind, logical device, target and extents. -/
def vmdWindow (args : List Byte) (k : Nat) : Nat × Nat × Nat × Nat :=
  (fieldAt args (8 + 8 * k) 1, fieldAt args (9 + 8 * k) 1, fieldAt args (10 + 8 * k) 2, fieldAt args (12 + 8 * k) 4)

/-- The windows of a creation: number, kind, target, logical device, extents. -/
def vmdWindows (args : List Byte) : List (Nat × Nat × Nat × Nat × Nat) :=
  (upTo (min 4 (fieldAt args 3 1))).map (fun k =>
    let (kind, ld, pid, n) := vmdWindow args k
    (k, kind, pid, ld, n))

/-- Range of one window of a creation. -/
def State.windowArg (s : State) (args : List Byte) (k : Nat) : Option Nat :=
  let (kind, ld, target, n) := vmdWindow args k
  if 2 < kind then some 0x0703
  else if (kind = 0) ≠ (fieldAt args 3 1 ≤ k) then some 0x0704
  else if kind = 0 then (if ld = 0 then none else some 0x0704)
  else if kind = 1 then
    if 15 < ld then some 0x0702 else if 4095 < target then some 0x0702
    else if n = 0 then some 0x0701 else if 262144 < n then some 0x0702 else none
  else if ld ≠ 0 then some 0x0704 else if 255 < target then some 0x0702
  else if n = 0 then some 0x0701 else if 262144 < n then some 0x0702
  else if n ≠ s.r (K.regionExtents target) then some 0x0704 else none

/-- The checks of VmdCreate (R152). -/
def State.vmdCreateChecks (s : State) (args : List Byte) : CmdChecks :=
  let v := fieldAt args 0 2
  { resource := if v < 1024 && s.vmdState v ≠ .absent then some 0x0502 else none
    range := firstOf ([if 1023 < v then some 0x0702 else none,
      if 1 < fieldAt args 2 1 then some 0x0702 else none,
      if fieldAt args 3 1 = 0 then some 0x0701 else if 4 < fieldAt args 3 1 then some 0x0702 else none,
      if fieldAt args 4 4 < 64 then some 0x0701 else if 16384 < fieldAt args 4 4 then some 0x0702 else none]
      ++ (upTo 4).map (fun k => s.windowArg args k)) }

/-- Region of a RegionCreate block. -/
def rcRegion (args : List Byte) : Nat := fieldAt args 0 1
/-- Class: 1 COHERENT, 2 READ_SHARED, 3 SOFTWARE. -/
def rcClass (args : List Byte) : Nat := fieldAt args 1 1
/-- Writer. -/
def rcWriter (args : List Byte) : Nat := fieldAt args 2 1
/-- ZeroFill. -/
def rcZeroFill (args : List Byte) : Bool := fieldAt args 3 1 = 1
/-- Extents. -/
def rcExtents (args : List Byte) : Nat := fieldAt args 8 4
/-- Quota. -/
def rcQuota (args : List Byte) : Nat := fieldAt args 12 4

/-- The checks of RegionCreate (R207, Table 10-8). -/
def State.regionCreateChecks (s : State) (args : List Byte) : CmdChecks :=
  { resource := if s.r (K.regionState (rcRegion args)) ≠ 0 then some 0x0502 else none
    range := firstOf [if rcClass args = 0 || 3 < rcClass args then some 0x0703 else none,
      if (if rcClass args = 2 then rcWriter args ≤ 63 else rcWriter args = 255) then none else some 0x0704,
      if 1 < fieldAt args 3 1 then some 0x0702 else none,
      if 4095 < fieldAt args 4 2 then some 0x0702 else none,
      if 15 < fieldAt args 6 1 then some 0x0702 else none,
      if fieldAt args 7 1 ≠ 0 then some 0x0702 else none,
      if rcExtents args = 0 then some 0x0701 else if 262144 < rcExtents args then some 0x0702 else none,
      if rcClass args = 1 then
        (if rcQuota args < 128 then some 0x0701 else if 2097152 < rcQuota args then some 0x0702
         else if rcQuota args % 8 ≠ 0 then some 0x0703 else none)
      else if rcQuota args ≠ 0 then some 0x0704 else none] }

/-! ## Pools (Table 8-6) -/

/-- A run drawn and held (R153, R176). -/
def State.drawRun (s : State) (code window pid ld n : Nat) : Option (State × DrawnRun) :=
  match s.drawExtents pid ld n, s.lowestRun n with
  | some xs, some b =>
    let d : DrawnRun := { code := code, window := window, base := b, pid := pid, ld := ld, extents := xs }
    some ({ s with beryl := { s.beryl with
      heldExtents := s.beryl.heldExtents ++ xs.map (fun x => (pid, ld, x))
      heldEntries := (upTo n).foldl (fun (t : Tbl Nat) j => Tbl.put t (b + j) 2) s.beryl.heldEntries } }, d)
  | _, _ => none

/-- The sum of the quotas drawn. -/
def State.sumQuotas (s : State) : Nat := sumOf (s.regions.map (fun r => r.2.quotaDrawn.getD 0))

/-- A region's drawn quota set, with QuotaDrawn. -/
def State.setQuota (s : State) (r : Nat) (q : Option Nat) : State :=
  let s := s.modRegion r (fun x => { x with quotaDrawn := q })
  s.w K.garnetQuotaDrawn s.sumQuotas

/-- The queue share drawn by every VMD. -/
def State.sharesDrawn (s : State) : Nat := sumOf ((upTo 1024).map (fun v => s.r (K.vmdQueueShare v)))

/-- The quotas that a creation draws: COHERENT regions that no VMD has drawn for yet. -/
def State.quotaNeeds (s : State) (args : List Byte) : List Nat :=
  (((vmdWindows args).filter (fun w => decide (w.2.1 = 2) && decide (s.r (K.regionClass w.2.2.1) = 1)
    && (s.regionSt w.2.2.1).quotaDrawn.isNone)).map (fun w => w.2.2.1)).eraseDups

/-- The PRIVATE windows of a creation. -/
def privateWindows (args : List Byte) : List (Nat × Nat × Nat × Nat × Nat) :=
  (vmdWindows args).filter (fun w => decide (w.2.1 = 1))

/-- What validation has drawn so far: the state that holds it, runs and quotas. -/
abbrev Drawn := State × List DrawnRun × List (Nat × Option Nat)

/-- One creation draws from the pools (R153); none where a pool cannot supply it, or where a region that it maps is gone
(Table 8-5, R207). -/
def drawVmd (d : Drawn) (args : List Byte) : Option Drawn :=
  let (s, runs, quotas) := d
  let v := fieldAt args 0 2
  let share := fieldAt args 4 4
  let n := (vmdWindows args).length
  let gone := (vmdWindows args).any (fun w => decide (w.2.1 = 2) && decide (s.r (K.regionExtents w.2.2.1) ≠ w.2.2.2.2))
  if s.r K.berylDescriptorsFree < n || 393216 < s.sharesDrawn + share || gone then none
  else
    let s := (s.lower K.berylDescriptorsFree n).w (K.vmdQueueShare v) share
    let needs := s.quotaNeeds args
    if 2097152 < s.sumQuotas + sumOf (needs.map (fun r => s.r (K.regionQuota r))) then none
    else
      let quotas := quotas ++ needs.map (fun r => (r, none))
      let s := s.each needs (fun t r => t.setQuota r (some (t.r (K.regionQuota r))))
      (privateWindows args).foldl (fun (a : Option Drawn) w =>
        match a with
        | none => none
        | some (t, l, q) =>
          match t.drawRun v w.1 w.2.2.1 w.2.2.2.1 w.2.2.2.2 with
          | some (t, x) => some (t, l ++ [x], q)
          | none => none) (some (s, runs, quotas))

/-- A region creation draws its extents and its run (R207). -/
def drawRegion (d : Drawn) (args : List Byte) : Option Drawn :=
  let (s, runs, quotas) := d
  match s.drawRun (1024 + rcRegion args) 0 (fieldAt args 4 2) (fieldAt args 6 1) (rcExtents args) with
  | some (t, x) => some (t, runs ++ [x], quotas)
  | none => none

/-- The creations of a list of staged commands in the order in which they draw: regions, then VMDs, each by number. Log
entry 21 (DEDUCED). -/
def vmdCreations (acts : List StagedAct) : List (List Byte) :=
  (upTo 1024).flatMap (fun v => acts.filterMap (fun a =>
    match a with | .vmdCreate x => if fieldAt x 0 2 = v then some x else none | _ => none))

/-- The region creations, by number. -/
def regionCreations (acts : List StagedAct) : List (List Byte) :=
  (upTo 256).flatMap (fun r => acts.filterMap (fun a =>
    match a with | .regionCreate x => if rcRegion x = r then some x else none | _ => none))

/-- A change of RegionQuota of a region whose quota is drawn (10). -/
def drawQuotas (d : Drawn) (set : Tbl Nat) : Option Drawn :=
  set.foldl (fun (a : Option Drawn) e =>
    match a with
    | none => none
    | some (t, l, q) =>
      let r := objIndex e.1 - 0x4100
      if 0x4100 ≤ objIndex e.1 && objIndex e.1 < 0x4200 && objSub e.1 = 0x02 && (t.regionSt r).quotaDrawn.isSome then
        let before := (t.regionSt r).quotaDrawn
        let t := t.setQuota r (some e.2)
        if 2097152 < t.sumQuotas then none else some (t, l, q ++ [(r, before)])
      else a) (some d)

/-- FILL jobs that the creations need. -/
def fillsNeeded (acts : List StagedAct) : Nat :=
  sumOf (acts.map (fun a =>
    match a with
    | .vmdCreate x => if fieldAt x 2 1 = 1 then (privateWindows x).length else 0
    | .regionCreate x => if rcZeroFill x then 1 else 0
    | _ => 0))

/-- All draws of an armed set (R153), none if a pool cannot supply one. Log entry 21 (DEDUCED). -/
def State.drawSet (s : State) (set : Tbl Nat) (acts : List StagedAct) : Option Drawn :=
  if s.recordsFree < fillsNeeded acts then none
  else
    let step (f : Drawn → List Byte → Option Drawn) (a : Option Drawn) (x : List Byte) : Option Drawn :=
      match a with | none => none | some d => f d x
    let a := drawQuotas (s, [], []) set
    let a := (regionCreations acts).foldl (step drawRegion) a
    (vmdCreations acts).foldl (step drawVmd) a

/-- Regions by the VMDs that map them: MAPPED while some VMD that is not ABSENT or STAGED has a window on it. -/
def State.mapsRegion (s : State) (r : Nat) : Bool :=
  s.vmds.any (fun e => e.2.windows.any (fun w => decide (w.1 = 2) && decide (w.2.1 = r)))

/-- The regions that the creations of a list of staged commands map. -/
def regionsCreated (acts : List StagedAct) : List Nat :=
  ((vmdCreations acts).flatMap (fun x => ((vmdWindows x).filter (fun w => decide (w.2.1 = 2))).map (fun w => w.2.2.1))).eraseDups

/-- The quota of a region returns unless a VMD maps the region, or a creation that has drawn will (R153). -/
def State.freeQuota (s : State) (r : Nat) : State :=
  let due := match s.armed with
    | some a => a.com.state = CommitState.held && (regionsCreated a.acts).contains r
    | none => false
  if s.mapsRegion r || due || (s.regionSt r).quotaDrawn.isNone then s else s.setQuota r none

/-- The holds and pools of a cancelled set return (R153). -/
def State.undraw (s : State) (draws : List DrawnRun) (quotas : List (Nat × Option Nat)) (acts : List StagedAct) :
    State :=
  let s := s.each draws (fun t d =>
    { t with beryl := { t.beryl with
      heldExtents := d.extents.foldl (fun (l : List (Nat × Nat × Nat)) x => l.erase (d.pid, d.ld, x))
        t.beryl.heldExtents
      heldEntries := (upTo d.extents.length).foldl (fun (h : Tbl Nat) j => Tbl.del h (d.base + j))
        t.beryl.heldEntries } })
  let s := s.each quotas.reverse (fun t q => t.setQuota q.1 q.2)
  let s := s.each (vmdCreations acts) (fun t x =>
    (t.w (K.vmdQueueShare (fieldAt x 0 2)) 0).w K.berylDescriptorsFree
      (t.r K.berylDescriptorsFree + (vmdWindows x).length))
  s.each (regionsCreated acts) State.freeQuota

/-! ## Creations and destructions applied -/

/-- The lowest descriptor whose row is NONE. Log entry 20 (DESIGN CHOICE). -/
def State.freeDescriptor (s : State) : Nat :=
  ((upTo 4096).find? (fun d => rrKind (s.r (K.berylDescriptorTable + d)) = 0)).getD 0

/-- A U16 of an OCTETS(8) object set. -/
def octet16 (v k x : Nat) : Nat := setBits v (63 - 16 * k) (48 - 16 * k) x

/-- RegionState after a VMD has come or gone: READY or MAPPED. Log entry 21 (DEDUCED). -/
def State.regionMapped (s : State) (r : Nat) : State :=
  if s.r (K.regionState r) = 3 || s.r (K.regionState r) = 4 then
    s.w (K.regionState r) (if s.mapsRegion r then 4 else 3) else s

/-- One window of a creation given its descriptor; `base` is the run drawn for a PRIVATE window. Log entry 20 (DESIGN
CHOICE). -/
def State.placeWindow (s : State) (v : Nat) (w : Nat × Nat × Nat × Nat × Nat) (base : Nat) : State :=
  let d := s.freeDescriptor
  let row := if w.2.1 = 1 then rrOf 1 v w.1 0 base w.2.2.2.2 true else rrOf 2 v w.1 w.2.2.1 0 w.2.2.2.2 true
  let s := (s.w (K.berylDescriptorTable + d) row).w (K.vmdDescriptors v) (octet16 (s.r (K.vmdDescriptors v)) w.1 d)
  let s := s.w (K.vmdRegions v) (octet16 (s.r (K.vmdRegions v)) w.1 (if w.2.1 = 2 then w.2.2.1 else 65535))
  s.modVmd v (fun x => { x with windows := x.windows ++ [(w.2.1, w.2.2.1, w.2.2.2.1, w.2.2.2.2)] })

/-- The entry writes of a drawn run (R176). -/
def DrawnRun.writes (d : DrawnRun) : List (Nat × Nat × WriteOwner) :=
  if d.code < 1024 then
    d.extents.mapIdx (fun j x => (d.base + j, entOf 1 d.pid d.ld x none, WriteOwner.creation d.code))
  else d.extents.mapIdx (fun j x =>
    (d.base + j, entOf 2 d.pid d.ld x (some (d.code - 1024)), WriteOwner.region (d.code - 1024)))

/-- A VMD creation applies (R150 to R154, R176). -/
def State.createVmd (s : State) (args : List Byte) (draws : List DrawnRun) : State :=
  let v := fieldAt args 0 2
  let mine := draws.filter (fun d => decide (d.code = v))
  let ws := vmdWindows args
  let s := s.modVmd v (fun x => { x with windows := [] })
  let s := s.each ws (fun t w =>
    t.placeWindow v w (((mine.find? (fun d => decide (d.window = w.1))).map (·.base)).getD 0))
  let s := (s.w (K.vmdCapacity v) (sumOf (ws.map (fun w => w.2.2.2.2)) * extentBytes)).w (K.vmdWindowCount v) ws.length
  let s := s.w (K.vmdPresentedSerial v) (setBits Config.fabricIdentity 9 0 v)
  let s := s.queueWrites (mine.flatMap DrawnRun.writes)
  let fill := fieldAt args 2 1 = 1 && !mine.isEmpty
  let s := if fill then
      (s.each mine (fun t d => t.newFill d.base d.extents.length (some v) none)).modVmd v
        (fun x => { x with fills := mine.length })
    else s
  let s := s.setVmd v (if fill then .filling else .ready)
  s.each (ws.filter (fun w => decide (w.2.1 = 2))) (fun t w => t.regionMapped w.2.2.1)

/-- A region creation applies (R207). -/
def State.createRegion (s : State) (args : List Byte) (draws : List DrawnRun) : State :=
  let r := rcRegion args
  match draws.find? (fun d => decide (d.code = 1024 + r)) with
  | none => s
  | some d =>
    let s := s.w (K.berylRegionRunTable + r) (rrOf 3 0 0 r d.base d.extents.length true)
    let s := (s.w (K.regionClass r) (rcClass args)).w (K.regionWriter r) (rcWriter args)
    let s := if rcClass args = 1 then s.w (K.regionQuota r) (rcQuota args) else s
    let s := (s.w (K.regionExtents r) d.extents.length).w (K.regionSnoopsSent r) 0
    let s := s.modRegion r (fun _ => { pid := d.pid, ld := d.ld, fills := if rcZeroFill args then 1 else 0 })
    let s := s.queueWrites d.writes
    let s := if rcZeroFill args then s.newFill d.base d.extents.length none (some r) else s
    s.w (K.regionState r) (if rcZeroFill args then 2 else 3)

/-- A VMD or a region becomes READY when its last FILL job is DONE (R210). -/
def State.fillDone (s : State) (j : Nat) : State :=
  match (s.job j).forVmd, (s.job j).forRegion with
  | some v, _ =>
    let s := s.modVmd v (fun x => { x with fills := x.fills - 1 })
    if (s.vmd v).fills = 0 && s.vmdState v = .filling then s.setVmd v .ready else s
  | none, some r =>
    let s := s.modRegion r (fun x => { x with fills := x.fills - 1 })
    if (s.regionSt r).fills = 0 && s.r (K.regionState r) = 2 then (s.w (K.regionState r) 3).regionMapped r else s
  | _, _ => s

/-- The entries written FREE when a run is released (R176, R207). -/
def releaseIndices (row : Nat) : List Nat :=
  rangeIndices ((rrLive row, rrLength row) :: (if rrNextValid row then [(rrNext row, rrSplit row)] else []))

/-- The descriptor numbers of a VMD's windows. -/
def State.descriptors (s : State) (v : Nat) : List Nat :=
  let x := s.r (K.vmdDescriptors v)
  ([bits x 63 48, bits x 47 32, bits x 31 16, bits x 15 0]).filter (fun d => decide (d < 4096))

/-- The keys of the runs that destroying a VMD would release. -/
def State.vmdRuns (s : State) (v : Nat) : List Nat :=
  ((s.descriptors v).map (fun d => K.berylDescriptorTable + d)).filter (fun k => rrKind (s.r k) = 1)

/-- An engine has no job. -/
def State.idleEngine (s : State) (n : Nat) : State :=
  let s := s.modEngine n (fun e => { e with job := none, settled := false, copied := false, asked := none, nextLine := 0,
                                            endLine := 0, readA := [], readB := [], running := false })
  (((s.w (K.engineJob n) 0xFFFF).w (K.engineExtentIndex n) 0).w (K.engineChunkOffset n) 0).w (K.engineChunkSize n) 0

/-- Every engine that copies a job leaves it. -/
def State.leaveJob (s : State) (j : Nat) : State :=
  s.each (upTo 4) (fun u n => if (u.engine n).job = some j then u.idleEngine n else u)

/-- A FILL job that has not ended and is waiting ends with the run that it was to fill, and the engines that have taken it are free.
Log entry 21 (DEDUCED). -/
def State.endFills (s : State) (p : Job → Bool) : State :=
  s.each (s.jasper.jobs.filter (fun j => j.2.fill && p j.2 && decide (j.2.state = .pending)))
    (fun t j => (t.leaveJob j.1).endJob j.1 false .cancelled)

/-- A downstream tag carries binding generation g of a VMD, for its own request or on its behalf (R10). -/
def State.vmdTagged (s : State) (v g : Nat) : Bool :=
  s.core.tags.any (fun x => decide (x.2.vmd = some v) && decide (x.2.bindGen = g))

/-- The binding generation of a VMD moves by one, unless tags still carry the new value (R149). -/
def State.stepBindGeneration (s : State) (v : Nat) : State :=
  let g := (s.r (K.vmdBindGeneration v) + 1) % 65536
  if (s.vmd v).genWaits ≠ 0 || s.vmdTagged v g then s.modVmd v (fun x => { x with genWaits := x.genWaits + 1 })
  else s.w (K.vmdBindGeneration v) g

/-- Steps of a binding generation that have waited, as far as tags of the next value are freed (R149). -/
def State.settleBind (s : State) (v : Nat) : Nat → State
  | 0 => s
  | fuel + 1 =>
    let g := (s.r (K.vmdBindGeneration v) + 1) % 65536
    if s.vmdTagged v g then s
    else ((s.w (K.vmdBindGeneration v) g).modVmd v (fun x => { x with genWaits := x.genWaits - 1 })).settleBind v fuel

/-- A binding generation that waits for tags of its next value moves once they are freed (R149). -/
def State.pollBindGeneration (s : State) (v : Nat) : State := s.settleBind v (s.vmd v).genWaits

/-- The end of DRAINING (R153, R155, R175, R176): descriptors, entries, shares and quotas return, and the VMD is
ABSENT. -/
def State.releaseVmd (s : State) (v : Nat) : State :=
  let s := s.pollBindGeneration v
  let ds := s.descriptors v
  let rows := (s.vmdRuns v).map (fun k => s.r k)
  let regs := ((s.vmd v).windows.filter (fun w => decide (w.1 = 2))).map (fun w => w.2.1)
  let s := s.queueWrites ((rows.flatMap releaseIndices).map (fun i => (i, 0, WriteOwner.release)))
  let s := s.each ds (fun t d => t.w (K.berylDescriptorTable + d) (defaultOf (K.berylDescriptorTable + d)))
  let s := s.w K.berylDescriptorsFree (s.r K.berylDescriptorsFree + ds.length)
  let s := { s with beryl := { s.beryl with
    cache := s.beryl.cache.map (fun (e : Nat × List CacheLine) => (e.1, e.2.filter (fun c => !ds.contains c.descriptor)))
    commitPending := s.beryl.commitPending.filter (fun d => decide (d / 4 ≠ v)) } }
  let s := s.modVmd v (fun x => { x with windows := [], fills := 0, events := [], space := [], mailbox := none, doe := [] })
  let s := ((s.w (K.vmdCapacity v) 0).w (K.vmdWindowCount v) 0).w (K.vmdQueueShare v) 0
  let s := (s.w (K.vmdDescriptors v) (defaultOf (K.vmdDescriptors v))).w (K.vmdRegions v) (defaultOf (K.vmdRegions v))
  let s := ((s.w (K.vmdDecodersCommitted v) 0).w (K.vmdPresentedSerial v) 0).setVmd v .absent
  s.each regs.eraseDups (fun t r => (t.freeQuota r).regionMapped r)

/-- A region destruction applies (R207). Log entry 21 (DEDUCED). -/
def State.destroyRegion (s : State) (r : Nat) : State :=
  let row := s.r (K.berylRegionRunTable + r)
  let s := s.endFills (fun j => decide (j.forRegion = some r))
  let s := s.queueWrites ((releaseIndices row).map (fun i => (i, 0, WriteOwner.release)))
  let s := s.w (K.berylRegionRunTable + r) (defaultOf (K.berylRegionRunTable + r))
  let s := { s with regions := Tbl.del s.regions r }
  (upTo 13).foldl (fun t j => t.w (obj (0x4100 + r) (j + 1)) (defaultOf (obj (0x4100 + r) (j + 1)))) s

/-- Some index of a run belongs to a job that is moving or filling it (R221). -/
def State.runBusy (s : State) (k : Nat) : Bool :=
  let l := rrRanges (s.r k)
  s.jasper.jobs.any (fun j =>
    (match j.2.state with
      | .armStaged => true | .copying => true | .commitStaged => true | .disarmStaged => true | _ => false)
    && (if j.2.fill then l.any (fun x => rangesMeet x (j.2.index, j.2.count)) else inRanges l j.2.index))

/-! ## Bindings (R157, R160) -/

/-- The key of vPPB p of tenant t in VppbTable. -/
def vppbKey (t p : Nat) : Nat := K.tenantVppbTable t + p

/-- A row's binding: kind and target. -/
def vppbBinding (row : Nat) : Nat × Nat := (bits row 63 56, bits row 55 48)

/-- A VppbTable row as written: its zero bits are zero, and so is Target of Kind NONE. Log entry 14 (DEDUCED). -/
def vppbWritten (row : Nat) : Nat := if bits row 63 56 = 0 then 0 else setBits row 47 0 0

/-- The rows of VppbTable after a set: tenant, vPPB, kind and target. -/
def State.bindings (s : State) (set : Tbl Nat) : List (Nat × Nat × Nat × Nat) :=
  let live := s.regs.filter (fun e => decide (0x3000 ≤ objIndex e.1) && decide (objIndex e.1 < 0x3040)
    && decide (objSub e.1 = 0x09))
  let staged := set.filter (fun e => decide (0x3000 ≤ objIndex e.1) && decide (objIndex e.1 < 0x3040)
    && decide (objSub e.1 = 0x09))
  let kept := live.filter (fun e => (Tbl.find set e.1).isNone)
  ((kept ++ staged).map (fun e =>
    (objIndex e.1 - 0x3000, objRow e.1, bits e.2 63 56, bits e.2 55 48))).filter (fun b => decide (b.2.2.1 ≠ 0))

/-- The targets of the creations of a list of staged commands: whose extents they write BOUND or SHARED. -/
def creationTargets (acts : List StagedAct) : List Nat :=
  acts.flatMap (fun a => match a with
    | .vmdCreate x => (privateWindows x).map (fun w => w.2.2.1)
    | .regionCreate x => [fieldAt x 4 2]
    | _ => [])

/-- The DEVICE port carries a BOUND, SHARED or MIGRATING extent: by an entry, by a write of one that waits, or by what a set brings
before its bindings. -/
def State.portCarriesExtents (s : State) (acts : List StagedAct) (p : Nat) : Bool :=
  let carries (v : Nat) : Bool := decide (1 ≤ entState v) && decide (entState v ≤ 3) && decide (s.pidPort (entTarget v) = some p)
  s.entries.any (fun e => carries e.2) || s.beryl.writes.any (fun q => q.2.any (fun x => carries x.2.1))
    || (patchesOf acts).any (fun x => carries x.2) || (creationTargets acts).any (fun t => decide (s.pidPort t = some p))

/-- VMDs destroyed by a list of staged commands. -/
def destroyedIn (acts : List StagedAct) : List Nat :=
  acts.filterMap (fun a => match a with | .vmdDestroy v => some v | _ => none)

/-- Regions destroyed by a list of staged commands. -/
def regionsDestroyedIn (acts : List StagedAct) : List Nat :=
  acts.filterMap (fun a => match a with | .regionDestroy r => some r | _ => none)

/-- The regions that a VMD maps. -/
def State.vmdRegionList (s : State) (v : Nat) : List Nat :=
  ((s.vmd v).windows.filter (fun w => decide (w.1 = 2))).map (fun w => w.2.1)

/-- The region is READY or MAPPED after the set: now, or created in the set without ZeroFill (R207). -/
def State.regionReady (s : State) (acts : List StagedAct) (r : Nat) : Bool :=
  decide (3 ≤ s.r (K.regionState r)) || (regionCreations acts).any (fun x => decide (rcRegion x = r) && !rcZeroFill x)

/-- A VMD may be bound after the set: READY or BOUND and not destroyed, or created in the set without ZeroFill, with
every region it maps READY (R154, R156, R157, R207). -/
def State.bindable (s : State) (acts : List StagedAct) (v : Nat) : Bool :=
  if destroyedIn acts |>.contains v then false
  else
    match (vmdCreations acts).find? (fun x => decide (fieldAt x 0 2 = v)) with
    | some x => decide (fieldAt x 2 1 ≠ 1)
        && ((vmdWindows x).filter (fun w => decide (w.2.1 = 2))).all (fun w => s.regionReady acts w.2.2.1)
    | none => (s.vmdState v = .ready || s.vmdState v = .bound) && (s.vmdRegionList v).all (s.regionReady acts)

/-- Port p exists after a set, and is a DEVICE port. -/
def State.deviceAfter (s : State) (set : Tbl Nat) (p : Nat) : Bool :=
  let m := (Tbl.find set (K.sliceMode (sliceOf p))).getD (s.sliceMode (sliceOf p))
  (Tbl.find set (K.portPortRole p)).getD (s.portRole p) = 1
    && (if m = 2 then p % 4 = 0 else if m = 1 then p % 2 = 0 else true)

/-- One binding is admitted among all of them (R157). -/
def State.bindingOk (s : State) (set : Tbl Nat) (acts : List StagedAct) (all : List (Nat × Nat × Nat × Nat))
    (b : Nat × Nat × Nat × Nat) : Bool :=
  let same := all.filter (fun c => decide (c.2.2 = b.2.2))
  if b.2.2.1 = 1 then
    decide ((same.filter (fun c => decide (c.1 = b.1))).length ≤ 1) && decide (b.2.2.2 < 16)
      && s.bindable acts (16 * b.1 + b.2.2.2)
  else
    decide (b.2.2.1 = 2) && same.all (fun c => decide (c.1 = b.1)) && decide (b.2.2.2 < 96) && s.deviceAfter set b.2.2.2
      && !s.portCarriesExtents acts b.2.2.2

/-- The bindings after a set, those that the set changes being admitted (R157). -/
def State.bindingsOk (s : State) (set : Tbl Nat) (acts : List StagedAct) : Bool :=
  let all := s.bindings set
  all.all (fun b => decide (vppbBinding (s.r (vppbKey b.1 b.2.1)) = b.2.2) || s.bindingOk set acts all b)

/-- Some unbound VMD of a destruction stays bound: destructions need their VMDs unbound (R155). -/
def State.destructionsOk (s : State) (set : Tbl Nat) (acts : List StagedAct) : Bool :=
  let all := s.bindings set
  (destroyedIn acts).all (fun v =>
      !all.any (fun b => decide (b.1 = v / 16) && decide (b.2.2 = (1, v % 16)))
      && (s.vmdRuns v).all (fun k => !s.runBusy k))
    && (regionsDestroyedIn acts).all (fun r => !s.mapsRegion r && !s.runBusy (K.berylRegionRunTable + r)
      && !(acts ++ s.stagedActs).any (fun a => match a with
        | .vmdCreate x => (vmdWindows x).any (fun w => decide (w.2.1 = 2) && decide (w.2.2.1 = r)) | _ => false))

/-- Bits of the emulated Slot Status are set, and the hot-plug interrupt is raised where the tenant has enabled it, and one of the
events `enables`, in the emulated Slot Control (R160). Log entry 58 (PRESUMED). -/
def State.slotEvent (s : State) (t b changes enables : Nat) : State :=
  let x := s.tenant t
  let c := Tbl.getD x.slotControl b 0
  let s := s.modTenant t (fun x => { x with slotStatus := Tbl.put x.slotStatus b (Tbl.getD x.slotStatus b 0 ||| changes) })
  if bit c 5 && c &&& enables ≠ 0 then
    (s.modTenant t (fun x => { x with hotPlugs := x.hotPlugs + 1 })).emit (.hotPlugInterrupt t b)
  else s

/-- The vPPB's emulated hot-plug state after a change of its row (R160): presence, link, Presence Detect Changed and Data Link
Layer State Changed. Log entry 58 (PRESUMED). -/
def State.hotPlug (s : State) (t p : Nat) (row : Nat) (present : Bool) : State :=
  let k := K.tenantVppbStatus t + p
  let old := s.r k
  let v := setBits (setBits (setBits (setBits old 63 56 (bits row 63 56)) 55 48 (bits row 55 48)) 47 47 (ofBool present))
    46 46 (ofBool present)
  (s.w k v).slotEvent t p 0x108 0x1008

/-- Members of the region of a VMD's SHARED windows, from the bindings in force (R179). -/
def State.setMembers (s : State) : State :=
  s.each (upTo 256) (fun t r =>
    let mem := (upTo 64).filter (fun n => (upTo 16).any (fun k =>
      t.vmdState (16 * n + k) = .bound && (t.vmdRegionList (16 * n + k)).contains r))
    if t.vmds.isEmpty then t else t.w (K.regionMembers r) (ofBitsSet mem))

/-- One row of VppbTable changes to NONE, or from one binding to another (R156, R157, R160). -/
def State.unbindRow (s : State) (t p : Nat) : State :=
  let row := s.r (vppbKey t p)
  if bits row 63 56 = 0 then s
  else
    let s := if bits row 63 56 = 1 then
        let v := 16 * t + bits row 55 48 % 16
        let s := s.stepBindGeneration v
        if s.vmdState v = .bound then s.setVmd v .ready else s
      else s
    (s.w (vppbKey t p) 0).hotPlug t p 0 false

/-- A row of VppbTable comes into force (R157, R160). -/
def State.bindRow (s : State) (t p row : Nat) : State :=
  if bits row 63 56 = 0 then s
  else
    let s := if bits row 63 56 = 1 then
        let v := 16 * t + bits row 55 48 % 16
        if s.vmdState v = .ready then s.setVmd v .bound else s
      else s
    (s.w (vppbKey t p) row).hotPlug t p row true

/-- The rows of VppbTable that a set changes: tenant, vPPB and new row. -/
def State.changedBindings (s : State) (set : Tbl Nat) : List (Nat × Nat × Nat) :=
  (set.filter (fun e => decide (0x3000 ≤ objIndex e.1) && decide (objIndex e.1 < 0x3040)
    && decide (objSub e.1 = 0x09) && decide (s.r e.1 ≠ e.2))).map (fun e => (objIndex e.1 - 0x3000, objRow e.1, e.2))

/-! ## The commands -/

/-- A creation that waits in the staged set (R152). -/
def State.stageVmd (s : State) (args : List Byte) : State :=
  ({ s with stagedActs := s.stagedActs ++ [StagedAct.vmdCreate args] }).setVmd (fieldAt args 0 2) .staged

/-- VMD_CREATE (R152, R153). -/
def execVmdCreate (env : JdpEnv) (s : State) : Res :=
  effectOf env (fun s => s.trigger env 0x3500 (fun s args => s.vmdCreateChecks args)
    (fun s args =>
      if s.device = .preop then
        match s.drawSet [] [StagedAct.vmdCreate args] with
        | none => s.cmdFailed 0x3500 0x0A01
        | some (t, runs, _) => (t.createVmd args runs).cmdDone 0x3500 []
      else (s.stageVmd args).cmdDone 0x3500 [])) s

/-- The checks of VmdDestroy (R155): the VMD exists and is not DRAINING; in PREOP it is unbound at once. -/
def State.vmdDestroyChecks (s : State) (args : List Byte) : CmdChecks :=
  let v := fieldAt args 0 2
  { resource :=
      if v < 1024 && (s.vmdState v = .absent || s.vmdState v = .staged || s.vmdState v = .draining) then some 0x0502
      else none
    range := if 1023 < v then some 0x0702
      else if s.device = .preop && !s.destructionsOk [] [.vmdDestroy v] then some 0x0704 else none }

/-- VMD_DRAIN_COMPLETE: Outstanding of a DRAINING VMD has reached 0 (R155). -/
def execVmdDrainComplete (vmd : VmdId) (s : State) : Res :=
  effect (fun s =>
    if s.vmdState vmd.val = .draining && s.r (K.vmdOutstanding vmd.val) = 0 then s.releaseVmd vmd.val else s) s

/-- REGION_CREATE (R207). -/
def execRegionCreate (env : JdpEnv) (s : State) : Res :=
  effectOf env (fun s => s.trigger env 0x4010 (fun s args => s.regionCreateChecks args)
    (fun s args =>
      if s.device = .preop then
        match s.drawSet [] [StagedAct.regionCreate args] with
        | none => s.cmdFailed 0x4010 0x0A01
        | some (t, runs, _) => (t.createRegion args runs).cmdDone 0x4010 []
      else (({ s with stagedActs := s.stagedActs ++ [StagedAct.regionCreate args] }).w (K.regionState (rcRegion args)) 1).cmdDone
        0x4010 [])) s

/-- The checks of RegionDestroy (R207). -/
def State.regionDestroyChecks (s : State) (args : List Byte) : CmdChecks :=
  let r := fieldAt args 0 1
  { resource := if s.r (K.regionState r) ≤ 1 then some 0x0502 else none
    range := if s.device = .preop && !s.destructionsOk [] [.regionDestroy r] then some 0x0704 else none }

/-- REGION_DESTROY (R207). -/
def execRegionDestroy (env : JdpEnv) (s : State) : Res :=
  effectOf env (fun s => s.trigger env 0x4011 (fun s args => s.regionDestroyChecks args)
    (fun s args =>
      let r := fieldAt args 0 1
      let s := if s.device = .preop then s.destroyRegion r
        else { s with stagedActs := s.stagedActs ++ [.regionDestroy r] }
      s.cmdDone 0x4011 [])) s

end Sys2Proof.Machine
end

