-- ==== Sys2Proof/Machine/Presented.lean ====
section
/-! DEFINITION. What a tenant's host finds in its hierarchy (08): the presented objects of VMDs, the emulated hot-plug slots of
vPPBs, and errors reported into the hierarchy. -/

namespace Sys2Proof.Machine

/-! ## Errors reported into the hierarchy (R143) -/

/-- Bits of AER's Uncorrectable Error Status: Completer Abort. Log entry 58 (PRESUMED). -/
def errAbort : Nat := 15
/-- Unsupported Request. Log entry 58 (PRESUMED). -/
def errUnsupported : Nat := 20

/-- ACS Violation. Log entry 58 (PRESUMED). -/
def errAcs : Nat := 21

/-- An error of a tenant's own transaction is reported through AER on its vPPB b, or its virtual upstream port (R143). -/
def State.reportError (s : State) (t b e : Nat) : State :=
  (s.modTenant t (fun x => { x with errors := Tbl.put x.errors b (setBit (Tbl.getD x.errors b 0) e true) })).emit
    (.errorMessage t b e)

/-! ## VMDs and vPPBs (R150, R160, R161) -/

/-- The row of VppbTable that binds a VMD to its tenant, if any. -/
def State.vppbOf (s : State) (v : Nat) : Option Nat :=
  (upTo 32).find? (fun p => decide (vppbBinding (s.r (vppbKey (v / 16) p)) = (1, v % 16)))

/-- A VMD answers requests: it is bound on a vPPB whose emulated power is on (R160, R161). -/
def State.vmdReachable (s : State) (v : Nat) : Bool :=
  s.vmdState v = .bound &&
    (match s.vppbOf v with
     | some p => !bit (s.r (K.tenantVppbStatus (v / 16) + p)) 45
     | none => false)

/-- A VMD with a window on a COHERENT region presents HDM-DB, any other HDM-H (R150, R179). -/
def State.presentsHdmDb (s : State) (v : Nat) : Bool :=
  (s.vmdRegionList v).any (fun r => decide (s.r (K.regionClass r) = 1))

/-- The HDM Decoder Capability that every VMD presents: four decoders, interleave granularities from 256 bytes to 16 KiB (R150).
Log entry 58 (PRESUMED). -/
def decoderCapability : Nat := 0x302

/-- The Slot Capabilities that every vPPB presents: attention button, power controller and hot plug, no MRL sensor (R160). Log
entry 58 (PRESUMED). -/
def slotCapabilities : Nat := 0x43

/-- The ACS capability of every virtual downstream port: Source Validation, Translation Blocking, P2P Request Redirect, P2P Completion
Redirect, Upstream Forwarding and Direct Translated P2P, without Egress Control (Table 4-3). Log entry 58 (PRESUMED). -/
def acsCapability : Nat := 0x5F

/-- What a DOE mailbox's Discovery lists, by vendor and object type: Discovery, CMA/SPDM, Secured CMA/SPDM, which carries IDE_KM, and
CDAT (Table 4-3). Log entry 58 (PRESUMED). -/
def doeProtocols : List Nat := [0x000100, 0x000101, 0x000102, 0x1E9802]

/-- The answer of a DOE mailbox to a request, whose lowest 24 bits are its protocol: Discovery gives the entry of an index and the next
index; a protocol that is not listed gets no answer (Table 4-3). Log entry 58 (PRESUMED). -/
def doeRun (mailbox request : Nat) : List Nat :=
  let protocol := request % 2 ^ 24
  let i := request / 2 ^ 24 % 256
  if protocol = 0x000100 then [(doeProtocols[i]?).getD 0x00FFFF, if i + 1 < doeProtocols.length then i + 1 else 0]
  else if doeProtocols.contains protocol then Config.doeAnswer mailbox request
  else []

/-- The number of a DOE mailbox: a VMD's, or 1,024 and the tenant's. -/
def doeNumber (t : Nat) (v : Option Nat) : Nat := v.getD (1024 + t)

/-- The key under which a VMD keeps a field of an HDM decoder. -/
def decoderKey (k field : Nat) : Nat := 2 ^ 32 + 16 * k + field

/-- A bit of a row of VppbStatus set. -/
def State.setVppbBit (s : State) (t b i : Nat) (v : Bool) : State :=
  s.w (K.tenantVppbStatus t + b) (setBit (s.r (K.tenantVppbStatus t + b)) i v)

/-- The tenant acknowledges the attention event of a vPPB (R161). -/
def State.acknowledge (s : State) (t b : Nat) : State :=
  (s.setVppbBit t b 44 false).modTenant t (fun x =>
    { x with slotStatus := Tbl.put x.slotStatus b (setBit (Tbl.getD x.slotStatus b 0) 0 false) })

/-- The VMD whose presented object a register is. -/
def ownVmd : OwnReg → Option Nat
  | .capacity v => some v | .serial v => some v | .memoryKind v => some v | .decoderCap v => some v | .decoder v _ _ => some v
  | .mailboxCommand v => some v | .mailboxAnswer v _ => some v | .vmd v _ => some v
  | .doeRequest v => v | .doeAnswer v _ => v
  | .slotCap _ => none | .slotControl _ => none | .slotStatus _ => none | .errors _ => none | .switch _ => none
  | .ariCap _ => none | .acsCap _ => none | .acsControl _ => none | .margin _ _ => none

/-- A register of the tenant's hierarchy answers: it belongs to no VMD, or to a VMD of the tenant that is reachable (R160,
R161). -/
def State.ownAnswers (s : State) (t : Nat) (x : OwnReg) : Bool :=
  match ownVmd x with
  | some v => decide (v / 16 = t) && s.vmdReachable v
  | none => true

/-- The row of VppbStatus of a vPPB. -/
def State.slotRow (s : State) (t b : Nat) : Nat := s.r (K.tenantVppbStatus t + b)

/-- The margin of a lane of the tenant's primary port, as its last eye scan found it (R82, Table 4-3). -/
def State.marginOf (s : State) (t lane : Nat) (vertical : Bool) : Nat :=
  match (s.portLanes (s.r (K.tenantPrimaryPort t)))[lane]? with
  | some n => s.r (if vertical then K.laneMarginV n else K.laneMarginH n)
  | none => 0

/-- What a register of a tenant's hierarchy holds; `x` is what the spec does not give (R150, R160). Bit 10 of a
decoder's field 0 shows Committed, bit 10 of Slot Control the emulated power, bit 6 of Slot Status the presence. Log entry 58
(PRESUMED). -/
def State.ownValue (s : State) (t x : Nat) : OwnReg → Nat
  | .capacity v => s.r (K.vmdCapacity v)
  | .serial v => s.r (K.vmdPresentedSerial v)
  | .memoryKind v => ofBool (s.presentsHdmDb v)
  | .decoderCap _ => decoderCapability
  | .decoder v k f =>
    let y := Tbl.getD (s.vmd v).space (decoderKey k f) 0
    if f = 0 then setBit y 10 (bit (s.r (K.vmdDecodersCommitted v)) k) else y
  | .mailboxCommand _ => x
  | .mailboxAnswer v i => (((s.vmd v).mailbox.getD [])[i]?).getD x
  | .vmd v r => Tbl.getD (s.vmd v).space r x
  | .doeRequest _ => x
  | .doeAnswer v i => ((match v with | some n => (s.vmd n).doe | none => (s.tenant t).doe)[i]?).getD 0
  | .slotCap _ => slotCapabilities
  | .ariCap _ => 1
  | .acsCap _ => acsCapability
  | .acsControl b => Tbl.getD (s.tenant t).acs b 0
  | .margin n vertical => s.marginOf t n vertical
  | .slotControl b => setBit (Tbl.getD (s.tenant t).slotControl b 0) 10 (bit (s.slotRow t b) 45)
  | .slotStatus b => setBit (Tbl.getD (s.tenant t).slotStatus b 0) 6 (bit (s.slotRow t b) 47)
  | .errors b => Tbl.getD (s.tenant t).errors b 0
  | .switch r => Tbl.getD (s.tenant t).space r x

/-- The answer of a memory-device mailbox to a command of R150, its return code first: Identify Memory Device gives the capacity, Get
Event Records the handle and address of each record, Get Health Info and Get Log what the spec does not state. Clear Event Records
comes as CLEAR_EVENT_RECORDS, and any other command is Unsupported. Log entry 58 (PRESUMED). -/
def State.mailboxRun (s : State) (v opcode : Nat) : State :=
  let answer : List Nat :=
    if opcode = 0x4000 then [0, s.r (K.vmdCapacity v)]
    else if opcode = 0x0100 then 0 :: (s.vmd v).events.flatMap (fun e => [e.handle, e.dpa])
    else if opcode = 0x0101 then [0]
    else if opcode = 0x4200 || opcode = 0x0401 then 0 :: Config.mailboxAnswer v opcode
    else [0x15]
  s.modVmd v (fun x => { x with mailbox := some answer })

/-- A write of a register of a tenant's hierarchy; `y` is what the register then holds where PCI Express or CXL fixes it. Status
bits are cleared by writing 1; Power Controller Control comes as EMULATED_POWER_CONTROL_WRITE, and a decoder's Commit as
HDM_DECODER_COMMIT. Log entry 58 (PRESUMED). -/
def State.ownWrite (s : State) (t data y : Nat) : OwnReg → State
  | .decoder v k f => s.modVmd v (fun z => { z with space := Tbl.put z.space (decoderKey k f) data })
  | .mailboxCommand v => s.mailboxRun v data
  | .vmd v r => s.modVmd v (fun z => { z with space := Tbl.put z.space r y })
  | .doeRequest (some v) => s.modVmd v (fun z => { z with doe := doeRun (doeNumber t (some v)) data })
  | .doeRequest none => s.modTenant t (fun z => { z with doe := doeRun (doeNumber t none) data })
  | .acsControl b => s.modTenant t (fun z => { z with acs := Tbl.put z.acs b (data &&& acsCapability) })
  | .slotControl b => s.modTenant t (fun z => { z with slotControl := Tbl.put z.slotControl b (setBit data 10 false) })
  | .slotStatus b =>
    let s := s.modTenant t (fun z => { z with
      slotStatus := Tbl.put z.slotStatus b (Tbl.getD z.slotStatus b 0 - (Tbl.getD z.slotStatus b 0 &&& data)) })
    if bit data 0 then s.acknowledge t b else s
  | .errors b => s.modTenant t (fun z => { z with
      errors := Tbl.put z.errors b (Tbl.getD z.errors b 0 - (Tbl.getD z.errors b 0 &&& data)) })
  | .switch r => s.modTenant t (fun z => { z with space := Tbl.put z.space r y })
  | .capacity _ => s
  | .serial _ => s
  | .memoryKind _ => s
  | .decoderCap _ => s
  | .mailboxAnswer _ _ => s
  | .slotCap _ => s
  | .doeAnswer _ _ => s
  | .ariCap _ => s
  | .acsCap _ => s
  | .margin _ _ => s

/-- A tenant's reset returns what its VMDs present to its reset values: configuration space, HDM decoders, mailboxes (R148). -/
def State.resetPresented (s : State) (t : Nat) : State :=
  s.each (upTo 16) (fun u k =>
    let v := 16 * t + k
    let u := u.w (K.vmdDecodersCommitted v) 0
    if (u.vmd v).space.isEmpty && (u.vmd v).mailbox.isNone && (u.vmd v).doe.isEmpty then u
    else u.modVmd v (fun x => { x with space := [], mailbox := none, doe := [] }))

end Sys2Proof.Machine
end

