-- ==== Sys2Proof/Machine/Egress.lean ====
section
/-! DEFINITION. Egress (07): the buffer of each port, its three levels, the weighted group, token buckets, the transmit
decision and queue samples; policing at host ports. -/

namespace Sys2Proof.Machine

/-! ## Link channels (Table 5-1) -/

/-- Channel numbers, in the order of Table 5-1. -/
def chanNum : Chan → Nat
  | .posted => 0 | .nonPosted => 1 | .completion => 2 | .m2sReq => 3 | .m2sRwd => 4 | .s2mNdr => 5 | .s2mDrs => 6
  | .biSnp => 7 | .biRsp => 8 | .d2hReq => 9 | .h2dReq => 10 | .d2hRsp => 11 | .h2dRsp => 12 | .d2hData => 13
  | .h2dData => 14

/-- Channels of the Request group. -/
def isRequestChan (c : Nat) : Bool := [0, 1, 3, 4, 9, 10].contains c

/-- The channel by which a CXL.cache message leaves a port: towards a host D2H, towards a device H2D. -/
def cacheChan (k : CacheKind) (host : Bool) : Nat :=
  match k with
  | .req => if host then 9 else 10 | .rsp => if host then 11 else 12 | .data => if host then 13 else 14

/-- The ordering class of a message on a fabric link, by its kind and class byte (R241, R247). Log entry 66 (DESIGN CHOICE). -/
def fabricCls (m : FabricMsg) : Cls :=
  match m.kind with
  | .ioNonPosted => .ioNp
  | .ioPosted => .ioP
  | .cache => if m.classByte = 4 then .memRsp else .memReq
  | .response => if m.classByte = 5 then .bi else if m.classByte = 4 then .memRsp else .ioCpl
  | _ => .memReq

/-- The link channel of a message on a fabric link; `host` as for CXL.cache messages. Log entry 66 (DESIGN CHOICE). -/
def fabricChan (m : FabricMsg) (host : Bool) : Nat :=
  let data := decide (16 < m.bytes)
  match m.kind with
  | .memRead => 3 | .memNoData => 3 | .memWrite => 4 | .ioNonPosted => 1 | .ioPosted => 0
  | .cache => cacheChan (if m.classByte = 4 then (if data then .data else .rsp) else .req) host
  | .response => match fabricCls m with | .ioCpl => 2 | .bi => 7 | _ => if data then 6 else 5

/-- The channel by which a message leaves a port; `host` is the port's role. -/
def MsgKind.chan (k : MsgKind) (host : Bool) : Nat :=
  match k with
  | .memRd _ => 3 | .memInv _ => 3 | .memClnEvct => 3 | .memWr _ => 4 | .atomic _ => 1
  | .drs _ => 6 | .ndrCmp => 5 | .ndrCmpE => 5 | .ndrCmpS => 5 | .biConflictAck => 5
  | .biSnpInv => 7 | .biSnpData => 7 | .biSnpCur => 7 | .biSnpInvBlk => 7
  | .tlp .memWrite => 0 | .tlp .message => 0 | .tlp .completion => 2 | .tlp (.cache k) => cacheChan k host | .tlp _ => 1
  | .cplUr => 2 | .cplCa => 2 | .cplData => 2
  | .cache k => cacheChan k host
  | .biRsp _ _ _ => 8
  | .fabric m => fabricChan m host

/-- Bytes of the header of a message that the switch makes itself: three DWs of a completion, else 16. Log entry 22 (PRESUMED). -/
def MsgKind.headLen (k : MsgKind) : Nat := match k with | .cplUr => 12 | .cplCa => 12 | .cplData => 12 | _ => 16

/-- Bytes of a message's header and prefixes: of a TLP as received, else of the switch's own form (R103). -/
def Msg.headLen (m : Msg) : Nat := if m.head.isEmpty then m.kind.headLen else m.head.length

/-- Bytes of data of a message, without header, prefixes and ECRC (R103). -/
def Msg.dataLen (m : Msg) : Nat := m.bytes - m.headLen - m.ecrc.length

/-- Data credits that a message takes: 16-byte units of a TLP's data; CXL messages count as messages. Log entry 24
(DEDUCED). -/
def Msg.dataUnits (m : Msg) : Nat :=
  match m.cls with
  | .ioP | .ioNp | .ioCpl => (m.dataLen + 15) / 16
  | _ => 0

/-- The credits of a channel that the partner has granted, dedicated and shared (R89). -/
def PortSt.creditsOf (x : PortSt) (c : Nat) : Nat × Nat :=
  let (h, d) := Tbl.getD x.credits c (0, 0)
  let (sh, sd) := Tbl.getD x.shared c (0, 0)
  (h + sh, d + sd)

/-- The partner's credits admit the messages, taken together (R89, R129). -/
def PortSt.admits (x : PortSt) (host : Bool) (ms : List Msg) : Bool :=
  ms.all (fun m =>
    let c := m.kind.chan host
    let same := ms.filter (fun n => decide (n.kind.chan host = c))
    let (gh, gd) := x.creditsOf c
    let (uh, ud) := Tbl.getD x.consumed c (0, 0)
    decide (uh + same.length ≤ gh) && decide (ud + sumOf (same.map Msg.dataUnits) ≤ gd ∨ sumOf (same.map Msg.dataUnits) = 0))

/-- The channels that hold the messages, taken together, back (R97, R129). -/
def PortSt.short (x : PortSt) (host : Bool) (ms : List Msg) : List Nat :=
  (ms.filter (fun m => !x.admits host (ms.filter (fun n => decide (n.kind.chan host = m.kind.chan host))))).map
    (fun m => m.kind.chan host)

/-- The credits of a message consumed. -/
def PortSt.consume (x : PortSt) (host : Bool) (m : Msg) : PortSt :=
  let c := m.kind.chan host
  let (h, d) := Tbl.getD x.consumed c (0, 0)
  { x with consumed := Tbl.put x.consumed c (h + 1, d + m.dataUnits) }

/-! ## The egress buffer (R127, R128) -/

/-- Buffer size and the part reserved for S0 and S1 (Table 7-1). -/
def State.egressSize (s : State) (p : Nat) : Nat × Nat :=
  match s.sliceMode (sliceOf p) with | 2 => (64, 16) | 1 => (32, 8) | _ => (16, 4)

/-- The member of the weighted group that a cell joins (R128). -/
def Cell.member (c : Cell) : Nat := if 56 ≤ c.src && c.src ≤ 59 then 64 else c.tenant

/-- Fields of a MemberConfig row (Table 7-3). -/
def mcWeight (r : Nat) : Nat := bits r 127 112
/-- DepthLimit. -/
def mcDepth (r : Nat) : Nat := bits r 111 96
/-- Rate. -/
def mcRate (r : Nat) : Nat := bits r 95 64
/-- Burst. -/
def mcBurst (r : Nat) : Nat := bits r 63 32

/-- MemberConfig of member j at port p. -/
def State.memberConfig (s : State) (p j : Nat) : Nat := s.r (K.egressMemberConfig p + j)

/-- The cells of a member. -/
def EgressSt.member (e : EgressSt) (j : Nat) : List EgressCell := Tbl.getD e.members j []

/-- Cells of the weighted group. -/
def EgressSt.groupCells (e : EgressSt) : Nat := sumOf (e.members.map (fun m => m.2.length))

/-- Every cell of the buffer. -/
def EgressSt.total (e : EgressSt) : Nat := e.bi.length + e.memRsp.length + e.ioCpl.length + e.groupCells

/-- Classes of the weighted group (R128). -/
def Cls.weighted : Cls → Bool
  | .ioP => true | .ioNp => true | .memReq => true | .ioCpl => false | .memRsp => false | .bi => false

/-- Room for a cell in the egress queues of a port, beside cells that are on their way to them (R127). -/
def State.roomBeside (s : State) (p : Nat) (c : Cell) (coming : List Cell) : Bool :=
  let e := s.egress p
  let (size, res) := s.egressSize p
  let group := coming.filter (fun x => x.cls.weighted)
  let same := group.filter (fun x => decide (x.member = c.member))
  decide (e.total + coming.length < size) && (!c.cls.weighted
    || (decide (e.groupCells + group.length < size - res)
      && decide ((e.member c.member).length + same.length < mcDepth (s.memberConfig p c.member))))

/-- Room for a cell in the egress queues of a port (R127). -/
def State.egressRoom (s : State) (p : Nat) (c : Cell) : Bool := s.roomBeside p c []

/-- a precedes b modulo 2^32 (R132). -/
def tagBefore (a b : Nat) : Bool := decide ((b + 2 ^ 32 - a % 2 ^ 32) % 2 ^ 32 < 2 ^ 31) && decide (a % 2 ^ 32 ≠ b % 2 ^ 32)

/-- The later of two tags. -/
def tagMax (a b : Nat) : Nat := if tagBefore a b then b else a

/-- The finish tag of a cell that becomes its member's head: F = max(V, F_j) + charge * 65,536 / w (R132). -/
def finishTag (v f charge w : Nat) : Nat := (tagMax v f + charge * 65536 / max 1 w) % 2 ^ 32

/-- A cell enters the egress buffer (R128, R132). -/
def State.egressEnter (s : State) (p : Nat) (c : Cell) : State :=
  let w := mcWeight (s.memberConfig p c.member)
  let v := s.r (K.egressVirtualTime p)
  s.modEgress p (fun e =>
    let x : EgressCell := { cell := c, enteredBeat := s.beat, enteredTick := s.tick, order := e.entered }
    let e := { e with entered := e.entered + 1 }
    match c.cls with
    | .bi => { e with bi := e.bi ++ [x] }
    | .memRsp => { e with memRsp := e.memRsp ++ [x] }
    | .ioCpl => { e with ioCpl := e.ioCpl ++ [x] }
    | _ =>
      let l := e.member c.member
      let e := { e with members := Tbl.put e.members c.member (l ++ [x]) }
      if l.isEmpty then { e with finish := Tbl.put e.finish c.member (finishTag v v c.valid w) } else e)

/-! ## The transmit decision (R129 to R134) -/

/-- A message runs on from this cell into the flow's next cell (R102). -/
def Cell.tailCont (c : Cell) : Bool := c.tail.isSome

/-- The messages whose headers lie in a cell (R102, R129). -/
def Cell.begins (c : Cell) : List Msg :=
  (if c.headCont then c.msgs.drop 1 else c.msgs)
    ++ (match c.tail with | some m => if c.headCont && c.msgs.isEmpty then [] else [m] | none => [])

/-- The cells of every TLP that begins in a cell have been released; `behind` are the cells of its queue behind it
(R116). -/
def cellWhole (x : EgressCell) (behind : List EgressCell) : Bool :=
  let io := match x.cell.cls with | .ioP => true | .ioNp => true | .ioCpl => true | _ => false
  !io || !x.cell.tailCont || (x.cell.headCont && x.cell.msgs.isEmpty)
    || behind.any (fun y => decide (y.cell.src = x.cell.src) && decide (y.cell.cls = x.cell.cls) && !y.cell.msgs.isEmpty)

/-- All IO-P cells of the buffer. -/
def EgressSt.posted (e : EgressSt) : List EgressCell :=
  (e.members.flatMap (fun m => m.2)).filter (fun x => decide (x.cell.cls = .ioP))

/-- The IO-NP and IO-CPL cells of the buffer. -/
def EgressSt.waiters (e : EgressSt) : List EgressCell :=
  e.ioCpl ++ (e.members.flatMap (fun m => m.2)).filter (fun x => decide (x.cell.cls = .ioNp))

/-- R131: an earlier IO-P cell from the same Source is still in the buffer. -/
def EgressSt.orderWaits (e : EgressSt) (x : EgressCell) : Bool :=
  (x.cell.cls = .ioNp || x.cell.cls = .ioCpl)
    && e.posted.any (fun y => decide (y.cell.src = x.cell.src) && decide (y.order < x.order))

/-- R131: some waiting IO-NP or IO-CPL cell is held back by this IO-P cell. -/
def EgressSt.promoted (e : EgressSt) (y : EgressCell) : Bool :=
  e.waiters.any (fun x => decide (y.cell.src = x.cell.src) && decide (y.order < x.order))

/-- The head of a queue is eligible (R116, R129, R131). -/
def State.eligible (s : State) (p : Nat) (q : List EgressCell) : Option EgressCell :=
  match q with
  | [] => none
  | x :: rest =>
    if cellWhole x rest && (s.port p).admits (s.isHost p) x.cell.begins && !(s.egress p).orderWaits x then some x else none

/-- Present tokens of member j: Burst where nothing has been subtracted. -/
def State.memberTokens (s : State) (p j : Nat) : Int :=
  Tbl.getD (s.egress p).tokens j (mcBurst (s.memberConfig p j) : Int)

/-- A shaped member without tokens takes no part (R134). -/
def State.bucketAllows (s : State) (p j : Nat) : Bool :=
  mcRate (s.memberConfig p j) = 0 || decide (0 < s.memberTokens p j)

/-- The member that step 2 of R132 chooses, with its head cell; a promoted head is S1's (R131). -/
def State.groupChoice (s : State) (p : Nat) : Option (Nat × EgressCell) :=
  let e := s.egress p
  (upTo 65).foldl (fun (best : Option (Nat × EgressCell)) j =>
    match s.eligible p (e.member j) with
    | none => best
    | some x =>
      if !s.bucketAllows p j || (x.cell.cls = .ioP && e.promoted x) then best
      else
        match best with
        | none => some (j, x)
        | some (b, y) =>
          if tagBefore (Tbl.getD e.finish j 0) (Tbl.getD e.finish b 0) then some (j, x) else some (b, y)) none

/-- What S1 would send: MEM-RSP, then promoted IO-P cells in order, then IO-CPL (R128, R129, R131). Log entry 24
(DEDUCED). -/
def State.s1Choice (s : State) (p : Nat) : Option EgressCell :=
  let e := s.egress p
  match s.eligible p e.memRsp with
  | some x => some x
  | none =>
    let pro := e.posted.filter e.promoted
    let least := pro.foldl (fun (b : Option EgressCell) x =>
      match b with | none => some x | some y => if x.order < y.order then some x else some y) none
    match least with
    | some y =>
      match s.eligible p (y :: (e.member y.cell.member).filter (fun z => decide (y.order < z.order))) with
      | some y => some y
      | none => s.eligible p e.ioCpl
    | none => s.eligible p e.ioCpl

/-- The last 64 cells of S1 and the group, with one more. -/
def pushLast (l : List Bool) (b : Bool) : List Bool := ((b :: l)).take 64

/-- A cell leaves its queue of the buffer. -/
def EgressSt.remove (e : EgressSt) (x : EgressCell) : EgressSt :=
  let out (l : List EgressCell) := l.filter (fun y => decide (y.order ≠ x.order))
  match x.cell.cls with
  | .bi => { e with bi := out e.bi }
  | .memRsp => { e with memRsp := out e.memRsp }
  | .ioCpl => { e with ioCpl := out e.ioCpl }
  | _ => { e with members := Tbl.putD e.members x.cell.member (out (e.member x.cell.member)) [] }

/-- A cell of the group is sent: virtual time, tags, tokens and counts (R132, R134). An empty member's last tag is kept
for Table 7-4 only: its next cell starts from the virtual time. -/
def State.groupSent (s : State) (p : Nat) (x : EgressCell) (byGroup : Bool) : State :=
  let j := x.cell.member
  let cfg := s.memberConfig p j
  let wasHead := ((s.egress p).member j).head?.map (·.order) = some x.order
  let tag := Tbl.getD (s.egress p).finish j 0
  let tok := s.memberTokens p j
  let s := if byGroup then s.w (K.egressVirtualTime p) tag else s
  let v := s.r (K.egressVirtualTime p)
  s.modEgress p (fun e =>
    let e := e.remove x
    let e := { e with
      sent := Tbl.put e.sent j ((Tbl.getD e.sent j 0 + 1) % 2 ^ 32)
      tokens := if mcRate cfg = 0 then e.tokens else Tbl.put e.tokens j (tok - (x.cell.valid : Int)) }
    if !wasHead then e
    else
      match e.member j with
      | [] => e
      | y :: _ => { e with finish := Tbl.put e.finish j (finishTag v tag y.cell.valid (mcWeight cfg)) })

/-- Sequence numbers of a flit format count modulo this: 12 bits for the TLPs of a link that is not in flit mode (R96), 10
bits for 256-byte flits (R93), and 8 for 68-byte flits. Log entry 28 (DEDUCED). -/
def seqMod (format : Nat) : Nat := if format = 0 then 4096 else if format = 1 then 256 else 1024

/-- `.0E FlitFormat` of a port. -/
def State.format (s : State) (p : Nat) : Nat := s.r (K.portFlitFormat p)

/-- A flit is transmitted: it carries an acknowledgement if one is due, and every sixteenth does (R94); the flits since the
last marker count it (R76). -/
def State.carryAck (s : State) (p : Nat) : State :=
  let x := s.port p
  let m := seqMod (s.format p)
  let s := s.modPort p (fun y => { y with flits := y.flits + 1 })
  if x.ackDue || 15 ≤ x.sinceAck then
    (s.modPort p (fun y => { y with ackDue := false, sinceAck := 0 })).emit (.ack p ((x.expect + m - 1) % m))
  else s.modPort p (fun y => { y with sinceAck := y.sinceAck + 1 })

/-- A flit without payload (R92, R129). -/
def State.idleFlit (s : State) (p : Nat) : State := (s.emit (.idle p)).carryAck p

/-- The messages that end in a cell, each with the number of the payload byte behind its last one. -/
def Cell.ends (c : Cell) : List (Nat × Msg) :=
  (c.msgs.foldl (fun (a : Nat × List (Nat × Msg)) m =>
    let n := a.1 + (if c.headCont && a.2.isEmpty then c.headBytes else m.bytes)
    (n, a.2 ++ [(n, m)])) (0, [])).2

/-- What a cell puts on the link: a 256-byte flit, 68-byte flits of 64 bytes each, or, on a link that is not in flit mode, each TLP
that ends in it (R96). Log entry 24 (DEDUCED). -/
def flitsOf (format : Nat) (c : Cell) : List (Nat × List Msg) :=
  if format = 0 then c.msgs.map (fun m => (m.bytes, [m]))
  else if format = 1 then
    (upTo ((c.valid + 63) / 64)).map (fun k =>
      (min 64 (c.valid - 64 * k), (c.ends.filter (fun e => decide ((e.1 - 1) / 64 = k))).map (·.2)))
  else [(c.valid, c.msgs)]

/-- Bytes of a port's replay buffer (Table 5-2). -/
def State.replayBytes (s : State) (p : Nat) : Nat :=
  match s.sliceMode (sliceOf p) with | 2 => 131072 | 1 => 65536 | _ => 32768

/-- The replay buffer takes what a cell puts on the link: within W, and within its bytes where the link is not in flit mode
(R92, R96). -/
def State.windowTakes (s : State) (p : Nat) (l : List (Nat × List Msg)) : Bool :=
  let o := (s.port p).outstanding
  decide (o.length + l.length ≤ s.r (K.portReplayWindow p))
    && (s.format p ≠ 0 || decide (sumOf (o.map (·.payload)) + sumOf (l.map (·.1)) ≤ s.replayBytes p))

/-- The physical lanes of a Weuri port's group that carry bytes 16 k to 16 k + 15 of a flit, k from 0: those of the logical lanes, the
spare in the place of the one that it substitutes (R76, R79); none outside Weuri links. -/
def State.stripes (s : State) (p : Nat) : List Nat :=
  let x := s.port p
  if s.portMode p = 3 then (upTo 16).map (fun k => if x.subbed && decide (x.txSub = some k) then 16 else k) else []

/-- One flit put on the link: it is outstanding in the replay buffer (R92). -/
def State.putFlit (s : State) (p : Nat) (f : Nat × List Msg) : State :=
  let q := (s.port p).nextTx
  let s := s.modPort p (fun y =>
    { y with outstanding := y.outstanding ++
               [{ sequence := q, payload := f.1, msgs := f.2, sentBeat := s.beat, sentTick := s.tick }]
             nextTx := (q + 1) % seqMod (s.format p), replayRunning := true
             replayAt := if y.replayRunning then y.replayAt else s.clock })
  (s.emit (.flit p q f.1 (s.stripes p))).carryAck p

/-- A message has left the port; a request's tag records it with its place in the order in which requests were first sent
(R100). -/
def State.msgSent (s : State) (p : Nat) (m : Msg) : State :=
  let s := s.emit (match m.kind with | .fabric f => .fabric p f | _ => .host p m)
  match m.dtag with
  | none => s
  | some d =>
    match Tbl.find s.core.tags d with
    | none => s
    | some g =>
      if g.sentDown then s
      else
        let n := (s.port p).sentCount + 1
        let s := s.modPort p (fun y => { y with sentCount := n })
        { s with core := { s.core with tags := Tbl.put s.core.tags d { g with sentDown := true, sentAs := n } } }

/-- A cell put on the link: the messages that begin in it take their credits. Log entry 24 (DEDUCED). -/
def State.sendFlit (s : State) (p : Nat) (x : EgressCell) : State :=
  let host := s.isHost p
  let l := flitsOf (s.format p) x.cell
  let s := s.modPort p (fun y => x.cell.begins.foldl (fun z m => z.consume host m) y)
  let s := (s.each l (fun t f => t.putFlit p f)).each x.cell.msgs (fun t m => t.msgSent p m)
  let s := s.count evFlitsSent l.length { port := some p }
  s.count evCellsSent 1 { tenant := some x.cell.tenant, port := some p, cls := some (match x.cell.cls with
    | .ioP => 0 | .ioNp => 1 | .ioCpl => 2 | .memReq => 3 | .memRsp => 4 | .bi => 5) }

/-- A chosen cell is sent, from S0 (0), S1 (1) or the group (2). -/
def State.transmit (s : State) (p : Nat) (x : EgressCell) (level : Nat) : State :=
  let grp := x.cell.cls.weighted
  let s := if grp then s.groupSent p x (level = 2) else s.modEgress p (fun e => e.remove x)
  let s := if grp && level = 1 then s.bump (K.egressPromotedCells p) 1 else s
  let s := if level = 0 then s else s.modEgress p (fun e => { e with last64 := pushLast e.last64 (level = 1) })
  s.sendFlit p x

/-- Channels on which a message waits that the partner's credits cannot admit, with the messages that begin in its cell
(R97, R129). -/
def State.starved (s : State) (p : Nat) : List Nat :=
  let e := s.egress p
  let x := s.port p
  let host := s.isHost p
  ((e.bi ++ e.memRsp ++ e.ioCpl ++ e.members.flatMap (·.2)).map (fun c => c.cell.begins)
    ++ x.reissues.map (fun m => [m])).flatMap (x.short host)

/-- Credit timers start where a message waits for credits and stop where credits admit it (R97); the time that each ran is
counted (Table 15-3). Log entry 16 (DEDUCED). -/
def State.creditWatch (s : State) (p : Nat) : State :=
  let l := (s.starved p).eraseDups
  let s := if (s.port p).creditTimer.isEmpty then s else s.accrueStalls p
  let kept := (s.port p).creditTimer.filter (fun e => l.contains e.1)
  let timers := l.foldl (fun (t : Tbl (Nat × Nat)) c =>
    if (Tbl.find t c).isSome then t else Tbl.put t c (s.beat, s.tick)) kept
  s.modPort p (fun x =>
    { x with creditTimer := timers, stalledNs := x.stalledNs.filter (fun e => l.contains e.1) })

/-- The port's link carries traffic: ACTIVE, and not at a rate at which CXL and WEURI ports only train (R71). -/
def State.carries (s : State) (p : Nat) : Bool := s.link p = .active && (s.portMode p = 1 || s.format p ≠ 0)

/-- The next flit boundary of a Weuri link is a marker's (R76). -/
def State.markerDue (s : State) (p : Nat) : Bool := s.portMode p = 3 && decide (4096 ≤ (s.port p).flits)

/-- A link-control message is sent (R54, R61, R128, R231). -/
def State.sendControl (s : State) (p : Nat) (c : Ctl) : State :=
  let s := s.modEgress p (fun e => { e with control := e.control.drop 1 })
  match c with
  | .beat =>
    let (x, s) := s.edgeOffset
    (s.emit (.beatMark p s.beat x)).carryAck p
  | .timestamp n => (s.emit (.timestamp p n)).carryAck p
  | .carry o => (s.emit o).carryAck p

/-- The replay in progress sends its next flit again (R95). -/
def State.resendNext (s : State) (p q : Nat) : State :=
  let s := s.modPort p (fun y => { y with resend := y.resend.drop 1 })
  match (s.port p).outstanding.find? (fun f => decide (f.sequence = q)) with
  | some f => (s.emit (.flit p q f.payload (s.stripes p))).carryAck p
  | none => s.idleFlit p

/-- The cell that the three levels choose, its level, and whether S1's cap has passed the turn to the group (R129 to
R132). -/
def State.pick (s : State) (p : Nat) : Option (EgressCell × Nat × Bool) :=
  match s.eligible p (s.egress p).bi with
  | some x => some (x, 0, false)
  | none =>
    let cap := s.r (K.egressS1Share p) * 64 / 100
    let used := ((s.egress p).last64.filter id).length
    match s.s1Choice p, s.groupChoice p with
    | some x, none => some (x, 1, false)
    | some x, some (_, y) => if used < cap || cap = 64 then some (x, 1, false) else some (y, 2, true)
    | none, some (_, y) => some (y, 2, false)
    | none, none => none

/-- The transmitter stalls: it sends only flits without payload (R92). -/
def State.stallFlit (s : State) (p : Nat) : State :=
  (s.modPort p (fun x => { x with stalledAt := x.stalledAt <|> some (s.beat, s.tick) })).idleFlit p

/-- A memory request that an earlier data link lost is sent again, before any held message (R100). -/
def State.reissueNext (s : State) (p : Nat) (m : Msg) : State :=
  if !(s.port p).admits (s.isHost p) [m] then s.idleFlit p
  else if !s.windowTakes p [(m.bytes, [m])] then s.stallFlit p
  else
    let s := s.modPort p (fun y => { y.consume (s.isHost p) m with reissues := y.reissues.drop 1 })
    (((s.putFlit p (m.bytes, [m]))).msgSent p m).count evFlitsSent 1 { port := some p }

/-- The cell that the port's levels choose is sent, or an idle flit (R92, R129, R130). -/
def State.sendNext (s : State) (p : Nat) : State :=
  match s.pick p with
  | none => s.idleFlit p
  | some (x, level, deferred) =>
    if !s.windowTakes p (flitsOf (s.format p) x.cell) then s.stallFlit p
    else (if deferred then s.bump (K.egressS1CapDeferrals p) 1 else s).transmit p x level

/-- EGRESS_TRANSMIT_DECISION at a flit boundary: a replay in progress first, then S0's link control, then one eligible cell
from S0, S1 within its cap, and the group, else an idle flit (R95, R128 to R130). A boundary that a marker is due at is the
marker's (R76); in SAFE every port stands still (R281). -/
def execEgressTransmitDecision (port : PortId) (s : State) : Res :=
  effect (fun s =>
    let p := port.val
    if !s.linksRun || !s.carries p || s.markerDue p then s
    else
      let s := s.creditWatch p
      match (s.port p).resend with
      | q :: _ => s.resendNext p q
      | [] =>
        match (s.egress p).control with
        | c :: _ => s.sendControl p c
        | [] =>
          if !s.forwarding then s.idleFlit p
          else
            match (s.port p).reissues with
            | m :: _ => s.reissueNext p m
            | [] => s.sendNext p) s

/-! ## Refills (R133, R136, R137) -/

/-- Bytes of a refill at a rate in MB/s. -/
def State.refillBytes (s : State) (rate : Nat) : Nat := rate * s.r K.beatBeatPeriod / 1000

/-- Tick 0: every shaped member and every policer is refilled (R133). -/
def State.refill (s : State) : State :=
  s.each (allPorts.filter s.portExists) (fun t p =>
    let rows := t.regs.filter (fun e => decide (K.egressMemberConfig p ≤ e.1)
      && decide (e.1 < K.egressMemberConfig p + 65) && decide (mcRate e.2 ≠ 0))
    let t := t.each rows (fun u e =>
      let j := e.1 - K.egressMemberConfig p
      let tok := min (u.memberTokens p j + (u.refillBytes (mcRate e.2) : Int)) (mcBurst e.2 : Int)
      u.modEgress p (fun g => { g with tokens := Tbl.put g.tokens j tok }))
    if t.r (K.egressPoliceRate p) = 0 then t
    else
      let tok := min (ofTwos 32 (t.r (K.egressPoliceTokens p)) + (t.refillBytes (t.r (K.egressPoliceRate p)) : Int))
        (t.r (K.egressPoliceBurst p) : Int)
      t.w (K.egressPoliceTokens p) (toTwos 32 tok))

/-- A MemberConfig row is refused (Table 7-3). -/
def State.memberRefusal (s : State) (p row : Nat) : Option Nat :=
  let (size, res) := s.egressSize p
  if mcWeight row = 0 then some 0x0701 else if 4096 < mcWeight row then some 0x0702
  else if mcDepth row = 0 then some 0x0701 else if size - res < mcDepth row then some 0x0702
  else if 400000 < mcRate row then some 0x0702 else none

/-- R136 for one row, at a beat period in ns. -/
def shapeOk (beat row : Nat) : Bool :=
  mcRate row = 0 || (decide (240 ≤ mcBurst row) && decide (mcRate row * beat / 1000 ≤ mcBurst row))

/-- R137 for a port's policer, at a beat period in ns. -/
def policeOk (beat rate burst : Nat) : Bool :=
  rate = 0 || (decide (4352 ≤ burst) && decide (rate * beat / 1000 ≤ burst))

/-- R136 and R137 for the values that a set leaves; a new BeatPeriod is judged against every shaped member and policer. -/
def State.shapesOk (s : State) (set : Tbl Nat) : Bool :=
  let after (k : Nat) : Nat := (Tbl.find set k).getD (s.r k)
  let beat := after K.beatBeatPeriod
  let timed := decide (beat ≠ s.r K.beatBeatPeriod)
  let keys := (if timed then s.regs.map (·.1) else []) ++ set.map (·.1)
  keys.all (fun k =>
    let i := objIndex k
    if 0x2900 ≤ i && i < 0x2960 then
      let p := i - 0x2900
      if objSub k = 0x02 then shapeOk beat (after k)
      else if objSub k = 0x03 || objSub k = 0x04 then
        policeOk beat (after (K.egressPoliceRate p)) (after (K.egressPoliceBurst p))
      else true
    else true)

/-! ## Queue samples (R138, R139) -/

/-- Bin of a delay (R139). -/
def delayBin (d : Nat) : Nat := if d < 16 then 0 else min 15 (Nat.log2 d - 3)

/-- One sample added to a queue's record. -/
def QueueAcc.add (a : QueueAcc) (depth delay : Nat) : QueueAcc :=
  let first := a.samples = 0
  let bins := if a.bins.isEmpty then List.replicate 16 0 else a.bins
  { samples := a.samples + 1
    depthMin := if first then depth else min a.depthMin depth
    depthMax := max a.depthMax depth
    depthSum := a.depthSum + depth
    delayMin := if first then delay else min a.delayMin delay
    delayMax := max a.delayMax delay
    delaySum := a.delaySum + delay
    bins := bins.mapIdx (fun b n => if b = delayBin delay then n + 1 else n) }

/-- Depth and head delay of the 67 queues of a port. -/
def State.queueNow (s : State) (p q : Nat) : Nat × Nat :=
  let e := s.egress p
  let wait (l : List EgressCell) : Nat :=
    match l with | [] => 0 | x :: _ => s.nsSince x.enteredBeat x.enteredTick
  if q = 0 then (e.bi.length, wait e.bi)
  else if q = 1 then
    (e.memRsp.length + e.ioCpl.length, if e.memRsp.isEmpty then wait e.ioCpl else wait e.memRsp)
  else ((e.member (q - 2)).length, wait (e.member (q - 2)))

/-- QUEUE_SAMPLE (R138). -/
def execQueueSample (port : PortId) (s : State) : Res :=
  effect (fun s =>
    let p := port.val
    s.modEgress p (fun e => { e with acc := (upTo 67).foldl (fun (t : Tbl QueueAcc) q =>
      let (d, w) := s.queueNow p q
      Tbl.put t q ((Tbl.getD t q {}).add d w)) e.acc })) s

/-- The QueueStats row of a beat (Table 7-5). -/
def QueueAcc.row (a : QueueAcc) (beat : Nat) : Nat :=
  let h := ((((beat % 2 ^ 48 * 65536 + a.depthMin % 65536) * 65536 + a.depthMax % 65536) * 65536
    + a.depthSum / 16 % 65536) * 2 ^ 32 + a.delayMin % 2 ^ 32) * 2 ^ 32 + a.delayMax % 2 ^ 32
  let m := h * 2 ^ 32 + a.delaySum / 1024 % 2 ^ 32
  let bins := if a.bins.isEmpty then List.replicate 16 0 else a.bins
  (bins.foldl (fun v n => v * 65536 + n % 65536) m) * 2 ^ 64

/-- The boundary: the record of the beat that ended replaces the previous one (R139). -/
def State.queueRecords (s : State) (ended : Nat) : State :=
  s.each (s.core.egress.filter (fun e => !e.2.acc.isEmpty)) (fun t e =>
    let t := t.each e.2.acc (fun u q => u.w (K.egressQueueStats e.1 + q.1) (q.2.row ended))
    t.modEgress e.1 (fun x => { x with acc := [] }))

end Sys2Proof.Machine
end

