-- ==== Sys2Proof/Machine/Ingress.lean ====
section
/-! DEFINITION. Ingress (06, 08, 09, 13): translation of CXL.mem requests through the extent map, the access check,
answers given at ingress, TLPs, and entry into ingress staging. -/

namespace Sys2Proof.Machine

/-! ## Messages and requests in flight -/

/-- Requests hold a unit of their VMD's queue share, a downstream tag and an access in flight; all of them end when the
request completes or is discarded (R159, R260). `acu` of a message is the unit number plus 1, 0 for none. -/
def State.finish (s : State) (m : Msg) : State :=
  let s := match m.vmd with
    | some v => s.lower (K.vmdOutstanding v) 1
    | none => s
  let s := if m.acu = 0 then s else s.endAccess (m.acu - 1) m.epoch
  match m.dtag with
  | some d => { s with core := { s.core with tags := Tbl.del s.core.tags d } }
  | none => s

/-- The source slice of a message of port p (R108): a x16 port uses bit b to choose its slice. -/
def State.sourceSlice (s : State) (p b : Nat) : Nat :=
  if s.sliceMode (sliceOf p) = 2 then 2 * (p / 4) + b % 2 else sliceOf p

/-- The half of the staging buffer that a port uses (R123). -/
def State.stagingHalf (s : State) (p : Nat) : Nat := if s.sliceMode (sliceOf p) = 0 then p % 2 else 0

/-- Bytes of a message inside the switch: a 16-byte header, and 64 bytes where it carries data (R103). -/
def MsgKind.bytes (k : MsgKind) : Nat :=
  match k with
  | .memWr _ => 80 | .drs _ => 80 | .cplData => 76 | .cache .data => 80
  | .atomic a => 16 + (match a.kind with | .cas => 2 * a.size | _ => a.size)
  | .fabric m => m.bytes
  | k => k.headLen

/-- Bytes of an answer: a completion with data carries what its read or AtomicOp asks for (R103). -/
def answerBytes (k : MsgKind) (m : Msg) : Nat :=
  match k with
  | .cplData =>
    k.headLen + (match m.kind with
          | .atomic a => a.size
          | .tlp .cfgWrite => 0
          | .tlp .atomicOp => m.dataLen
          | _ => m.asks)
  | _ => k.bytes

/-- Responses and BI are served apart from requests (R123). -/
def Cls.isRequest (c : Cls) : Bool :=
  match c with | .ioP => true | .ioNp => true | .memReq => true | _ => false

/-- A message belongs to a flow and tenant of a cell. -/
def Cell.inFlow (c : Cell) (m : Msg) : Bool := decide (c.cls = m.cls) && decide (c.src = m.src) && decide (c.dst = m.dst)

/-- The number of a MetaValue: I 0, A 2, S 3. Log entry 17 (PRESUMED). -/
def metaNum : MetaVal → Nat
  | .invalid => 0 | .any => 2 | .shared => 3

/-- The number by which a message's internal header names its kind. Log entry 55 (DESIGN CHOICE). -/
def MsgKind.code (k : MsgKind) : Nat :=
  match k with
  | .memRd mv => metaNum mv | .memInv mv => 4 + metaNum mv | .memClnEvct => 8 | .memWr mv => 12 + metaNum mv
  | .atomic a => 16 + (match a.kind with | .fetchAdd => 0 | .swap => 1 | .cas => 2)
  | .drs mv => 20 + metaNum mv | .ndrCmp => 24 | .ndrCmpE => 25 | .ndrCmpS => 26 | .biConflictAck => 27
  | .biSnpInv => 28 | .biSnpData => 29 | .biSnpCur => 30 | .biSnpInvBlk => 31
  | .tlp .memRead => 32 | .tlp .memWrite => 33 | .tlp .cfgRead => 34 | .tlp .cfgWrite => 35 | .tlp .atomicOp => 36
  | .tlp .message => 37 | .tlp .completion => 38 | .tlp (.cache _) => 39
  | .cplUr => 40 | .cplCa => 41 | .cplData => 42
  | .cache .req => 44 | .cache .rsp => 45 | .cache .data => 46
  | .biRsp _ _ k => 48 + (match k with | .i => 0 | .s => 1 | .e => 2)
  | .fabric m => 52 + (match m.kind with
      | .memRead => 0 | .memNoData => 1 | .memWrite => 2 | .ioNonPosted => 3 | .ioPosted => 4 | .cache => 5 | .response => 6)

/-- The header that the switch itself gives a message: its layout is the model's. Log entry 55 (DESIGN CHOICE). -/
def Msg.ownHead (m : Msg) : List Byte :=
  (toBytes 1 m.kind.code ++ toBytes 1 (ofBool m.poison + 2 * m.attrs) ++ toBytes 3 m.hostTag
    ++ toBytes 3 (m.dtag.getD 0) ++ toBytes 8 m.addr).take m.headLen

/-- A message in its internal form (R103): its header, its data, and a TLP's ECRC; a TLP's header, prefixes and ECRC are as
received. -/
def Msg.body (m : Msg) : List Byte :=
  (if m.head.isEmpty then m.ownHead else m.head) ++ toBytes m.dataLen m.data ++ m.ecrc

/-- Bytes of a message added to a cell (R103). -/
def Cell.take (c : Cell) (m : Msg) : Cell × Msg :=
  let left := m.bytes - m.sent
  let f := min left (240 - c.valid)
  let n := { m with sent := m.sent + f }
  ({ c with
      valid := c.valid + f
      hdrs := c.hdrs + ofBool (m.sent = 0)
      headBytes := if m.sent = 0 then c.headBytes else f
      payload := c.payload ++ (m.body.drop m.sent).take f
      tail := if f < left then some n else none
      msgs := if f < left then c.msgs else c.msgs ++ [n] }, n)

/-- New cells for the rest of a message, at most `room`. -/
def addCells (half : Nat) : Nat → Msg → List Cell × Msg
  | 0, m => ([], m)
  | room + 1, m =>
    if m.bytes ≤ m.sent then ([], m)
    else
      let c : Cell := { cls := m.cls, src := m.src, dst := m.dst, tenant := m.tenant, valid := 0, hdrs := 0,
                        headCont := decide (m.sent ≠ 0), half := half }
      let (c, n) := c.take m
      let (l, r) := addCells half room n
      (c :: l, r)

/-- The newest cell of the message's flow takes what it can; a port of a slice in mode X4X4 uses no cell of the other port
(R123). -/
def topUp (half : Nat) : List Cell → Msg → List Cell × Msg
  | [], m => ([], m)
  | c :: older, m =>
    if c.inFlow m then
      if c.half = half && c.tenant = m.tenant && !c.tailCont && decide (c.valid < 240) && decide (c.hdrs < 15) then
        let (d, n) := c.take m
        (d :: older, n)
      else (c :: older, m)
    else
      let (l, n) := topUp half older m
      (c :: l, n)

/-- A message packed into a staging buffer with room for `room` new cells. -/
def packMsg (cells : List Cell) (half room : Nat) (m : Msg) : List Cell × Msg :=
  let (rev, n) := topUp half cells.reverse m
  let (new, r) := addCells half room n
  (rev.reverse ++ new, r)

/-- The staging buffer of a slice. -/
def State.staging (s : State) (sl : Nat) : List Cell := Tbl.getD s.core.staging sl []

/-- The staging buffer of a slice changed. -/
def State.setStaging (s : State) (sl : Nat) (l : List Cell) : State :=
  { s with core := { s.core with staging := Tbl.putD s.core.staging sl l [] } }

/-- New cells that staging admits for a message (R123). -/
def State.stagingRoom (s : State) (sl half : Nat) (m : Msg) : Nat :=
  let split := s.sliceMode sl = 0
  let mine := (s.staging sl).filter (fun c => !split || decide (c.half = half))
  let (total, reserve, pair) := if split then (32, 8, 4) else (64, 16, 8)
  let all := total - mine.length
  let own := if m.cls.isRequest then min all (total - reserve - (mine.filter (fun c => c.cls.isRequest)).length) else all
  min own (pair - (mine.filter (fun c => decide (c.dst = m.dst) && decide (c.cls = m.cls))).length)

/-- The receive buffer of a channel set. -/
def State.setRx (s : State) (k : Nat) (l : List Msg) : State :=
  { s with core := { s.core with rxq := Tbl.putD s.core.rxq k l [] } }

/-- A message of the same flow has entered staging in part by another channel: its rest comes first (R103). -/
def State.flowBusy (s : State) (k : Nat) (m : Msg) : Bool :=
  s.core.rxq.any (fun e => decide (e.1 ≠ k) && (match e.2 with
    | n :: _ => decide (n.sent ≠ 0) && decide (n.src = m.src) && decide (n.dst = m.dst) && decide (n.cls = m.cls)
    | [] => false))

/-- Some bytes of the head message of a receive buffer can enter staging now (R123). -/
def State.canMove (s : State) (k half : Nat) (m : Msg) : Bool :=
  !s.flowBusy k m && decide ((packMsg (s.staging m.src) half (s.stagingRoom m.src half m) m).2.sent ≠ m.sent)

/-- The head message of a receive buffer moves into staging as far as its pair has room: whether all of it has, and the
state (R123). -/
def State.moveHead (s : State) (k half : Nat) (m : Msg) (rest : List Msg) : Bool × State :=
  let (cells, n) := packMsg (s.staging m.src) half (s.stagingRoom m.src half m) m
  let s := s.setStaging m.src cells
  if n.bytes ≤ n.sent then (true, s.setRx k rest) else (false, s.setRx k (n :: rest))

/-- The receive buffer of the answers that a slice gives itself. -/
def ownKey (sl half : Nat) : Nat := 16 * (2 * sl + half) + 15

/-- The answers that wait at a slice enter staging in order while there is room (R123). -/
def State.flushOwn (s : State) (sl half : Nat) : Nat → State
  | 0 => s
  | fuel + 1 =>
    match Tbl.getD s.core.rxq (ownKey sl half) [] with
    | [] => s
    | m :: rest =>
      if s.canMove (ownKey sl half) half m then
        let (all, t) := s.moveHead (ownKey sl half) half m rest
        if all then t.flushOwn sl half fuel else t
      else s

/-- Every answer that waits at a slice is offered to staging. -/
def State.flushSlice (s : State) (sl : Nat) : State :=
  s.each [0, 1] (fun u h => u.flushOwn sl h (Tbl.getD u.core.rxq (ownKey sl h) []).length)

/-- A message that an ingress slice gives itself, an answer, joins its own receive buffer and enters staging as room allows
(R123). Log entry 23 (DEDUCED). -/
def State.injectAt (s : State) (sl half : Nat) (m : Msg) : State :=
  let k := ownKey sl half
  (s.setRx k (Tbl.getD s.core.rxq k [] ++ [m])).flushOwn sl half ((Tbl.getD s.core.rxq k []).length + 1)

/-! ## Messages of the fabric (R238, R241, R246, R249) -/

/-- Table 5-6: the answer to a message that reaches no port, or is held for a retired one. -/
def fabricReplyOf : FabricKind → FabricReply
  | .memRead => .poisonedData | .memNoData => .completion | .memWrite => .completion
  | .ioNonPosted => .unsupportedRequest | .ioPosted => .discarded | .cache => .discarded | .response => .discarded

/-- The answer as a message of the fabric: it goes from the destination's PID back to the source's (R238). -/
def fabricAnswer (m : FabricMsg) : FabricMsg :=
  let r := fabricReplyOf m.kind
  { src := m.dst, dst := m.src, classByte := (match r with | .unsupportedRequest => 0 | _ => 4), kind := .response, payload := 0,
    bytes := (match r with | .poisonedData => 80 | .unsupportedRequest => 12 | _ => 16), tag := m.tag, tenant := m.tenant,
    reply := some r }

/-- A message of the fabric as it travels inside the switch from port p to port q: its class, source slice and channel are those of
any message (R108, R123). Log entry 66 (DESIGN CHOICE). -/
def State.fabricMsg (s : State) (p q : Nat) (m : FabricMsg) : Msg :=
  let b := match fabricCls m with | .ioP | .ioNp | .ioCpl => q | _ => (m.addr.map (· / 64)).getD m.tag
  { kind := .fabric m, cls := fabricCls m, tenant := m.tenant.val, src := s.sourceSlice p b, dst := q, bytes := m.bytes, hostTag := m.tag,
    addr := m.addr.getD 0, data := m.payload, poison := decide (m.reply = some .poisonedData), port := p,
    chan := some (fabricChan m false) }

/-- Traffic to a port is refused by routing: DISABLED, PARKED and UNUSED ports, and RETIRED ones (R84, R101, Table 4-6). Log entry 56
(DESIGN CHOICE). -/
def State.refusesTraffic (s : State) (p : Nat) : Bool :=
  match s.link p with
  | .disabled => true | .parked => true | .unused => true | .retired => true
  | _ => (s.port p).retiredPort

/-- A message discarded for want of a port is counted by the discard source of the port that names it (R101, R246). -/
def State.discardAt (s : State) (p : Option Nat) : State :=
  match p with | some p => s.occur (Src.port p 5) | none => s

/-- A message of the fabric made here leaves on the route of its destination, or is discarded where it has none. -/
def State.sendFabric (s : State) (p : Option Nat) (m : FabricMsg) : State :=
  match s.route m.src.val m.dst.val m.classByte false false with
  | .port q => if s.refusesTraffic q then s.discardAt (some q)
      else s.injectAt (sliceOf q) (s.stagingHalf q) { s.fabricMsg q q m with chan := none }
  | .self => s
  | .unroutable => (s.bump K.fabricUnroutable 1).discardAt p

/-- A message is answered as for a retired port, and counted by the port's discard source where it is discarded (R101, R238,
R246). A message without an arrival port is counted by that of the local port that has its source PID. Log entry 66 (DESIGN
CHOICE). -/
def State.answerFabric (s : State) (p : Option Nat) (m : FabricMsg) : State :=
  let p := p <|> s.pidPort m.src.val
  match fabricReplyOf m.kind with
  | .discarded => s.discardAt p
  | _ => s.sendFabric p (fabricAnswer m)

/-- The answer to a request, sent from the ingress slice through the core to the requesting port. -/
def State.answerFrom (s : State) (sl : Nat) (m : Msg) (k : MsgKind) (cls : Cls) (poison : Bool) (data : Nat) : State :=
  s.injectAt sl (s.stagingHalf m.port)
    { kind := k, cls := cls, tenant := m.tenant, src := sl, dst := m.port, bytes := answerBytes k m,
      hostTag := m.hostTag, addr := m.addr, data := data, poison := poison, gen := m.gen, vmd := m.vmd, bindGen := m.bindGen,
      port := m.port, sample := m.sample }

/-- The answer to a request that reaches no device: poison, a completion, or Unsupported Request (Table 5-6). Log entry 21
(DEDUCED). -/
def State.answerNo (s : State) (sl : Nat) (m : Msg) : State :=
  match m.kind with
  | .memRd mv => s.answerFrom sl m (.drs mv) .memRsp true 0
  | .memInv _ => s.answerFrom sl m .ndrCmp .memRsp false 0
  | .memClnEvct => s.answerFrom sl m .ndrCmp .memRsp false 0
  | .memWr _ => s.answerFrom sl m .ndrCmp .memRsp false 0
  | .atomic _ => s.answerFrom sl m .cplUr .ioCpl false 0
  | .tlp .memRead => s.answerFrom sl m .cplUr .ioCpl false 0
  | .tlp .cfgRead => s.answerFrom sl m .cplUr .ioCpl false 0
  | .tlp .cfgWrite => s.answerFrom sl m .cplUr .ioCpl false 0
  | .tlp .atomicOp => s.answerFrom sl m .cplUr .ioCpl false 0
  | .fabric f => s.answerFabric none f
  | _ => s

/-- The answer to a request that reaches a POISONED entry or is refused by access control: an AtomicOp is completed with
Completer Abort (R178, R256). -/
def State.answerAbort (s : State) (sl : Nat) (m : Msg) : State :=
  match m.kind with
  | .atomic _ => s.answerFrom sl m .cplCa .ioCpl false 0
  | .tlp .atomicOp => s.answerFrom sl m .cplCa .ioCpl false 0
  | _ => s.answerNo sl m

/-- A device's non-posted TLP that is answered for its tenant's reset: the answer belongs to the present generation (Table 8-2). -/
def State.answerDevice (s : State) (sl : Nat) (m : Msg) : State :=
  s.answerNo sl { m with gen := s.r (K.tenantGeneration m.tenant), vmd := none }

/-- A request of a tenant's I/O hierarchy that is completed with an error is reported through AER at b (R143). -/
def State.reportIo (s : State) (t b e : Nat) (m : Msg) : State :=
  match m.cls with
  | .ioNp => s.reportError t b e
  | .ioP => s.reportError t b e
  | _ => s

/-- A message of another switch's traffic: no generation of this switch's tenants judges it (R249). -/
def Msg.transit (m : Msg) : Bool := match m.kind with | .fabric _ => true | _ => false

/-- The message belongs to an older generation of its tenant or VMD (R145, R158). -/
def State.staleMsg (s : State) (m : Msg) : Bool :=
  !m.transit && (decide (m.gen ≠ s.r (K.tenantGeneration m.tenant)) ||
    (match m.vmd with
     | some v => decide (m.bindGen ≠ s.r (K.vmdBindGeneration v))
     | none => false))

/-! ## CXL.mem requests (R7, R165, R178, R191) -/

/-- The window of a VMD that holds an address: number, start, and kind, target, logical device and extents. -/
def findWindow (a : Nat) : List (Nat × Nat × Nat × Nat) → Nat → Nat → Option (Nat × Nat × Nat × Nat × Nat × Nat)
  | [], _, _ => none
  | w :: t, k, start =>
    if a < start + w.2.2.2 * extentBytes then some (k, start, w) else findWindow a t (k + 1) (start + w.2.2.2 * extentBytes)

/-- What a request is inside the switch. -/
def memOpKind : MemOp → MsgKind
  | .memRd mv => .memRd mv
  | .memRdData => .memRd .invalid
  | .memInv mv => .memInv mv
  | .memClnEvct => .memClnEvct
  | .memWr mv _ _ => .memWr mv
  | .atomic a => .atomic a
  | .biRsp r l k => .biRsp r.val l k

/-- The link channel of a request. -/
def memOpChan : MemOp → Chan
  | .memWr _ _ _ => .m2sRwd
  | .atomic _ => .nonPosted
  | .biRsp _ _ _ => .biRsp
  | _ => .m2sReq

/-- Permissions required (Table 13-4). -/
def memOpNeed : MemOp → Perm
  | .memRd .any => { read := true, write := true }
  | .memRd _ => { read := true }
  | .memRdData => { read := true }
  | .memInv _ => { read := true, write := true }
  | .memClnEvct => { write := true }
  | .memWr _ _ _ => { write := true }
  | .atomic _ => { atomic := true }
  | .biRsp _ _ _ => {}

/-- A write or an AtomicOp, to which the Writer check of R180 applies. -/
def memOpWrites : MemOp → Bool
  | .memWr _ _ _ => true | .atomic _ => true | _ => false

/-- The opcode byte of a sample record (Table 15-5): MemInv 0, MemRd 1, MemRdData 2, MemClnEvct 10; MemWr 1. Log entry
17 (PRESUMED). -/
def memOpOpcode : MemOp → Nat
  | .memInv mv => metaNum mv
  | .memRd mv => 4 + metaNum mv
  | .memRdData => 8
  | .memClnEvct => 40
  | .memWr mv _ _ => 64 + 4 + metaNum mv
  | .atomic a => 192 + (if a.size = 4 then 0 else if a.size = 8 then 16 else 32)
      + (match a.kind with | .fetchAdd => 0 | .swap => 1 | .cas => 2)
  | .biRsp _ _ _ => 0

/-- The channel of Table 15-4 of a request. -/
def memOpStream : MemOp → Nat
  | .memWr _ _ _ => 1 | .atomic _ => 3 | _ => 0

/-- The operand of an AtomicOp is naturally aligned. Log entry 22 (PRESUMED). -/
def atomicAligned (a : AtomicReq) : Bool := a.size ≠ 0 && a.offset % a.size = 0

/-- Sizes of AtomicOps that the ZN384 executes (Table 4-3). Log entry 22 (PRESUMED). -/
def atomicSupported (a : AtomicReq) : Bool :=
  a.size = 4 || a.size = 8 || (a.size = 16 && (match a.kind with | .cas => true | _ => false))

/-- Home slice of a region offset (R182). -/
def homeOf (o : Nat) : Nat := o / 64 % 8

/-- The message of a request before translation. -/
def State.requestMsg (s : State) (p t : Nat) (q : MemReq) : Msg :=
  let io := match q.op with | .atomic _ => true | _ => false
  let m : Msg := { kind := (memOpKind q.op), cls := .memReq, head := if io then q.head else [], ecrc := if io then q.ecrc else [] }
  { m with
    cls := (match q.op with | .atomic _ => .ioNp | _ => .memReq), tenant := t,
    src := s.sourceSlice p (q.hpa / 64), bytes := (memOpKind q.op).bytes - 16 + m.headLen + m.ecrc.length,
    vmd := some q.vmd.val, hostTag := q.tag, addr := q.dpa, data := (match q.op with | .memWr _ _ d => d | _ => 0),
    gen := s.r (K.tenantGeneration t), bindGen := s.r (K.vmdBindGeneration q.vmd.val), port := p,
    chan := some (chanNum (memOpChan q.op)) }

/-- A message placed in its receive buffer (R123). -/
def State.receive (s : State) (p : Nat) (m : Msg) : State :=
  let k := 16 * p + m.chan.getD 15
  { s with core := { s.core with rxq := Tbl.put s.core.rxq k (Tbl.getD s.core.rxq k [] ++ [m]) } }

/-- The lines of the extent cache of a slice, most recent first. -/
def State.cacheLines (s : State) (sl : Nat) : List CacheLine := Tbl.getD s.beryl.cache sl []

/-- A line of the cache used or stored: it becomes the most recent, and its set keeps 8 lines (R174). -/
def touchLine (l : List CacheLine) (c : CacheLine) : List CacheLine :=
  let rest := l.filter (fun x => decide (x.index ≠ c.index) || decide (x.descriptor ≠ c.descriptor))
  let set := (rest.filter (fun x => decide (x.index % 64 = c.index % 64))).take 7
  c :: rest.filter (fun x => decide (x.index % 64 ≠ c.index % 64) || set.contains x)

/-- A lookup counted for CacheStats; `missed` when it issued a refill. -/
def State.countLookup (s : State) (sl t p : Nat) (first missed : Bool) : State :=
  let (a, b, c) := Tbl.getD s.beryl.cacheAcc sl (0, 0, 0)
  let s := { s with beryl := { s.beryl with
    cacheAcc := Tbl.put s.beryl.cacheAcc sl (a + ofBool first, b + ofBool missed, c) } }
  let s := if first then s.count evLookups 1 { tenant := some t, port := some p } else s
  if missed then s.count evMisses 1 { tenant := some t, port := some p } else s

/-- What a record keeps of a CXL.mem request at its ingress (Table 15-5). -/
def State.transactionOf (s : State) (q : MemReq) (p t : Nat) : Transaction :=
  { tenant := t, port := p, slice := s.sourceSlice p (q.hpa / 64), chan := (memOpStream q.op), opcode := (memOpOpcode q.op),
    hpa := q.hpa }

/-- A channel's credits returned (R90, R91, R123): cumulative counts grow and an update is sent. -/
def State.returnCredit (s : State) (p c datas : Nat) : State :=
  let (h, d) := Tbl.getD (s.port p).granted c (0, 0)
  let s := s.modPort p (fun x => { x with granted := Tbl.put x.granted c (h + 1, d + datas) })
  s.emit (.creditUpdate p c (h + 1) (d + datas))

/-- The credits of a message that its receive buffer no longer holds return, where the data link is up (R90, R91). -/
def State.freeArrival (s : State) (m : Msg) : State :=
  match m.chan with
  | some c => if c < 15 && s.linkUp m.port then s.returnCredit m.port c m.dataUnits else s
  | none => s

/-- The entry that a lookup returns stands for POISONED (R163, R177): it is POISONED or FREE, its target is retired, or
its read found an uncorrectable error. -/
def State.readsPoisoned (s : State) (e : Nat) : Bool :=
  entState e = 4 || entState e = 0 || s.beryl.retiredTargets.contains (entTarget e)

/-- The class of a region entry: 0 none, else the region's (Table 10-1). -/
def State.entClass (s : State) (e : Nat) : Nat := if entInRegion e then s.r (K.regionClass (entRegion e)) else 0

/-- The PID of a port: that of its row of PortPids, else the switch's own (R235, R247). Log entry 18 (DEDUCED). -/
def State.portPid (s : State) (p : Nat) : Nat :=
  let row := s.r (K.fabricPortPids + p)
  if row.testBit 31 then bits row 11 0 else s.r K.fabricSwitchPid

/-- The output port that routing names for a request of port p to an entry's target (R247). -/
def State.planPort (s : State) (p e : Nat) : Option Nat :=
  match s.route (s.portPid p) (entTarget e) 3 false false with | .port x => some x | _ => none

/-- Where a translated request goes: its home slice, the atomic engine, its job's engine, or the output port that routing names
(R7, R8, R12). -/
def State.planDst (s : State) (p : Nat) (q : MemReq) (e o : Nat) : Option Nat :=
  if s.entClass e = 1 then some (96 + homeOf o)
  else
    match q.op with
    | .atomic _ => some 108
    | .memWr _ _ _ => if entState e = 3 then some (104 + (s.job (entJob e)).engines.headD 0) else s.planPort p e
    | _ => s.planPort p e

/-- The path of Table 15-5. -/
def State.planPath (s : State) (q : MemReq) (e : Nat) : Nat :=
  if s.entClass e = 1 then 1
  else match q.op with | .atomic _ => 3 | .memWr _ _ _ => if entState e = 3 then 2 else 0 | _ => 0

/-- A coherent write whose SnpType is not NoOp comes from no owner (R191). -/
def State.lacksOwner (s : State) (q : MemReq) (e : Nat) : Bool :=
  match q.op with | .memWr _ noop _ => s.entClass e = 1 && !noop | _ => false

/-- The access of a CXL.mem request (Table 13-3, Table 13-4). -/
def memAccess (t : Nat) (q : MemReq) (e o : Nat) : Access :=
  let addr := entExtent e * extentBytes + o % extentBytes
  { space := 0, target := entTarget e, ld := entLd e, addr := addr, last := addr, tenant := some t, need := memOpNeed q.op }

/-- The refusal of a translated request at its unit (R180, R254). -/
def State.planRefusal (s : State) (u t : Nat) (q : MemReq) (e o : Nat) : Option (Access × RefusalReason) :=
  let writerOk := !(s.entClass e = 2 && memOpWrites q.op) || decide (s.r (K.regionWriter (entRegion e)) = t)
  (s.acuRefusal u (memAccess t q e o) writerOk).map (fun x => (memAccess t q e o, x))

/-- The message of a request with what its entry gives it. -/
def planMsg (m : Msg) (e o : Nat) (dst : Nat) : Msg :=
  { m with addr := entExtent e * extentBytes + o % extentBytes, pid := entTarget e, ld := entLd e, offset := o, dst := dst,
           region := if entInRegion e then some (entRegion e) else none,
           job := if entState e = 3 then some (entJob e) else none }

/-- What the translation of a request finds, by the state at its start (R7, R8, R9, R165): where it goes, and the outcome of its
checks (R180, R191, R254). `i` is the Beryl index, `e` the entry and `o` the offset in the window. -/
def State.planOf (s : State) (p t : Nat) (q : MemReq) (i e o : Nat) : Plan :=
  let m := s.requestMsg p t q
  let u := m.src
  let dst := s.planDst p q e o
  let sound := !s.readsPoisoned e && !s.lacksOwner q e
  let refused := if sound then s.planRefusal u t q e o else none
  let admitted := sound && refused.isNone
  let m := planMsg m e o (dst.getD p)
  let m : Msg := if admitted then { m with acu := u + 1, epoch := s.r (K.acuEpoch u) } else m
  { msg := m, index := i, entry := e, path := s.planPath q e, noOwner := s.lacksOwner q e, refused := refused,
    admitted := admitted, unroutable := dst.isNone }

/-- A plan whose message carries its sample record. -/
def Plan.sampled (pl : Plan) (l : Option (Nat × Nat)) : Plan := { pl with msg := { pl.msg with sample := l } }

/-- The start of a translation: an access admitted is in flight from now on (R260). -/
def State.startPlan (s : State) (pl : Plan) : State := if pl.admitted then s.admitAccess (pl.msg.acu - 1) else s

/-- A translation given up, with the access that it holds. -/
def State.dropPlan (s : State) (pl : Plan) : State :=
  if pl.admitted then s.endAccess (pl.msg.acu - 1) pl.msg.epoch else s

/-- A message that has passed its checks enters the core by the slice that R108 gives its class. -/
def State.enterCore (s : State) (p : Nat) (m : Msg) : State :=
  s.receive p (match m.cls with | .ioNp => { m with src := s.sourceSlice p m.dst } | _ => m)

/-- The entries that name a device extent become POISONED, at once and in every slice's cache (R101, Table 5-6). Log entry 27
(DEDUCED). -/
def State.poisonNamed (s : State) (pid ld x : Nat) : State :=
  let l := (s.entries.filter (fun e => entNames e.2 pid ld x && decide (entState e.2 ≠ 4))).map (·.1)
  s.each l (fun u i =>
    let u := u.putEntry i (setBits (u.entry i) 63 61 4)
    { u with beryl := { u.beryl with
      cache := u.beryl.cache.map (fun c => (c.1, c.2.filter (fun y => decide (y.index ≠ i))))
      refills := u.beryl.refills.map (fun r => if r.index = i then { r with stale := true } else r) } })

/-- A CXL.mem request that no port takes leaves its extent POISONED, unless it only reads (Table 5-6). -/
def State.poisonLost (s : State) (m : Msg) : State :=
  match m.kind with
  | .memWr _ | .memInv _ | .memClnEvct => s.poisonNamed m.pid m.ld (m.addr / extentBytes)
  | _ => s

/-- A request of a tenant that no port takes: answered, reported where it is an AtomicOp, and its extent lost to it (R101, R143,
R238). -/
def State.refusePlanned (s : State) (t : Nat) (m : Msg) : State :=
  (((s.poisonLost m).answerNo m.src m).reportIo t 32 errUnsupported m).freeArrival m

/-- A checked request counted and sent on, or answered where no port takes it (R101, R241, Table 4-6). -/
def State.sendPlanned (s : State) (p t : Nat) (q : MemReq) (pl : Plan) (m : Msg) : State :=
  let c := match q.op with | .atomic _ => 1 | _ => 3
  let s := s.count evRequests 1 { tenant := some t, port := some p, cls := some c }
  let s := match m.kind with
    | .memWr _ => s.count evWriteBytes 64 { tenant := some t, port := some p, cls := some 3 }
    | .memRd _ => s.count evReadBytes 64 { tenant := some t, port := some p, cls := some 3 }
    | _ => s
  if pl.unroutable then ((s.dropPlan pl).bump K.fabricUnroutable 1).refusePlanned t m
  else if m.dst < 96 && s.refusesTraffic m.dst then (s.dropPlan pl).refusePlanned t m
  else s.enterCore p m

/-- A translation completes with its entry: the request is answered under R178, refused (R191, R256) or sent on. `ecc`: the
lookup found an uncorrectable error (R163). -/
def State.perform (s : State) (p t : Nat) (q : MemReq) (pl : Plan) (ecc : Bool) : State :=
  let e := pl.entry
  let m := pl.msg
  let s := s.sampleTarget m.sample (entTarget e) (entLd e) (if ecc || s.readsPoisoned e then 0 else pl.path)
  if ecc || s.readsPoisoned e then
    let s := ((s.dropPlan pl).bump K.berylPoisonAnswers 1).count evPoison 1 { tenant := some t, port := some p }
    ((s.answerAbort m.src m).reportIo t 32 errAbort m).freeArrival m
  else if pl.noOwner then
    let s := (s.bump K.garnetRefusedWrites 1).occurOf (Src.slice m.src 3) t
    ((s.mediaEvent q.vmd.val (q.dpa / 64 * 64)).answerNo m.src m).freeArrival m
  else
    match pl.refused with
    | some (a, x) =>
      ((((s.recordRefusal m.src a x).count evRefusals 1 { tenant := some t, port := some p }).answerAbort m.src m).reportIo t 32
        errAbort m).freeArrival m
    | none => s.sendPlanned p t q pl m

/-- A request that no window of a reachable VMD takes: answered as a retired port answers (R151, R160, R161); an AtomicOp that
the ZN384 does not execute, or that arrives on an auxiliary port, as an unsupported request (R141, R203). A malformed
AtomicOp is dropped. Log entry 22 (PRESUMED). -/
def State.unplaced (s : State) (p t : Nat) (w : WaitReq) : Option State :=
  let q := w.req
  let m := { s.requestMsg p t q with sample := w.sample }
  let v := q.vmd.val
  let no (path : Nat) : State :=
    (((s.sampleTarget w.sample 0 0 path).answerNo m.src m).reportIo t 32 errUnsupported m).freeArrival m
  match q.op with
  | .atomic a =>
    if !atomicAligned a then some (s.freeArrival m)
    else if !atomicSupported a || s.r (K.tenantPrimaryPort t) ≠ p then some (no 3)
    else if v / 16 ≠ t || !s.vmdReachable v || (findWindow q.dpa (s.vmd v).windows 0 0).isNone then some (no 0) else none
  | _ => if v / 16 ≠ t || !s.vmdReachable v || (findWindow q.dpa (s.vmd v).windows 0 0).isNone then some (no 0) else none

/-- Where a request's window leads: Beryl index, descriptor number and offset in the window (R165). -/
def State.locate (s : State) (q : MemReq) : Nat × Nat × Nat :=
  match findWindow q.dpa (s.vmd q.vmd.val).windows 0 0 with
  | none => (0, 0, 0)
  | some (k, start, w) =>
    let d := bits (s.r (K.vmdDescriptors q.vmd.val)) (63 - 16 * k) (48 - 16 * k)
    let row := if w.1 = 2 then s.r (K.berylRegionRunTable + w.2.1) else s.r (K.berylDescriptorTable + d)
    let o := q.dpa - start
    let x := o / extentBytes
    ((if x < rrSplit row then rrNext row else rrLive row) + x, d, o)

/-- The waiting requests of a link channel. -/
def State.waiting (s : State) (key : Nat) : List WaitReq := Tbl.getD s.beryl.waiting key []

/-- The waiting requests of a link channel set. -/
def State.setWaiting (s : State) (key : Nat) (l : List WaitReq) : State :=
  { s with beryl := { s.beryl with waiting := Tbl.putD s.beryl.waiting key l [] } }

/-- The lookup of a waiting request that has not been looked up: whether requests behind it may be, the request with what its
translation found, and the state. A miss waits for a refill, merged with one that is outstanding but with none begun before the
last boundary; with 32 of the slice outstanding it is looked up again later (R165, R174, R175). -/
def State.lookup (s : State) (p t : Nat) (w : WaitReq) : Bool × WaitReq × State :=
  if w.plan.isSome || (s.unplaced p t w).isSome then (true, w, s)
  else
    let (i, d, o) := s.locate w.req
    let sl := (s.requestMsg p t w.req).src
    match (s.cacheLines sl).find? (fun c => decide (c.index = i) && decide (c.descriptor = d)) with
    | some c =>
      let s := s.countLookup sl t p (!w.counted) false
      let s := { s with beryl := { s.beryl with cache := Tbl.put s.beryl.cache sl (touchLine (s.cacheLines sl) c) } }
      let pl := (s.planOf p t w.req i c.entry o).sampled w.sample
      (true, { w with counted := true, plan := some pl, got := some false }, s.startPlan pl)
    | none =>
      let mine := s.beryl.refills.filter (fun r => decide (r.slice = sl))
      let merged := mine.any (fun r => decide (r.index = i) && !r.stale)
      if !merged && decide (32 ≤ mine.length) then (false, { w with counted := true }, s.countLookup sl t p (!w.counted) false)
      else
        let s := s.countLookup sl t p (!w.counted) (!merged)
        let s := if merged then s
          else { s with beryl := { s.beryl with
            refills := s.beryl.refills ++ [{ slice := sl, index := i, descriptor := d }] } }
        let pl := (s.planOf p t w.req i (s.entry i) o).sampled w.sample
        (true, { w with counted := true, plan := some pl }, s.startPlan pl)

/-- The lookups of a channel's waiting requests, in order: those behind a miss go on (R174). -/
def State.lookAll (s : State) (p t : Nat) : List WaitReq → List WaitReq × State
  | [] => ([], s)
  | w :: rest =>
    let (go, w, s) := s.lookup p t w
    if go then
      let (l, s) := s.lookAll p t rest
      (w :: l, s)
    else (w :: rest, s)

/-- The requests at the head of a channel whose translation is complete go on in order (R165, R174). -/
def State.passReady (s : State) (p t key : Nat) : Nat → State
  | 0 => s
  | fuel + 1 =>
    match s.waiting key with
    | [] => s
    | w :: rest =>
      match s.unplaced p t w with
      | some u => (u.setWaiting key rest).passReady p t key fuel
      | none =>
        match w.plan, w.got with
        | some pl, some ecc => ((s.perform p t w.req pl ecc).setWaiting key rest).passReady p t key fuel
        | _, _ => s

/-- Translation of a channel's waiting requests (R174). -/
def State.drainChannel (s : State) (p t key : Nat) : State :=
  let (l, s) := s.lookAll p t (s.waiting key)
  (s.setWaiting key l).passReady p t key l.length

/-- The tenant of a port, while it admits messages (Table 8-1). -/
def State.activeTenant (s : State) (p : Nat) : Option Nat :=
  match s.tenantOfPort p with
  | some t => if s.tenantState t = .active then some t else none
  | none => none

/-- A CXL.mem request or an AtomicOp joins its channel with the sample record that it is given at its ingress, and is translated
and checked in its turn (R7, R174, R290). -/
def State.takeRequest (s : State) (p t : Nat) (q : MemReq) : State :=
  let key := 16 * p + chanNum (memOpChan q.op)
  let (l, s) := s.sampleTransaction (s.transactionOf q p t)
  let s := s.setWaiting key (s.waiting key ++ [{ req := q, sample := l }])
  match s.activeTenant p with
  | none => s
  | some t => if s.forwarding then s.drainChannel p t key else s

/-- A BIRsp joins its channel for the home of its line (R108, R123, R188). -/
def State.takeBirsp (s : State) (p t : Nat) (q : MemReq) (line : Nat) : State :=
  s.receive p { s.requestMsg p t q with cls := .bi, vmd := none, dst := 96 + line % 8 }

/-- MEM_REQUEST_INGRESS: a message of a host's M2S channels, or an AtomicOp. A port that carries no traffic, or no CXL, brings none
(R71, Table 4-3). -/
def execMemRequestIngress (port : PortId) (req : MemReq) (s : State) : Res :=
  effect (fun s =>
    let p := port.val
    let cxl := match req.op with | .atomic _ => true | _ => decide (s.portMode p ≠ 1)
    if !s.linksRun || !s.carries p || !s.isHost p || !cxl then s
    else
      match s.tenantOfPort p, req.op with
      | none, _ => s
      | some t, .biRsp _ line _ => s.takeBirsp p t req line
      | some t, _ => s.takeRequest p t req) s

/-- A slice's oldest refill of an index, and the state without it. -/
def State.takeRefill (s : State) (sl i : Nat) : Option Refill × State :=
  match s.beryl.refills.find? (fun r => decide (r.slice = sl) && decide (r.index = i)) with
  | none => (none, s)
  | some r => (some r, { s with beryl := { s.beryl with refills := s.beryl.refills.erase r } })

/-- The source of a bank's entry errors, with the SRAM row that holds the entry: an error that ECC has corrected counts under R267, one
that it cannot correct escalates (R163, R266 to R268). -/
def State.entryError (s : State) (i : Nat) (uncorrectable : Bool) : State :=
  s.occurWith (Src.bank (i % 32) 0) { uncorrectable := uncorrectable, memInst := bankArray (i % 32), row := i / 32 }

/-- The requests that wait for a refill have what it brings, and their channels go on (R174). -/
def State.serveRefill (s : State) (r : Refill) (ecc : Bool) : State :=
  s.each (s.beryl.waiting.map (·.1)) (fun u key =>
    let p := key / 16
    match u.tenantOfPort p with
    | none => u
    | some t =>
      let u := u.setWaiting key ((u.waiting key).map (fun w =>
        match w.plan with
        | some pl =>
          if w.got.isNone && pl.index = r.index && (u.requestMsg p t w.req).src = r.slice && (pl.old || !r.stale)
          then { w with got := some ecc } else w
        | none => w))
      if (u.activeTenant p).isSome then u.drainChannel p t key else u.passReady p t key (u.waiting key).length)

/-- EXTENT_CACHE_REFILL: the entry returns from its bank, serves the requests that wait for it under the state in which their
translation started, and is stored unless a boundary has passed since (R9, R163, R174, R175). -/
def execExtentCacheRefill (slice : SliceId) (entry : Nat) (eccUncorrectable eccCorrected : Bool) (waitNs : Nat)
    (s : State) : Res :=
  effect (fun s =>
    let sl := slice.val
    match s.takeRefill sl entry with
    | (none, s) => s
    | (some r, s) =>
      let e := s.entry entry
      let bad := eccUncorrectable || s.beryl.errors.contains entry
      let (a, b, c) := Tbl.getD s.beryl.cacheAcc sl (0, 0, 0)
      let s := { s with beryl := { s.beryl with
        cacheAcc := Tbl.put s.beryl.cacheAcc sl (a, b, max c waitNs)
        errors := if bad && !s.beryl.errors.contains entry then s.beryl.errors ++ [entry] else s.beryl.errors } }
      let s := if eccCorrected then (s.bump K.berylEccCorrected 1).entryError entry false else s
      let s := if bad || entState e = 0 then s.entryError entry true else s
      let s := if r.stale || bad || entState e = 0 then s
        else { s with beryl := { s.beryl with
          cache := Tbl.put s.beryl.cache sl
            (touchLine (s.cacheLines sl) { index := entry, descriptor := r.descriptor, entry := e }) } }
      s.serveRefill r bad) s

/-! ## TLPs (R116, R141, R145, R160, R255) -/

/-- The class of a TLP or of a CXL.cache message (Table 5-1). -/
def tlpCls : TlpKind → Cls
  | .memWrite => .ioP | .message => .ioP | .completion => .ioCpl | .cache .req => .memReq | .cache _ => .memRsp | _ => .ioNp

/-- The channel by which a TLP or a CXL.cache message arrives; `host`: at a HOST port, whose CXL.cache messages are H2D. -/
def tlpChan (k : TlpKind) (host : Bool) : Nat :=
  match k with
  | .memWrite => 0 | .message => 0 | .completion => 2 | .cache c => cacheChan c (!host) | _ => 1

/-- The class number of Table 6-1. -/
def Cls.num : Cls → Nat
  | .ioP => 0 | .ioNp => 1 | .ioCpl => 2 | .memReq => 3 | .memRsp => 4 | .bi => 5

/-- The opcode byte of a TLP's sample record. -/
def tlpOpcode : TlpKind → Nat
  | .memRead => 128 | .memWrite => 129 | .cfgRead => 130 | .cfgWrite => 131 | .atomicOp => 192 | _ => 132

/-- Bytes of data that a TLP asks for (R137). -/
def tlpAsks (q : TlpReq) : Nat := match q.kind with | .memRead => q.bytes | .cfgRead => 4 | _ => 0

/-- Bytes of data that a TLP carries. -/
def tlpCarried (q : TlpReq) : Nat :=
  match q.kind with
  | .memRead => 0 | .cfgRead => 0 | .cfgWrite => 4 | .cache .data => 64 | .cache _ => 0 | _ => q.bytes

/-- The message of a TLP or of a CXL.cache message towards a destination (R103, R108, R114). -/
def State.tlpMsg (s : State) (p t dst : Nat) (q : TlpReq) : Msg :=
  let k : MsgKind := match q.kind with | .cache c => .cache c | k => .tlp k
  let cache := match q.kind with | .cache _ => true | _ => false
  let b := match q.kind with | .cache .req => q.addr / 64 | .cache _ => q.tag | _ => dst
  { kind := k, cls := (tlpCls q.kind), tenant := t, src := s.sourceSlice p b, dst := dst,
    bytes := (if cache then 16 else q.head.length + q.ecrc.length) + tlpCarried q,
    head := (if cache then [] else q.head), ecrc := (if cache then [] else q.ecrc),
    asks := tlpAsks q, attrs := q.attrs,
    hostTag := q.tag, addr := q.addr, data := q.data, gen := s.r (K.tenantGeneration t), port := p,
    chan := some (tlpChan q.kind (s.isHost p)) }

/-- A TLP that goes nowhere: non-posted requests are answered Unsupported Request, posted ones and CXL.cache messages
discarded and counted by the port's discard source (R101, R141, R145, R160); its credits return (R91). Log entry 24 (DEDUCED). -/
def State.refuseTlp (s : State) (p : Nat) (m : Msg) : State :=
  let s := s.freeArrival m
  match m.kind with
  | .tlp .memWrite => s.occur (Src.port p 5)
  | .tlp .message => s.occur (Src.port p 5)
  | .cache _ => s.occur (Src.port p 5)
  | .tlp .completion => s
  | _ => s.answerDevice m.src m

/-- The DEVICE port bound whole at a vPPB whose emulated power is on. -/
def State.boundPort (s : State) (t b : Nat) : Option Nat :=
  let x := vppbBinding (s.r (vppbKey t b))
  if x.1 = 2 && !bit (s.r (K.tenantVppbStatus t + b)) 45 then some x.2 else none

/-- The tenant to which a DEVICE port is bound whole (R23, R157). -/
def State.tenantOfDevice (s : State) (q : Nat) : Option Nat :=
  ((s.bindings []).find? (fun b => decide (b.2.2 = (2, q)))).map (·.1)

/-- The access of a TLP to a device bound whole (Table 13-3), none for messages and completions. -/
def State.tlpAccess (s : State) (t d : Nat) (q : TlpReq) : Option Access :=
  let pid := bits (s.r (K.fabricPortPids + d)) 11 0
  let cfg := q.routingId * 4096 + q.register
  match q.kind with
  | .memRead => some { space := 2, target := pid, addr := q.addr, last := q.addr + (q.bytes - 1), tenant := some t,
                       need := { read := true } }
  | .memWrite => some { space := 2, target := pid, addr := q.addr, last := q.addr + (q.bytes - 1), tenant := some t,
                        need := { write := true } }
  | .cfgRead => some { space := 1, target := pid, addr := cfg, last := cfg, tenant := some t, need := { read := true } }
  | .cfgWrite => some { space := 1, target := pid, addr := cfg, last := cfg, tenant := some t,
                        need := { config := true } }
  | .atomicOp => some { space := 2, target := pid, addr := q.addr, last := q.addr + (q.bytes - 1), tenant := some t,
                        need := { atomic := true } }
  | _ => none

/-- A TLP of a HOST port offered to the sampler at its ingress, whatever becomes of it; a completion is no request (R290). A x16
port's header comes in at the slice of bit 6 of its address. Log entry 49 (DEDUCED). -/
def State.offerTlp (s : State) (p t : Nat) (q : TlpReq) : Option (Nat × Nat) × State :=
  match q.kind with
  | .completion => (none, s)
  | .cache _ => (none, s)
  | _ => s.sampleTransaction
      { tenant := t, port := p, slice := s.sourceSlice p (q.addr / 64), chan := 2, opcode := (tlpOpcode q.kind), hpa := q.addr }

/-- A TLP of a tenant's host that is addressed to a device bound whole (R255, R256). -/
def State.tlpToDevice (s : State) (p t d : Nat) (q : TlpReq) (m : Msg) : State :=
  match s.tlpAccess t d q with
  | none => s.receive p m
  | some a =>
    match s.checkAccess m.src a true with
    | (some _, s) =>
      let s := (s.count evRefusals 1 { tenant := some t, port := some p }).freeArrival m
      match q.kind with
      | .memWrite => s
      | .atomicOp => (s.answerAbort m.src m).reportIo t q.vppb.val errAbort m
      | _ => (s.answerAbort m.src m).reportIo t q.vppb.val errUnsupported m
    | (none, s) =>
      let of : EventOf := { tenant := some t, port := some p, cls := some (tlpCls q.kind).num }
      let s := s.count evRequests 1 of
      let s := match q.kind with
        | .memRead => s.count evReadBytes m.asks of
        | .memWrite => s.count evWriteBytes m.dataLen of
        | _ => s
      s.receive p { m with acu := m.src + 1, epoch := s.r (K.acuEpoch m.src), pid := a.target }

/-- A TLP of a tenant's host that goes nowhere, reported at b of its hierarchy (R143). -/
def State.refuseHost (s : State) (p t b : Nat) (m : Msg) : State := (s.refuseTlp p m).reportIo t b errUnsupported m

/-- The routing ID by which Config.ownReg names a memory-space register. -/
def memorySpace : Nat := 65536

/-- The routing ID and register that a TLP to the tenant's own objects names. -/
def ownPlace (q : TlpReq) : Nat × Nat :=
  match q.kind with
  | .memRead => (memorySpace, q.addr)
  | .memWrite => (memorySpace, q.addr)
  | _ => (q.routingId, q.register)

/-- The answer of a tenant's own presented objects: a read returns the register, a write changes it; the objects of a VMD that is
unbound or without emulated power are answered as R160 says. Log entry 7 (DESIGN CHOICE). -/
def State.ownObject (s : State) (p t : Nat) (q : TlpReq) (m : Msg) : State :=
  let (rid, reg) := ownPlace q
  let x := Config.ownReg t rid reg
  let held := s.ownValue t (Config.presented t rid reg) x
  let put : State := s.ownWrite t q.data (Config.presentedWrite t rid reg held q.data) x
  if !s.ownAnswers t x then s.refuseHost p t 32 m
  else
    match q.kind with
    | .cfgRead => (s.answerFrom m.src m .cplData .ioCpl false held).freeArrival m
    | .memRead => (s.answerFrom m.src m .cplData .ioCpl false held).freeArrival m
    | .cfgWrite => (put.answerFrom m.src m .cplData .ioCpl false 0).freeArrival m
    | .memWrite => put.freeArrival m
    | .atomicOp => s.refuseHost p t 32 m
    | _ => s.freeArrival m

/-- A TLP at the HOST port of a tenant that is ACTIVE (R141, R160, R161, R255, Table 4-6). -/
def State.tlpFromHost (s : State) (p t : Nat) (q : TlpReq) (l : Option (Nat × Nat)) : State :=
  let bound := if q.own then none else s.boundPort t q.vppb.val
  let pid := match bound with | some d => bits (s.r (K.fabricPortPids + d)) 11 0 | none => 0
  let m := { s.tlpMsg p t (bound.getD p) q with sample := l }
  let s := s.sampleTarget l pid 0 0
  if s.r (K.tenantPrimaryPort t) ≠ p then s.refuseHost p t 32 m
  else if q.own then s.ownObject p t q m
  else
    match bound with
    | none => s.refuseHost p t q.vppb.val m
    | some d =>
      if s.refusesTraffic d then s.refuseHost p t q.vppb.val m else s.tlpToDevice p t d q m

/-- The TLPs that wait at a HOST port. -/
def State.tlpq (s : State) (p : Nat) : List (TlpReq × Option (Nat × Nat)) := Tbl.getD s.core.tlpq p []

/-- The TLPs that wait at a HOST port set. -/
def State.setTlpq (s : State) (p : Nat) (l : List (TlpReq × Option (Nat × Nat))) : State :=
  { s with core := { s.core with tlpq := Tbl.putD s.core.tlpq p l [] } }

/-- The TLPs that have waited for their tenant are served in order (R147). -/
def State.drainTlps (s : State) (p t : Nat) : State := (s.setTlpq p []).each (s.tlpq p) (fun u q => u.tlpFromHost p t q.1 q.2)

/-- The vPPB of a tenant that a DEVICE port is bound to. -/
def State.vppbOfPort (s : State) (t p : Nat) : Nat :=
  (((s.bindings []).find? (fun b => decide (b.1 = t) && decide (b.2.2 = (2, p)))).map (·.2.1)).getD 32

/-- A request of a device bound whole breaks the ACS that its vPPB's host has turned on: its Requester ID is a stranger's under Source
Validation, or its address is not untranslated under Translation Blocking (Table 4-3). Log entry 58 (PRESUMED). -/
def State.acsViolated (s : State) (t b : Nat) (q : TlpReq) : Bool :=
  let c := Tbl.getD (s.tenant t).acs b 0
  match q.kind with
  | .completion => false
  | .cache _ => false
  | _ => (bit c 0 && q.stranger) || (bit c 1 && decide (q.addrType ≠ 0))

/-- A peer-to-peer request goes to the host instead: P2P Request Redirect is on, and no Direct Translated P2P exempts it (Table 4-3).
Log entry 58 (PRESUMED). -/
def State.acsRedirects (s : State) (t b : Nat) (q : TlpReq) : Bool :=
  let c := Tbl.getD (s.tenant t).acs b 0
  bit c 2 && !(bit c 6 && decide (q.addrType = 2))

/-- A peer-to-peer request of a device bound whole, to the device on a vPPB of its tenant: checked by the unit of its ingress slice as
an access of the tenant (R252). -/
def State.tlpToPeer (s : State) (p t : Nat) (q : TlpReq) : State :=
  match s.boundPort t q.vppb.val with
  | none => s.refuseTlp p (s.tlpMsg p t p q)
  | some d =>
    if s.refusesTraffic d then s.refuseTlp p (s.tlpMsg p t p q) else s.tlpToDevice p t d q (s.tlpMsg p t d q)

/-- A TLP from a device bound whole: to a peer, or towards the tenant's primary port (R145, R157, R252). -/
def State.tlpFromDevice (s : State) (p : Nat) (q : TlpReq) : State :=
  match s.tenantOfDevice p with
  | none => s.refuseTlp p (s.tlpMsg p 0 p q)
  | some t =>
    if s.tenantState t ≠ .active then
      let m := s.tlpMsg p t p q
      match tlpCls q.kind with
      | .ioNp => s.refuseTlp p m
      | .ioCpl => s.freeArrival m
      | _ => (s.freeArrival m).bump (K.tenantDiscardedRequests t) 1
    else if s.acsViolated t (s.vppbOfPort t p) q then
      let m := s.tlpMsg p t p q
      ((s.freeArrival m).answerAbort m.src m).reportIo t (s.vppbOfPort t p) errAcs m
    else if q.peer && !s.acsRedirects t (s.vppbOfPort t p) q then s.tlpToPeer p t q
    else s.receive p (s.tlpMsg p t (s.r (K.tenantPrimaryPort t)) q)

/-- TLP_INGRESS: a whole TLP that has passed its checks enters the receive buffer of its channel, or is answered (R116); while
the tenant of a HOST port is not ACTIVE it waits (R147). Only a CXL port brings CXL.cache messages (Table 4-3). -/
def execTlpIngress (port : PortId) (req : TlpReq) (s : State) : Res :=
  effect (fun s =>
    let p := port.val
    let cxl := match req.kind with | .cache _ => decide (s.portMode p = 2) | _ => true
    if !s.linksRun || !s.carries p || !cxl then s
    else if s.isHost p then
      match s.tenantOfPort p with
      | none => s
      | some t =>
        let (l, s) := s.offerTlp p t req
        let s := s.setTlpq p (s.tlpq p ++ [(req, l)])
        if s.tenantState t = .active then s.drainTlps p t else s
    else if s.isDevice p then s.tlpFromDevice p req
    else s) s

/-! ## Entry into staging (R123, R137, R159, R185) -/

/-- The charge of a request at its policer: 16 bytes, or a TLP's header, and the data that it carries or asks for (R137). -/
def Msg.policeCharge (m : Msg) : Nat :=
  match m.kind with
  | .memRd _ => 80 | .memWr _ => 80
  | _ => m.bytes + m.asks

/-- An acquire at a home slice (R185). -/
def Msg.isAcquire (m : Msg) : Bool :=
  decide (96 ≤ m.dst) && decide (m.dst < 104) &&
  (match m.kind with | .memRd _ => true | .memInv _ => true | .atomic _ => true | _ => false)

/-- The key of an acquire allowance: slice, home and half. -/
def State.allowanceKey (s : State) (m : Msg) : Nat := 16 * m.src + 2 * (m.dst - 96) + s.stagingHalf m.port

/-- Acquires that may be outstanding under a key (R185). -/
def State.allowance (s : State) (m : Msg) : Nat :=
  if s.sliceMode (sliceOf m.port) = 0 then 5 else s.r K.garnetAcquireAllowance

/-- The acquire no longer counts against its slice's allowance (R185). -/
def State.freeAllowance (s : State) (m : Msg) : State :=
  let k := s.allowanceKey m
  { s with garnet := { s.garnet with
    allowance := Tbl.putD s.garnet.allowance k (Tbl.getD s.garnet.allowance k 0 - 1) 0 } }

/-- The message needs a downstream tag: a request that an output port will complete; one that only crosses this switch has it where
it leaves the fabric (R246). -/
def State.needsTag (s : State) (m : Msg) : Bool :=
  decide (m.dst < 96) && (match m.cls with | .memReq => true | .ioNp => true | _ => false)
    && !(m.transit && s.isFabric m.dst)

/-- A downstream tag allocated for a message (R10). -/
def State.allocTag (s : State) (m : Msg) (home : Option (Nat × Nat)) (job : Option Nat) (atomic : Bool) : Msg × State :=
  let d := s.core.nextTag
  let m := { m with dtag := some d }
  let g : Tag :=
    { outPort := m.dst, hostPort := m.port, tenant := m.tenant, vmd := m.vmd, hostTag := m.hostTag, gen := m.gen,
      bindGen := m.bindGen, acu := m.acu, epoch := m.epoch, msg := m, home := home, job := job, atomic := atomic,
      allocBeat := s.beat }
  (m, { s with core := { s.core with tags := Tbl.put s.core.tags d g, nextTag := d + 1 } })

/-- A downstream tag allocated for a memory access that a unit of the switch makes on behalf of a host's request: the values that the
tag carries are the request's (R10, R260). -/
def State.allocFor (s : State) (x m : Msg) (home : Option (Nat × Nat)) (job : Option Nat) (atomic : Bool) : Msg × State :=
  let (x, s) := s.allocTag x home job atomic
  let d := x.dtag.getD 0
  (x, match Tbl.find s.core.tags d with
    | some g => { s with core := { s.core with tags := Tbl.put s.core.tags d { g with
        hostPort := m.port, tenant := m.tenant, vmd := m.vmd, hostTag := m.hostTag, gen := m.gen, bindGen := m.bindGen,
        acu := if x.acu = 0 then m.acu else x.acu, epoch := if x.acu = 0 then m.epoch else x.epoch, writer := some m } } }
    | none => s)

/-- The policer of a HOST port holds its request channels: it is in use and has no tokens (R137). -/
def State.policeHolds (s : State) (p c : Nat) : Bool :=
  s.isHost p && isRequestChan c && s.r (K.egressPoliceRate p) ≠ 0 && decide (ofTwos 32 (s.r (K.egressPoliceTokens p)) ≤ 0)

/-- Why the head of a channel may not begin to enter staging: policer, queue share, acquire allowance. A request's downstream
tag is its VMD's share, so no other tenant's requests hold it back (R142). Log entry 26 (DEDUCED). -/
def State.entryHeld (s : State) (p c : Nat) (m : Msg) : Bool :=
  let share := m.cls.isRequest && (match m.vmd with
    | some v => decide (s.r (K.vmdQueueShare v) ≤ s.r (K.vmdOutstanding v))
    | none => false)
  let acq := m.isAcquire && decide (s.allowance m ≤ Tbl.getD s.garnet.allowance (s.allowanceKey m) 0)
  s.policeHolds p c || share || acq

/-- A message that has not begun to enter staging leaves its receive buffer: the access that it holds ends. -/
def State.dropReceived (s : State) (m : Msg) : State := if m.acu = 0 then s else s.endAccess (m.acu - 1) m.epoch

/-- A channel's credits return for a message that its receive buffer no longer holds, where the data link is up (R90, R91). -/
def State.freeBuffer (s : State) (k : Nat) (m : Msg) : State :=
  if k % 16 < 15 && s.linkUp (k / 16) then s.returnCredit (k / 16) (k % 16) m.dataUnits else s

/-- A request that waits in a receive buffer is discarded (Table 8-2): a device's non-posted TLP is answered, any other is
counted. -/
def State.discardWaiting (s : State) (k : Nat) (m : Msg) : State :=
  let s := (s.dropReceived m).freeBuffer k m
  match m.cls with
  | .ioNp => if s.isDevice (k / 16) then s.answerDevice m.src m else s.bump (K.tenantDiscardedRequests m.tenant) 1
  | _ => s.bump (K.tenantDiscardedRequests m.tenant) 1

/-- The policer's hold of a channel ends, its time counted in PolicedTime (R137). -/
def State.endPoliced (s : State) (p c : Nat) : State :=
  if (Tbl.find (s.port p).policed c).isNone then s
  else (s.accruePoliced p).modPort p (fun x =>
    { x with policed := Tbl.del x.policed c, policedNs := Tbl.del x.policedNs c })

/-- Channels that the policer no longer holds end their PolicedTime (R137). -/
def State.settlePoliced (s : State) (p : Nat) : State :=
  s.each (s.port p).policed (fun u e => if u.policeHolds p e.1 then u else u.endPoliced p e.1)

/-- What the entry of a message's first bytes takes: tokens, a share, an allowance and a tag. -/
def State.beginEntry (s : State) (p c : Nat) (m : Msg) : Msg × State :=
  let s := if s.isHost p && isRequestChan c && s.r (K.egressPoliceRate p) ≠ 0 then
      (s.endPoliced p c).w (K.egressPoliceTokens p)
        (toTwos 32 (ofTwos 32 (s.r (K.egressPoliceTokens p)) - (m.policeCharge : Int)))
    else s
  let s := match m.vmd with
    | some v => if m.cls.isRequest then s.bump (K.vmdOutstanding v) 1 else s
    | none => s
  let s := if m.isAcquire then
      { s with garnet := { s.garnet with
        allowance := Tbl.put s.garnet.allowance (s.allowanceKey m)
          (Tbl.getD s.garnet.allowance (s.allowanceKey m) 0 + 1) } }
    else s
  if s.needsTag m then s.allocTag m none none false else (m, s)

/-- The head message of a channel moves into staging as far as its pair has room; a request channel's credit returns when all
of it has (R123). -/
def State.enterStaging (s : State) (p c : Nat) (m : Msg) (rest : List Msg) : State :=
  let k := 16 * p + c
  let half := s.stagingHalf p
  if !s.canMove k half m then s
  else
    let (m, s) := if m.sent = 0 then s.beginEntry p c m else (m, s)
    let (all, s) := s.moveHead k half m rest
    if !all then s
    else (if isRequestChan c then s.returnCredit p c m.dataUnits else s).flushSlice m.src

/-- INGRESS_STAGING_ENTRY: the message at the head of a link channel enters staging, or stops the channel (R123, R137,
R147, R159, R185); a request of an older generation is discarded (R145, R155). Requests and TLPs that wait in the receive buffer for their tenant are served first; while a HOST port's
tenant is not ACTIVE, nothing of its channels enters. -/
def execIngressStagingEntry (port : PortId) (chan : Chan) (s : State) : Res :=
  effect (fun s =>
    let p := port.val
    let c := chanNum chan
    let k := 16 * p + c
    if !s.forwarding then s
    else
      let wait := s.isHost p && (s.activeTenant p).isNone
      let s := match s.activeTenant p with
        | some t =>
          let s := if (s.tlpq p).isEmpty then s else s.drainTlps p t
          if (Tbl.getD s.core.rxq k []).isEmpty then s.drainChannel p t k else s
        | none => s
      match Tbl.getD s.core.rxq k [] with
      | [] => s
      | m :: rest =>
        if m.sent = 0 && m.cls.isRequest && s.staleMsg m then (s.setRx k rest).discardWaiting k m
        else if wait && m.sent = 0 then s
        else if m.sent = 0 && s.entryHeld p c m then
          if s.policeHolds p c && (Tbl.find (s.port p).policed c).isNone then
            s.modPort p (fun x => { x with policed := Tbl.put x.policed c (s.beat, s.tick) })
          else s
        else s.enterStaging p c m rest) s

/-! ## Messages that cross the switch (R238, R241, R246) -/

/-- The credit of a message that goes no further than its arrival port returns (R90, R91). -/
def State.freeFabric (s : State) (came : Option Nat) (m : FabricMsg) : State :=
  match came with
  | some p => s.freeArrival (s.fabricMsg p p m)
  | none => s

/-- A message with an output port enters the core: from the receive buffer of its arrival port, or from the slice of its output port
where a unit of this switch makes it. Log entry 66 (DESIGN CHOICE). -/
def State.enterFabric (s : State) (came : Option Nat) (q : Nat) (m : FabricMsg) : State :=
  match came with
  | some p => s.receive p (s.fabricMsg p q m)
  | none => s.injectAt (sliceOf q) (s.stagingHalf q) { s.fabricMsg q q m with chan := none }

/-- A message goes to the port of its route through the core, or is answered where it is unroutable or its port refuses traffic (R101,
R238, R241, R244): `came` is its arrival port, `linked` and `down` tell whether that is a fabric link and its hop a down hop. -/
def State.forwardFabric (s : State) (came : Option Nat) (linked down : Bool) (m : FabricMsg) : State :=
  match s.route m.src.val m.dst.val m.classByte linked down with
  | .unroutable => ((s.bump K.fabricUnroutable 1).answerFabric came m).freeFabric came m
  | .self => s.freeFabric came m
  | .port q => if s.refusesTraffic q then (s.answerFabric (some q) m).freeFabric came m else s.enterFabric came q m

/-- FABRIC_FORWARD: a message that arrives over a fabric link, or one for it, goes to the port of its route through the core, or
is answered where it is unroutable or its port refuses traffic (R101, R238, R241, R244, R246). Whether it arrived on a down hop is judged
by the routes in force. -/
def execFabricForward (port : Option PortId) (arrivedDown : Bool) (msg : FabricMsg) (s : State) : Res :=
  effect (fun s =>
    let came := port.map (·.val)
    let down := match came with | some p => s.cameDown p arrivedDown | none => false
    if !s.forwarding || came.any (fun p => !s.isFabric p || !s.carries p) then s
    else s.forwardFabric came came.isSome down msg) s

end Sys2Proof.Machine
end

