-- ==== Sys2Proof/Machine/Switch.lean ====
section
/-! DEFINITION. The switch core (06): stage one, the middle pools, stage two, resequencing and release, internal
destinations, and the leaked-buffer auditor. -/

namespace Sys2Proof.Machine

/-! ## Flows, pools and stop maps -/

/-- The key of a flow. -/
def flowKey (src dst cls : Nat) : Nat := (src * 128 + dst) * 8 + cls

/-- The key of a cell's flow (06, Cells). -/
def Cell.flow (c : Cell) : Nat := flowKey c.src c.dst c.cls.num

/-- The class of a number of Table 6-1. -/
def classOfNum : Nat → Cls
  | 0 => .ioP | 1 => .ioNp | 2 => .ioCpl | 3 => .memReq | 4 => .memRsp | _ => .bi

/-! ## The cell header (Table 6-1) -/

/-- The 240 payload bytes of a cell as a number: bytes beyond Valid are zero (R102). -/
def Cell.image (c : Cell) : Nat := ofBytes (c.payload ++ List.replicate (240 - c.payload.length) 0)

/-- PayloadCrc over 240 payload bytes (R102). -/
def payloadCrc (image : Nat) : Nat := crc32c (toBytes 240 image) % 2 ^ 32

/-- Bits 127:8 of a cell's header (Table 6-1). -/
def Cell.headerTop (c : Cell) : Nat :=
  let jasper := 56 ≤ c.src && c.src ≤ 59
  let a := ((((ofBool c.headCont * 2 + ofBool c.tailCont) * 8 + c.cls.num) * 64 + c.src % 64) * 128 + c.dst % 128) * 65536
    + c.sequence % 65536
  let b := ((a * 65536 + c.postedMark % 65536) * 64 + (if jasper then 0 else c.tenant % 64)) * 16 + c.hdrs % 16
  ((b * 256 + c.valid % 256) * 2 ^ 20) * 2 ^ 32 + payloadCrc c.image

/-- HeaderCheck over bits 127:8 (R102). -/
def headerCheck (top : Nat) : Nat := crc8 (toBytes 15 top) % 256

/-- The 128-bit header of a cell (Table 6-1). -/
def Cell.header (c : Cell) : Nat := c.headerTop * 256 + headerCheck c.headerTop

/-- The header passes HeaderCheck, with the bits that an error has changed (R117). -/
def Cell.headerPasses (c : Cell) (e : Nat) : Bool :=
  let w := c.header ^^^ e
  decide (headerCheck (w / 256) = w % 256)

/-- The payload passes PayloadCrc, with the bits of header and payload that an error has changed (R117). -/
def Cell.payloadPasses (c : Cell) (h e : Nat) : Bool :=
  decide (payloadCrc (c.image ^^^ e) = (c.header ^^^ h) / 256 % 2 ^ 32)

/-- The core die of an internal destination: homes and engines as R6 places them, the atomic engine on CD0. Log entry
22 (PRESUMED). -/
def dieOf (dst : Nat) : Nat :=
  if dst < 104 then (dst - 96) / 4 else if dst < 108 then (dst - 104) / 2 else 0

/-- The key of virtual output queue (m, d, c). -/
def voqKey (m d c : Nat) : Nat := 654 * m + 6 * d + c

/-- A virtual output queue. -/
def State.voq (s : State) (m d c : Nat) : List PoolCell := Tbl.getD s.core.voq (voqKey m d c) []

/-- Every queue of a pool: destination and class in one number, and the cells. -/
def State.poolQueues (s : State) (m : Nat) : List (Nat × List PoolCell) :=
  (s.core.voq.filter (fun e => decide (654 * m ≤ e.1) && decide (e.1 < 654 * (m + 1)))).map
    (fun e => (e.1 - 654 * m, e.2))

/-- QUEUED cells of a pool. -/
def State.poolQueued (s : State) (m : Nat) : List PoolCell := (s.poolQueues m).flatMap (·.2)

/-- DELIVERED cells of a pool. -/
def State.poolDelivered (s : State) (m : Nat) : List PoolCell := Tbl.getD s.core.delivered m []

/-- Cells of a pool, QUEUED or DELIVERED. -/
def State.poolCells (s : State) (m : Nat) : List PoolCell := s.poolQueued m ++ s.poolDelivered m

/-- Retired cells of a pool (R271). -/
def State.poolRetired (s : State) (m : Nat) : List Nat :=
  (s.core.retiredCells.filter (fun k => decide (k / 8192 = m))).map (fun k => k % 8192)

/-- Cells of an area in use. -/
def State.areaUsed (s : State) (m : Nat) (a : Area) : Nat :=
  ((s.poolCells m).filter (fun x => decide (x.area = a))).length

/-- F, the free cells of the shared area (R118, R271). -/
def State.freeShared (s : State) (m : Nat) : Nat := 7357 - (s.poolRetired m).length - s.areaUsed m .shared

/-- The exponent of a class (Table 6-6). -/
def State.alpha (s : State) (c : Cls) : Int :=
  ofTwos 32 (s.r (match c with
    | .ioP => K.coreAlphaIoP | .ioNp => K.coreAlphaIoNp | .ioCpl => K.coreAlphaIoCpl
    | .memReq => K.coreAlphaMemReq | .memRsp => K.coreAlphaMemRsp | .bi => K.coreAlphaBi))

/-- length < alpha_c * F (R119). -/
def State.belowLimit (s : State) (m : Nat) (c : Cls) (len : Nat) : Bool :=
  let k := s.alpha c
  let f := s.freeShared m
  if 0 ≤ k then decide (len < 2 ^ k.toNat * f) else decide (len * 2 ^ (-k).toNat < f)

/-- The queue is open (R119). -/
def State.voqOpen (s : State) (m d : Nat) (c : Cls) : Bool :=
  let n := (s.voq m d c.num).length
  s.belowLimit m c n && decide (n < 640)

/-- The stop-map bit of a queue (R120, R122). Log entry 23 (DEDUCED). -/
def State.stopped (s : State) (m d : Nat) (c : Cls) : Bool :=
  if c.isRequest then !s.voqOpen m d c
  else
    let q := s.voq m d c.num
    decide (640 ≤ q.length) ||
      (decide (102 ≤ (q.filter (fun x => decide (x.area = .reserve))).length) && !s.belowLimit m c q.length)

/-! ## Stage one (R104 to R106) -/

/-- The rank of a class at stage one (R105). -/
def stageRank (c : Cls) : Nat := match c with | .bi => 0 | .memRsp => 1 | .ioCpl => 1 | _ => 2

/-- The flow has an open frame in slot t. -/
def State.frameOpen (s : State) (c : Cell) (t : Nat) : Bool :=
  match Tbl.find s.core.frames c.flow with
  | some (f, _) => decide (t < f + 48)
  | none => false

/-- A cell may be sent to middle m (R105). -/
def State.sendable (s : State) (m : Nat) (c : Cell) : Bool :=
  !s.stopped m c.dst c.cls && (decide (c.dst < 96) || decide (dieOf c.dst = m % 2))

/-- The cell that input i sends in slot t: by class, by open frame, by entry (R105). -/
def State.stageOnePick (s : State) (i m t : Nat) : Option Cell :=
  (s.staging i).foldl (fun (best : Option Cell) c =>
    if !s.sendable m c then best
    else
      match best with
      | none => some c
      | some b =>
        let kc := 2 * stageRank c.cls + ofBool (!s.frameOpen c t)
        let kb := 2 * stageRank b.cls + ofBool (!s.frameOpen b t)
        if kc < kb then some c else some b) none

/-- Frames of an input that have closed by slot t; their unfilled positions are padding (R105). -/
def State.closeFrames (s : State) (i t : Nat) : State :=
  let done := s.core.frames.filter (fun e => decide (e.1 / 1024 = i) && decide (e.2.1 + 48 ≤ t))
  s.each done (fun u e =>
    let size := if e.1 / 8 % 128 < 96 then 48 else 24
    ({ u with core := { u.core with frames := Tbl.del u.core.frames e.1 } }).bump K.coreCtrPaddingPositions
      (size - e.2.2))

/-- Sequence and PostedMark of a cell as it is sent (R106). -/
def State.stampCell (s : State) (c : Cell) : Cell × State :=
  let q := Tbl.getD s.core.nextSeq c.flow 0
  let mark := match c.cls with
    | .ioNp => Tbl.getD s.core.nextSeq (flowKey c.src c.dst 0) 0
    | .ioCpl => Tbl.getD s.core.nextSeq (flowKey c.src c.dst 0) 0
    | _ => 0
  ({ c with sequence := q, postedMark := mark },
   { s with core := { s.core with nextSeq := Tbl.put s.core.nextSeq c.flow ((q + 1) % 65536) } })

/-- The frame of a flow that sends in slot t. -/
def State.fillFrame (s : State) (c : Cell) (t : Nat) : State :=
  let f := match Tbl.find s.core.frames c.flow with
    | some (a, n) => if t < a + 48 then (a, n + 1) else (t, 1)
    | none => (t, 1)
  { s with core := { s.core with frames := Tbl.put s.core.frames c.flow f } }

/-- A connection of slot t that has not been used: slots count upwards from one counter, and each input sends and each middle
is read at most once in one (R104). -/
def State.slotOpen (s : State) (k t : Nat) : Bool := decide (s.core.slot ≤ t) && decide (Tbl.getD s.core.slotOf k 0 ≤ t)

/-- The connection of slot t used. -/
def State.useSlot (s : State) (k t : Nat) : State :=
  { s with core := { s.core with slot := t, slotOf := Tbl.put s.core.slotOf k (t + 1) } }

/-- The credit of a message of a Response or BI channel returns as it leaves staging (R90). -/
def State.returnResponse (s : State) (m : Msg) : State :=
  match m.chan with
  | some k => if isRequestChan k || 15 ≤ k then s else s.returnCredit m.port k m.dataUnits
  | none => s

/-- The credits of Response and BI channels return as their messages leave staging in a cell (R90). -/
def State.returnResponses (s : State) (c : Cell) : State := s.each c.msgs State.returnResponse

/-- A cell leaves staging for its middle. -/
def State.sendCell (s : State) (i m t : Nat) (c : Cell) : State :=
  let s := (s.setStaging i ((s.staging i).erase c)).fillFrame c t
  let (c, s) := s.stampCell c
  let s := s.count evCellsIn 1 { port := (if c.dst < 96 then some c.dst else none), cls := some c.cls.num }
  let s := s.returnResponses c
  ({ s with core := { s.core with
    flight1 := Tbl.put s.core.flight1 m (Tbl.getD s.core.flight1 m [] ++ [{ c with slot := t }]) } }).flushSlice i

/-- STAGE_ONE_SEND: input i sends at most one cell to middle (i + t) mod 48 in slot t (R104 to R106); credits of Response and BI
channels return as their messages leave staging (R90). -/
def execStageOneSend (input : SliceId) (slot : Nat) (s : State) : Res :=
  effect (fun s =>
    let i := input.val
    let m := (i + slot) % 48
    if !s.forwarding || !s.slotOpen i slot then s
    else
      let s := (s.useSlot i slot).closeFrames i slot
      match s.stageOnePick i m slot with
      | none => s
      | some c => s.sendCell i m slot c) s

/-! ## Middle pools (R109, R118 to R120) -/

/-- The output slice by which a cell reaches its port (R108). -/
def State.outputSlice (s : State) (dst src : Nat) : Nat :=
  if s.sliceMode (sliceOf dst) = 2 then 2 * (dst / 4) + src % 2 else sliceOf dst

/-- The middles of a core die. -/
def middlesOf (die : Nat) : List Nat := (upTo 24).map (fun k => 2 * k + die)

/-- The pool of express placement (R109): the queue is empty on the whole die, and the middle is the one that meets the
output slice in the earliest slot. Log entry 23 (DEDUCED). -/
def State.expressPool (s : State) (m : Nat) (c : Cell) : Option Nat :=
  if !s.on K.coreExpressEnable || 96 ≤ c.dst then none
  else if (middlesOf (m % 2)).any (fun x => !(s.voq x c.dst c.cls.num).isEmpty) then none
  else
    let o := s.outputSlice c.dst c.src
    let t := s.core.slot + 1
    let a := (o + 48 - t % 48) % 48
    let x := if a % 2 = m % 2 then a else (a + 47) % 48
    if s.voqOpen x c.dst c.cls then some x else none

/-- The lowest cell number of a pool that is free and not retired. Log entry 65 (DESIGN CHOICE). -/
def State.freeCell (s : State) (m : Nat) : Nat :=
  let used := (s.poolCells m).map (·.number) ++ s.poolRetired m
  ((upTo 8192).find? (fun k => !used.contains k)).getD 0

/-- Where a received cell is stored (R119, R120); none while neither its area nor the 16 cells of the headroom have room, which
no conforming sender brings about (R122). -/
def State.areaFor (s : State) (m : Nat) (c : Cell) : Option Area :=
  let free := s.freeShared m ≠ 0
  let head : Option Area := if s.areaUsed m .headroom < 16 then some .headroom else none
  if c.cls.isRequest then (if free then some .shared else head)
  else if free && s.voqOpen m c.dst c.cls then some .shared
  else
    let held := ((s.voq m c.dst c.cls.num).filter (fun x => decide (x.area = .reserve))).length
    if decide (held < 102) && decide (s.areaUsed m .reserve < 819) then some .reserve
    else if free then some .shared else head

/-- The depth of the queue that a sampled request's header cell joins is noted in its record (Table 15-5). -/
def State.noteDepth (s : State) (c : Cell) (depth : Nat) : State :=
  if c.cls.isRequest then s.each c.begins (fun u x => u.modSample x.sample (fun r => { r with depth := depth })) else s

/-- A cell stored in an area of a pool. -/
def State.storeCell (s : State) (m : Nat) (c : Cell) (a : Area) : State :=
  let was := s.stopped m c.dst c.cls
  let n := s.freeCell m
  let x : PoolCell := { cell := { c with held := some (m, n) }, number := n, area := a, stamp := s.beat % 65536 }
  let k := voqKey m c.dst c.cls.num
  let depth := (s.voq m c.dst c.cls.num).length
  let s := { s with core := { s.core with
    voq := Tbl.put s.core.voq k (Tbl.getD s.core.voq k [] ++ [x])
    taken := Tbl.put s.core.taken m (Tbl.getD s.core.taken m 0 + 1) } }
  let s := s.noteDepth c depth
  if !was && s.stopped m c.dst c.cls then
    s.count evClosures 1 { port := (if c.dst < 96 then some c.dst else none), cls := some c.cls.num }
  else s

/-- The cell of an express placement is stored in its pool, any other in the pool of its middle (R109, R119). -/
def State.placeCell (s : State) (m : Nat) (c : Cell) : Option State :=
  match s.expressPool m c with
  | some x => (s.areaFor x c).map (fun a => (s.storeCell x c a).bump K.coreCtrExpressPlacements 1)
  | none => (s.areaFor m c).map (fun a => s.storeCell m c a)

/-- No cell that was sent before slot t is still on its way to a middle: cells travel a fixed time (R106). -/
def State.arrivesNext (s : State) (t : Nat) : Bool := s.core.flight1.all (fun e => e.2.all (fun x => decide (t ≤ x.slot)))

/-- POOL_CELL_ARRIVAL: the cell that has travelled longest to its middle is stored; cells arrive in the order in which they were
sent (R106, R109, R119). -/
def execPoolCellArrival (middle : SliceId) (s : State) : Res :=
  effect (fun s =>
    let m := middle.val
    match Tbl.getD s.core.flight1 m [] with
    | [] => s
    | c :: rest =>
      if !s.arrivesNext c.slot then s
      else
      match ({ s with core := { s.core with flight1 := Tbl.putD s.core.flight1 m rest [] } }).placeCell m c with
      | some t => t
      | none => s) s

/-- A unit of the switch injects a message into the lowest-numbered open pool of its die (R119). Cells for an internal destination on
the other core die, to which R107 and R119 leave no common pool, go into a pool of that destination's die. Log entries 57 (DESIGN
CHOICE), 65 (DESIGN CHOICE). -/
def State.tryInject (s : State) (c : Cell) : Option State :=
  let die := if c.dst < 96 then dieOf (c.src + 48) else dieOf c.dst
  match ((middlesOf die).filter (fun m => s.voqOpen m c.dst c.cls)).head? with
  | none => none
  | some m =>
    match s.areaFor m c with
    | none => none
    | some a =>
      let (c, s) := s.stampCell c
      some (s.storeCell m c a)

/-- Cells that wait to be injected are offered again, in order of each flow. -/
def State.retryInject (s : State) : State :=
  s.core.injectWait.foldl (fun u c =>
    if u.core.injectWait.any (fun d => decide (d.flow = c.flow)) then
      { u with core := { u.core with injectWait := u.core.injectWait ++ [c] } }
    else
      match u.tryInject c with
      | some v => v
      | none => { u with core := { u.core with injectWait := u.core.injectWait ++ [c] } })
    { s with core := { s.core with injectWait := [] } }

/-- A message injected by a home slice, a Jasper engine or the atomic engine, whose source number it carries (R119). -/
def State.inject (s : State) (m : Msg) : State :=
  let (cells, _) := addCells 0 (m.bytes / 240 + 1) { m with sent := 0, chan := none }
  { s with core := { s.core with injectWait := s.core.injectWait ++ cells } }.retryInject

/-! ## Stage two and resequencing (R110, R111, R113) -/

/-- E of a flow at its destination. -/
def State.expected (s : State) (flow : Nat) : Nat := Tbl.getD s.core.expected flow 0

/-- A cell is releasable (R110, R113). -/
def State.releasable (s : State) (c : Cell) : Bool :=
  decide (c.sequence = s.expected c.flow) &&
  (match c.cls with
   | .ioNp => decide ((s.expected (flowKey c.src c.dst 0) + 65536 - c.postedMark) % 65536 < 32768)
   | .ioCpl => decide ((s.expected (flowKey c.src c.dst 0) + 65536 - c.postedMark) % 65536 < 32768)
   | _ => true)

/-- The entries of a window that are in use: cells that were not releasable when they arrived, until they are released
(R110). -/
def State.windowEntries (s : State) (o : Nat) : List Cell := (Tbl.getD s.core.window o []).filter (·.waited)

/-- The window has a free entry that the cell may use, beside the cells on their way to it that will take one (R111). -/
def State.windowRoom (s : State) (o : Nat) (c : Cell) : Bool :=
  let l := s.windowEntries o ++ (Tbl.getD s.core.flight2 o []).filter (fun x => !s.releasable x)
  let req := (l.filter (fun x => x.cls.isRequest)).length
  let split := s.sliceMode o = 0
  let mine := l.filter (fun x => decide (x.dst = c.dst))
  let mineReq := (mine.filter (fun x => x.cls.isRequest)).length
  decide (l.length < 1024) && (!c.cls.isRequest || decide (req < 896))
    && (!split || (decide (mine.length < 512) && (!c.cls.isRequest || decide (mineReq < 448))))

/-- The ports of output slice o that exist. -/
def State.portsOfSlice (s : State) (o : Nat) : List Nat :=
  match s.sliceMode o with
  | 2 => [4 * (o / 2)]
  | 1 => [2 * o]
  | _ => [2 * o, 2 * o + 1]

/-- Classes in the order in which stage two offers them. Log entry 23 (DEDUCED). -/
def classOrder : List Cls := [.bi, .memRsp, .ioCpl, .ioP, .ioNp, .memReq]

/-- The heads that middle m could send to output o: port and class. Log entry 23 (DEDUCED). -/
def State.stageTwoHeads (s : State) (m o : Nat) : List (Nat × Cls × Cell) :=
  classOrder.flatMap (fun c => (s.portsOfSlice o).filterMap (fun p =>
    match s.voq m p c.num with
    | x :: _ => if s.outputSlice p x.cell.src = o then some (p, c, x.cell) else none
    | [] => none))

/-- The cells on their way to a port's egress queues through an output slice. -/
def State.comingTo (s : State) (o p : Nat) : List Cell :=
  (Tbl.getD s.core.flight2 o [] ++ (Tbl.getD s.core.window o []).filter s.releasable).filter (fun x => decide (x.dst = p))

/-- The conditions of R111. Room at egress is room beside the cells that are on their way there (R127). -/
def State.readable (s : State) (o : Nat) (c : Cell) : Bool :=
  s.roomBeside c.dst c (s.comingTo o c.dst) && (s.releasable c || s.windowRoom o c)

/-- A cell leaves the head of its queue and becomes DELIVERED. -/
def State.takeHead (s : State) (m d c : Nat) : State :=
  let k := voqKey m d c
  match Tbl.getD s.core.voq k [] with
  | [] => s
  | x :: rest =>
    { s with core := { s.core with
      voq := Tbl.putD s.core.voq k rest []
      delivered := Tbl.put s.core.delivered m (s.poolDelivered m ++ [{ x with stamp := s.beat % 65536 }]) } }

/-- A counter field of ReseqStatus or PoolStatus raised by 1, saturating. -/
def State.bumpField (s : State) (k hi lo : Nat) : State :=
  let v := s.r k
  s.w k (setBits v hi lo (min (2 ^ (hi + 1 - lo) - 1) (bits v hi lo + 1)))

/-- STAGE_TWO_READ: middle m sends one head to output (m + t) mod 48 in slot t, or the slot passes unused (R104, R111). A slot
counts in FullSlots where some head exists for the output and none qualifies. Log entry 57 (DESIGN CHOICE). -/
def execStageTwoRead (middle : SliceId) (slot : Nat) (s : State) : Res :=
  effect (fun s =>
    let m := middle.val
    let o := (m + slot) % 48
    if !s.forwarding || !s.slotOpen (48 + m) slot then s
    else
      let s := (s.useSlot (48 + m) slot).retryInject
      let heads := s.stageTwoHeads m o
      let fenced := s.domain (o / 2) ≠ .on && s.domain (o / 2) ≠ .draining
      if fenced then s
      else match heads.find? (fun h => s.readable o h.2.2) with
      | some (p, c, x) =>
        let s := s.takeHead m p c.num
        { s with core := { s.core with
          flight2 := Tbl.put s.core.flight2 o (Tbl.getD s.core.flight2 o [] ++ [x]) } }
      | none => if heads.isEmpty then s else s.bumpField (K.coreReseqStatus + o) 31 0) s

/-- The number of a window's entries in use. -/
def State.windowUsed (s : State) (o : Nat) : Nat := (s.windowEntries o).length

/-- RESEQUENCING_ARRIVAL: the cell waits in the window, or passes through when its turn has come; a cell older than its
flow's release point is the core-sequence source (R110). -/
def execResequencingArrival (output : SliceId) (s : State) : Res :=
  effect (fun s =>
    let o := output.val
    match Tbl.getD s.core.flight2 o [] with
    | [] => s
    | c :: rest =>
      let s := { s with core := { s.core with flight2 := Tbl.putD s.core.flight2 o rest [] } }
      if 32768 ≤ (c.sequence + 65536 - s.expected c.flow) % 65536 then s.occur (Src.slice o 6)
      else
        let c := { c with waited := !s.releasable c }
        let s := { s with core := { s.core with window := Tbl.put s.core.window o (Tbl.getD s.core.window o [] ++ [c]) } }
        let k := K.coreReseqStatus + o
        s.w k (setBits (s.r k) 47 32 (max (bits (s.r k) 47 32) (s.windowUsed o)))) s

/-! ## Release (R112, R117, R145, R158) -/

/-- 64-byte data blocks that a cell carries in whole or in part. -/
def Cell.blocks (c : Cell) : Nat := (c.valid + 63) / 64

/-- The SRAM row that held a cell: the instance of its pool's cell buffer and its number (R117, R323). -/
def Cell.rowReport (c : Cell) : Report :=
  match c.held with
  | some (m, n) => { uncorrectable := true, memInst := 4096 * (8 + m % 2) + m / 2, row := n }
  | none => {}

/-- A flow's unfinished message is poisoned from here on, or no longer. -/
def State.setTaint (s : State) (f : Nat) (b : Bool) : State :=
  let l := s.core.tainted.filter (fun x => decide (x ≠ f))
  { s with core := { s.core with tainted := if b then l ++ [f] else l } }

/-- The first message that ends in a cell is poisoned where its flow is tainted (R117). -/
def State.applyTaint (s : State) (c : Cell) : Cell × State :=
  if s.core.tainted.contains c.flow && !c.msgs.isEmpty then
    ({ c with msgs := c.msgs.mapIdx (fun k m => if k = 0 then { m with poison := true } else m) }, s.setTaint c.flow false)
  else (c, s)

/-- A cell without headers whose payload fails: its data goes out with poison, a TLP with EP set, counted once (R117). -/
def State.poisonCell (s : State) (c : Cell) (pay : Nat) : Cell × State :=
  let s := s.occurWith pay c.rowReport
  let io := match c.cls with | .ioP => true | .ioNp => true | .ioCpl => true | _ => false
  let s := if !io then s.bump K.coreCtrDataBlocksPoisoned c.blocks
    else if s.core.tainted.contains c.flow then s else s.bump K.coreCtrTlpsPoisoned 1
  ({ c with msgs := c.msgs.map (fun m => { m with poison := true }) }, s.setTaint c.flow (c.tailCont && c.msgs.isEmpty))

/-- R117: the outcome of the checks of a cell whose header and payload bits an error has changed; none when its headers cannot
be trusted. `hdr` and `pay` are the sources of the unit. -/
def State.checkCell (s : State) (c : Cell) (hdr pay h e : Nat) : Option Cell × State :=
  if c.headerPasses h && c.payloadPasses h e then
    let (c, s) := s.applyTaint c
    (some c, s)
  else
    let s := s.bump K.coreCtrCellCrcFailures 1
    if !c.headerPasses h || c.hdrs ≠ 0 then (none, s.occur hdr)
    else
      let (c, s) := s.poisonCell c pay
      (some c, s)

/-- A stale message is discarded: requests count in DiscardedRequests, completions in StaleCompletions, a device's non-posted TLP is
answered Unsupported Request (R145, R158, Table 8-2). -/
def State.discardStale (s : State) (m : Msg) : State :=
  if m.cls.isRequest then
    let s := if m.isAcquire then s.freeAllowance m else s
    if m.cls = .ioNp && s.isDevice m.port then (s.finish m).answerDevice (sliceOf m.dst) m
    else (s.finish m).bump (K.tenantDiscardedRequests m.tenant) 1
  else
    let s := s.bump (K.tenantStaleCompletions m.tenant) 1
    match m.vmd with
    | some v => s.bump (K.vmdStaleCompletions v) 1
    | none => s

/-- A message of a cell is discarded at its release: it belongs to an older generation. The requests of home slices, engines and
the atomic engine run to their end; their answers to a tenant are judged as any other (Table 8-2, R158). -/
def State.staleIn (s : State) (c : Cell) (m : Msg) : Bool := !(decide (48 ≤ c.src) && c.cls.isRequest) && s.staleMsg m

/-- The internal destination whose own request a tag serves: a home slice, an engine or the atomic engine. -/
def tagUnit (g : Tag) : Option Nat :=
  match g.home with
  | some (_, line) => some (96 + line % 8)
  | none => if g.atomic then some 108 else if g.job.isSome then some (g.msg.src + 48) else none

/-- The unit of the switch whose own request a message is. -/
def State.unitOf (s : State) (m : Msg) : Option Nat := (m.dtag.bind (fun d => Tbl.find s.core.tags d)).bind tagUnit

/-- An answer sent from slice sl towards the unit whose own request it is. -/
def State.answerUnit (s : State) (sl half unit : Nat) (m : Msg) (data : Nat) (poison : Bool) : State :=
  let k : MsgKind := match m.kind with | .memRd _ => .drs .invalid | _ => .ndrCmp
  s.injectAt sl half
    { kind := k, cls := .memRsp, tenant := m.tenant, src := sl, dst := unit, bytes := k.bytes,
      dtag := m.dtag, addr := m.addr, data := data, poison := poison, gen := m.gen, port := m.port }

/-- A host's non-posted request that ends in Unsupported Request is reported through AER at the port to which its target is bound,
an AtomicOp at the virtual upstream port (R143). -/
def State.reportUr (s : State) (m : Msg) : State :=
  if m.cls ≠ .ioNp || !s.isHost m.port then s
  else
    match s.tenantOfPort m.port with
    | none => s
    | some t =>
      let b := ((s.bindings []).find? (fun b => decide (b.1 = t) && decide (b.2.2 = (2, m.dst)))).map (fun b => b.2.1)
      s.reportError t (b.getD 32) errUnsupported

/-- A message held for a retired port, outstanding on it or released to it is answered once (Table 5-6): a write leaves its extent
POISONED, a request of the switch's own units is answered to its unit, and one of another switch's is answered through the
fabric (R101, R246). -/
def State.answerRetired (s : State) (p sl : Nat) (m : Msg) : State :=
  match m.kind with
  | .cache _ => s.occur (Src.port p 5)
  | .fabric f => (s.finish m).answerFabric (some p) f
  | _ =>
    match m.cls with
    | .ioP => (s.finish m).occur (Src.port p 5)
    | .ioCpl | .memRsp | .bi => if s.isFabric p then s.occur (Src.port p 5) else s
    | _ =>
      let s := s.poisonLost m
      match s.unitOf m with
      | some u => s.answerUnit sl (s.stagingHalf p) u m 0 true
      | none => ((s.finish m).answerNo sl m).reportUr m

/-- A piece of a message in a cell: the message, its bytes here, and whether it begins and ends here. -/
structure Piece where
  msg : Msg
  bytes : Nat
  begins : Bool
  ends : Bool

/-- The pieces that a cell's payload is made of, in order. -/
def Cell.pieces (c : Cell) : List Piece :=
  let middle := c.headCont && c.msgs.isEmpty
  let cont : List Piece := if !c.headCont then [] else match c.msgs with
    | m :: _ => [⟨m, c.headBytes, false, true⟩]
    | [] => match c.tail with | some m => [⟨m, c.headBytes, false, false⟩] | none => []
  let full : List Piece := (if c.headCont then c.msgs.drop 1 else c.msgs).map (fun m => ⟨m, m.bytes, true, true⟩)
  let used := sumOf (cont.map (·.bytes)) + sumOf (full.map (·.bytes))
  cont ++ full ++ (match c.tail with | some m => if middle then [] else [⟨m, c.valid - used, true, false⟩] | none => [])

/-- The payload bytes of the pieces that stay. -/
def keepBytes : List (Nat × Bool) → List Byte → List Byte
  | [], _ => []
  | (n, k) :: t, b => (if k then b.take n else []) ++ keepBytes t (b.drop n)

/-- A cell with the pieces that stay. -/
def Cell.keeping (c : Cell) (keep : Piece → Bool) : Cell :=
  let l := c.pieces.filter keep
  { c with
    msgs := (l.filter (·.ends)).map (·.msg)
    tail := ((l.filter (fun x => !x.ends)).head?).map (·.msg)
    headCont := (l.head?.map (fun x => !x.begins)).getD false
    headBytes := (l.head?.map (fun x => if x.begins then 0 else x.bytes)).getD 0
    valid := sumOf (l.map (·.bytes)), hdrs := (l.filter (·.begins)).length
    payload := keepBytes (c.pieces.map (fun x => (x.bytes, keep x))) c.payload }

/-- The flow's message in course of release is discarded, or not. -/
def State.setDropping (s : State) (f : Nat) (b : Bool) : State :=
  let l := s.core.dropping.filter (fun x => decide (x ≠ f))
  { s with core := { s.core with dropping := if b then l ++ [f] else l } }

/-- A cell enters its port's egress buffer; posted requests stop being in flight with their last cell, which
completes their records (R260, R292), and the credit timers of the port see what waits (R97). -/
def State.releaseToEgress (s : State) (c : Cell) : State :=
  let s := s.each c.msgs (fun u m =>
    if m.cls ≠ .ioP then u
    else (if m.acu ≠ 0 then u.endAccess (m.acu - 1) m.epoch else u).modSample m.sample (fun x => x.ended 5))
  (s.egressEnter c.dst c).creditWatch c.dst

/-- A cell released at an output slice: a message of an older generation is judged at its header cell and discarded with all
its cells, messages for a retired port are answered, the rest goes to egress (R112, Table 8-2). Log entry 23 (DEDUCED). -/
def State.releaseCell (s : State) (o : Nat) (c : Cell) : State :=
  let going := s.core.dropping.contains c.flow
  let bad (x : Piece) : Bool := if x.begins then s.staleIn c x.msg else going
  let lost := c.pieces.filter (fun x => x.begins && bad x)
  let runs := c.pieces.filter (fun x => !x.ends)
  let kept := c.keeping (fun x => !bad x)
  let s := (s.each (lost.map (·.msg)) State.discardStale).setDropping c.flow (runs.any bad)
  if (s.port c.dst).retiredPort then s.each kept.msgs (fun u m => u.answerRetired c.dst o m)
  else if kept.valid = 0 then s
  else s.releaseToEgress kept

/-- The next Sequence of a flow at its destination. -/
def State.advance (s : State) (c : Cell) : State :=
  { s with core := { s.core with expected := Tbl.put s.core.expected c.flow ((s.expected c.flow + 1) % 65536) } }

/-- A cell of a window whose turn has come, and for which its port's egress queues have room (R110, R127). -/
def State.ready (s : State) (c : Cell) : Bool := s.releasable c && ((s.port c.dst).retiredPort || s.egressRoom c.dst c)

/-- CELL_RELEASE: one releasable cell leaves the window, the one that arrived first, with the outcome of its checks (R110, R117). Log
entry 65 (DESIGN CHOICE). -/
def execCellRelease (output : SliceId) (headerError : BitVec 128) (payloadError : BitVec 1920) (s : State) : Res :=
  effect (fun s =>
    let o := output.val
    match (Tbl.getD s.core.window o []).find? s.ready with
    | none => s
    | some c =>
      let s := { s with core := { s.core with window := Tbl.putD s.core.window o ((Tbl.getD s.core.window o []).erase c) [] } }
      match (s.advance c).checkCell c (Src.slice o 4) (Src.slice o 5) headerError.toNat payloadError.toNat with
      | (none, s) => s
      | (some c, s) => s.releaseCell o c) s

/-- The core-header and cell-payload sources of internal destination k: homes, engines, atomic engine. -/
def internalSources (k : Nat) : Nat × Nat :=
  if k < 8 then (Src.home k 22, Src.home k 23) else if k < 12 then (Src.engine (k - 8) 5, Src.engine (k - 8) 6)
  else (Src.atomic 2, Src.atomic 3)

/-- The messages that internal destination k has taken. -/
def State.inbox (s : State) (k : Nat) : List Msg := Tbl.getD s.core.inbox k []

/-- The messages of internal destination k set. -/
def State.setInbox (s : State) (k : Nat) (l : List Msg) : State :=
  { s with core := { s.core with inbox := Tbl.putD s.core.inbox k l [] } }

/-- An internal destination refuses cells (R8): the atomic engine with its 4,096 locks taken (R202), an engine with its 1,024
dual-write locks taken, for requests (R214). Requests that wait at the unit or in its inbox count with the locks that they will
take; an engine whose every such lock is an AtomicOp's refuses nothing, since their writes may stand behind what it would refuse. Log
entry 65 (DESIGN CHOICE). A home slice never refuses (R185). -/
def State.unitRefuses (s : State) (k : Nat) (c : Cls) : Bool :=
  let waiting := ((s.inbox k).filter (fun m => m.cls.isRequest)).length
  if !c.isRequest then false
  else if k = 12 then decide (4096 ≤ s.atomic.locks.length + s.atomic.waiting.length + waiting)
  else if 8 ≤ k then
    let e := s.engine (k - 8)
    let dual := (e.locks.filter (fun l => match l.use with | .dual _ _ => true | _ => false)).length
    let atomic := (e.locks.filter (fun l => decide (l.use = .atomic))).length
    decide (0 < dual) && decide (1024 ≤ dual + atomic + e.waiting.length + waiting)
  else false

/-- What an internal destination takes of a cell: requests of an older generation that no unit of the switch has sent are
discarded (R112, Table 8-2). -/
def State.takeCell (s : State) (k : Nat) (c : Cell) : State :=
  let lost := c.msgs.filter (fun m => m.cls.isRequest && s.staleIn c m)
  (s.each lost State.discardStale).setInbox k (s.inbox k ++ c.msgs.filter (fun m => !lost.contains m))

/-- Every message whose header a cell carries. -/
def Cell.all (c : Cell) : List Msg := c.msgs ++ (match c.tail with | some m => [m] | none => [])

/-- Every message that is on its way inside the switch: translated and waiting, in receive buffers, staging, pools and windows, or
taken by a unit. -/
def State.travelling (s : State) : List Msg :=
  let cells (t : Tbl (List Cell)) : List Msg := t.flatMap (fun e => e.2.flatMap Cell.all)
  s.beryl.waiting.flatMap (fun e => e.2.filterMap (fun w => w.plan.map (·.msg))) ++ s.core.rxq.flatMap (·.2)
    ++ cells s.core.staging ++ cells s.core.flight1 ++ cells s.core.flight2 ++ cells s.core.window
    ++ s.core.voq.flatMap (fun e => e.2.flatMap (fun x => x.cell.all)) ++ s.core.injectWait.flatMap Cell.all
    ++ s.core.inbox.flatMap (·.2) ++ s.atomic.waiting ++ s.atomic.locks.map (·.2)

/-- INTERNAL_DESTINATION_TAKE: a head that is next in sequence is taken from a pool of the destination's die (R107), unless
the unit refuses its class (R8). Where several heads qualify, the class is taken in the order of `classOrder`. Log entry 57
(DESIGN CHOICE). -/
def execInternalDestinationTake (dest : Fin 13) (middle : SliceId) (headerError : BitVec 128) (payloadError : BitVec 1920)
    (s : State) : Res :=
  effect (fun s =>
    let k := dest.val
    let d := 96 + k
    let m := middle.val
    if !s.forwarding || dieOf d ≠ m % 2 then s
    else
      let heads := classOrder.filterMap (fun c =>
        match s.voq m d c.num with
        | x :: _ => if x.cell.sequence = s.expected x.cell.flow && !s.unitRefuses k c then some x.cell else none
        | [] => none)
      match heads with
      | [] => s
      | c :: _ =>
        let s := (s.takeHead m d c.cls.num).advance c
        let (h, p) := internalSources k
        match s.checkCell c h p headerError.toNat payloadError.toNat with
        | (none, s) => s
        | (some c, s) => s.takeCell k c) s

/-! ## DELIVERED cells and the auditor (R124 to R126) -/

/-- A cell number returns to the free list of its pool. -/
def State.freeDelivered (s : State) (m number : Nat) : State :=
  { s with core := { s.core with
    delivered := Tbl.putD s.core.delivered m ((s.poolDelivered m).filter (fun x => decide (x.number ≠ number))) []
    taken := Tbl.putD s.core.taken m (Tbl.getD s.core.taken m 0 - 1) 0 } }

/-- DELIVERED_CELL_FREE: the receiver confirms the oldest DELIVERED cell (R125). -/
def execDeliveredCellFree (middle : SliceId) (s : State) : Res :=
  effect (fun s =>
    match s.poolDelivered middle.val with
    | [] => s
    | x :: _ => s.freeDelivered middle.val x.number) s

/-- The cells of a beat's segment (R124). -/
def inSegment (beat number : Nat) : Bool :=
  decide (128 * (beat % 64) ≤ number) && decide (number < 128 * (beat % 64) + 128)

/-- The auditor marks a QUEUED cell stuck (R125). -/
def State.markStuck (s : State) (m number : Nat) : State :=
  let voq := s.core.voq.map (fun (e : Nat × List PoolCell) =>
    if e.1 / 654 = m then (e.1, e.2.map (fun x => if x.number = number then { x with stuck := true } else x)) else e)
  ({ s with core := { s.core with voq := voq } }).occur (Src.pool m 0)

/-- The QUEUED cells that head a queue of a pool (R125). -/
def State.poolHeads (s : State) (m : Nat) : List Nat :=
  (s.poolQueues m).filterMap (fun e => e.2.head?.map (·.number))

/-- The report of an error in a cell's descriptor that its ECC has found; the row is the cell's number (R125, R270). Log entry 63
(DESIGN CHOICE). -/
def State.descError (s : State) (m : Nat) (f : DescFind) : State :=
  if f.corrected || f.uncorrectable then
    s.occurWith (Src.pool m 5) { uncorrectable := f.uncorrectable, memInst := srcArray (Src.pool m 5), row := f.number }
  else s

/-- The QUEUED cells of a segment: a queue's head is linked, any other where its predecessor's descriptor names it (R125). -/
def State.auditQueued (s : State) (m : Nat) (found : List DescFind) : State :=
  let cells := (s.poolQueued m).filter (fun x => inSegment s.beat x.number)
  let heads := s.poolHeads m
  let unlinked := ((found.filter (fun f => !f.linked)).map (·.number)).filter (fun n => !heads.contains n)
  s.each cells (fun u x =>
    if unlinked.contains x.number then u.occur (Src.pool m 1)
    else if decide (s.r K.coreAgeLimit < (s.beat + 65536 - x.stamp) % 65536) && !x.stuck then u.markStuck m x.number
    else u)

/-- The DELIVERED cells of a segment: a stamp older than b - 1 is a leak (R125). -/
def State.auditDelivered (s : State) (m : Nat) : State :=
  let cells := (s.poolDelivered m).filter (fun x => inSegment s.beat x.number
    && decide (2 ≤ (s.beat + 65536 - x.stamp) % 65536))
  s.each cells (fun u x =>
    let u := (u.freeDelivered m x.number).bump K.coreCtrLeaksReclaimed 1
    (u.bumpField (K.corePoolStatus + m) 47 32).occur (Src.pool m 2))

/-- The end of a sweep that abandoned no segment: free list, queues and DELIVERED cells make 8,192 (R126). -/
def State.reconcile (s : State) (m : Nat) : State :=
  let free := 8192 - Tbl.getD s.core.taken m 0
  if free + (s.poolQueued m).length + (s.poolDelivered m).length = 8192 then
    let k := K.corePoolStatus + m
    (s.bump K.coreCtrSweepsReconciled 1).w k (setBits (s.r k) 31 0 (s.beat % 2 ^ 32))
  else s.occur (Src.pool m 3)

/-- The pool's segment of this beat has been examined or abandoned. -/
def State.segmentDone (s : State) (m : Nat) : Bool := Tbl.getD s.core.audited m 0 = s.beat + 1

/-- The pool's segment of this beat marked as examined or abandoned. -/
def State.endSegment (s : State) (m : Nat) : State :=
  { s with core := { s.core with audited := Tbl.put s.core.audited m (s.beat + 1) } }

/-- AUDIT_SEGMENT: within the work window of Table 3-2, the 128 cells of the beat's segment are examined, with what their
descriptors show; the last segment ends the sweep (R124 to R126). -/
def execAuditSegment (middle : SliceId) (found : List DescFind) (s : State) : Res :=
  effect (fun s =>
    let m := middle.val
    if s.quartz.cutoff ≤ s.tick || s.segmentDone m then s
    else
      let s := s.each (found.filter (fun f => inSegment s.beat f.number)) (fun u f => u.descError m f)
      let s := ((s.auditQueued m found).auditDelivered m).endSegment m
      if s.beat % 64 ≠ 63 then s
      else if s.core.sweepBroken.contains m then
        { s with core := { s.core with sweepBroken := s.core.sweepBroken.erase m } }
      else s.reconcile m) s

/-- A segment that the beat ends before it is finished is counted, and the sweep ends without reconciliation (R124, Table 3-4). -/
def State.abandonSegment (s : State) (m : Nat) : State :=
  if s.segmentDone m then s
  else
    let s := (s.missedWork 8 {}).endSegment m
    if s.beat % 64 = 63 then { s with core := { s.core with sweepBroken := s.core.sweepBroken.erase m } }
    else if s.core.sweepBroken.contains m then s
    else { s with core := { s.core with sweepBroken := s.core.sweepBroken ++ [m] } }

/-- AUDIT_SEGMENT_ABANDON: a segment not finished by tick 1,023 is abandoned (R124, Table 3-4). -/
def execAuditSegmentAbandon (middle : SliceId) (s : State) : Res :=
  effect (fun s => if s.tick < 1023 then s else s.abandonSegment middle.val) s

/-- Cells with the stuck flag set now: `0x2802.04`. -/
def State.stuckCells (s : State) : Nat :=
  sumOf ((s.core.voq ++ s.core.delivered).map (fun e => (e.2.filter (·.stuck)).length))

/-- The row of PoolStatus (Table 6-8). -/
def State.poolStatus (s : State) (m : Nat) : Nat :=
  let v := s.r (K.corePoolStatus + m)
  let v := setBits v 127 112 (s.freeShared m)
  let v := setBits v 111 96 (s.areaUsed m .reserve)
  let v := setBits v 95 80 (s.poolQueued m).length
  let v := setBits v 79 64 (s.poolDelivered m).length
  setBits v 63 48 ((s.poolCells m).filter (·.stuck)).length

/-- The row of VoqOccupancy for destination and class 6 * d + c (Table 6-9). -/
def State.voqOccupancy (s : State) (row : Nat) : Nat :=
  let d := row / 6
  let c := classOfNum (row % 6)
  let lens := (upTo 48).map (fun m => (s.voq m d (row % 6)).length)
  let closed := ((upTo 48).filter (fun m => s.stopped m d c)).length
  (sumOf lens * 65536 + maxOf lens) * 65536 + closed * 256

/-- The row of ReseqStatus (Table 6-9). -/
def State.reseqStatus (s : State) (o : Nat) : Nat := setBits (s.r (K.coreReseqStatus + o)) 63 48 (s.windowUsed o)

end Sys2Proof.Machine
end

