-- ==== Sys2Proof/Machine/Home.lean ====
section
/-! DEFINITION. The coherence home (10): Garnet's entries, acquires, snoops, releases, memory requests and completions,
replacement, recall and scrub; AtomicOps on a coherent line. -/

namespace Sys2Proof.Machine

/-! ## Lines and entries (R182 to R184) -/

/-- Set of a line. -/
def lineSet (line : Nat) : Nat := line / 8 % 16384

/-- The key of way 0 of a set of a home slice. -/
def setKey (h set : Nat) : Nat := (16384 * h + set) * 16

/-- The key and entry of a line, if Garnet holds one. -/
def State.lineEntry (s : State) (region line : Nat) : Option (Nat × GEntry) :=
  let k := setKey (line % 8) (lineSet line)
  ((upTo 16).filterMap (fun w =>
    match Tbl.find s.garnet.entries (k + w) with
    | some e => if e.region = region && e.line = line then some (k + w, e) else none
    | none => none)).head?

/-- An entry written. -/
def State.putGEntry (s : State) (k : Nat) (e : GEntry) : State :=
  { s with garnet := { s.garnet with entries := Tbl.put s.garnet.entries k e } }

/-- An entry freed: State I. -/
def State.freeGEntry (s : State) (k : Nat) : State :=
  { s with garnet := { s.garnet with entries := Tbl.del s.garnet.entries k } }

/-- The transaction that holds a line (R186). -/
def State.transOn (s : State) (region line : Nat) : Option Trans :=
  s.garnet.trans.find? (fun t => decide (t.region = region) && decide (t.line = line))

/-- A transaction changed. -/
def State.setTrans (s : State) (t : Trans) : State :=
  { s with garnet := { s.garnet with trans := s.garnet.trans.map (fun x =>
    if x.region = t.region && x.line = t.line then t else x) } }

/-- The tenant is a member of the region that can hold lines: not RESETTING and not being swept out (R146, R188). -/
def State.present (s : State) (region t : Nat) : Bool :=
  bit (s.r (K.regionMembers region)) t && s.tenantState t ≠ .resetting
    && !s.garnet.sweeping.any (fun x => decide (x.2 = t))

/-- Every tenant that an entry records: the pointers, or all tenants of the groups (Table 10-3). -/
def GEntry.recorded (e : GEntry) : List Nat :=
  if e.coarse then e.sharers.flatMap (fun g => (upTo 4).map (fun k => 4 * g + k)) else e.sharers

/-- The holders that a snoop must ask (R188). -/
def State.holdersOf (s : State) (e : GEntry) : List Nat := e.recorded.filter (fun t => s.present e.region t)

/-- Sharers with one more: a fifth distinct sharer switches to the coarse vector (R184). -/
def addSharer (coarse : Bool) (l : List Nat) (t : Nat) : Bool × List Nat :=
  if coarse then (true, if l.contains (t / 4) then l else l ++ [t / 4])
  else if l.contains t then (false, l)
  else if l.length < 4 then (false, l ++ [t])
  else (true, ((l ++ [t]).map (fun x => x / 4)).eraseDups)

/-- A line's stable state after a transaction: freed without holders. -/
def State.settle (s : State) (region line : Nat) (st : GState) (coarse : Bool) (sharers : List Nat) : State :=
  match s.lineEntry region line with
  | none => s
  | some (k, e) =>
    if sharers.isEmpty || st = .i then s.freeGEntry k
    else s.putGEntry k { e with state := st, coarse := coarse, sharers := sharers }

/-! ## Counters (R204, Table 10-10) -/

/-- A field of the present beat's row of HomeStats raised. -/
def State.addStat (s : State) (h k n : Nat) : State :=
  let l := Tbl.getD s.garnet.stats h (List.replicate 8 0)
  { s with garnet := { s.garnet with
    stats := Tbl.put s.garnet.stats h (l.mapIdx (fun j x => if j = k then x + n else x)) } }

/-- A maximum of the present beat's row of HomeStats. -/
def State.maxStat (s : State) (h k n : Nat) : State :=
  let l := Tbl.getD s.garnet.stats h (List.replicate 8 0)
  { s with garnet := { s.garnet with
    stats := Tbl.put s.garnet.stats h (l.mapIdx (fun j x => if j = k then max x n else x)) } }

/-- One cycle of a home slice spent on a message (R204). -/
def State.homeCycle (s : State) (h : Nat) : State := s.addStat h 0 1

/-- Busy entries of a home slice: a transaction without an entry is none. -/
def State.busyLines (s : State) (h : Nat) : Nat :=
  (s.garnet.trans.filter (fun t => decide (t.home = h) && (s.lineEntry t.region t.line).isSome)).length

/-- The conflict queue of a home slice. -/
def State.conflict (s : State) (h : Nat) : List Msg := Tbl.getD s.garnet.conflict h []

/-- A conflict queue set, with its maxima. -/
def State.setConflict (s : State) (h : Nat) (l : List Msg) : State :=
  let s := { s with garnet := { s.garnet with conflict := Tbl.putD s.garnet.conflict h l [] } }
  (s.maxStat h 4 l.length).w K.garnetConflictHighWater (max (s.r K.garnetConflictHighWater) l.length)

/-! ## Messages that a home sends (R187, R190, R192) -/

/-- The answer of a home to a request. -/
def State.homeAnswer (s : State) (h : Nat) (m : Msg) (k : MsgKind) (cls : Cls) (poison : Bool) (data : Nat) : State :=
  let s := s.finish m
  s.inject { kind := k, cls := cls, tenant := m.tenant, src := 48 + h, dst := m.port, bytes := answerBytes k m,
             vmd := m.vmd, hostTag := m.hostTag, addr := m.addr, data := data, poison := poison, gen := m.gen,
             bindGen := m.bindGen, port := m.port, sample := m.sample }

/-- A snoop to a tenant, sent to its primary port. Log entry 25 (DEDUCED). -/
def State.sendSnoop (s : State) (h region line t : Nat) (k : MsgKind) (counted : Bool) : State :=
  let s := if counted then
      ((s.addStat h 1 1).bump (K.regionSnoopsSent region) 1).count evSnoops 1 { tenant := some t } else s
  s.inject { kind := k, cls := .bi, tenant := t, src := 48 + h, dst := s.r (K.tenantPrimaryPort t), bytes := 16,
             region := some region, offset := line * 64, gen := s.r (K.tenantGeneration t) }

/-- The entry of a line of a region, translated through its run (R165, R192): index and value. -/
def State.regionEntry (s : State) (region line : Nat) : Nat × Nat :=
  let row := s.r (K.berylRegionRunTable + region)
  let x := line * 64 / extentBytes
  let i := (if x < rrSplit row then rrNext row else rrLive row) + x
  (i, s.entry i)

/-- Where a request for an entry goes: the job's engine for a write to a MIGRATING extent, else the port of its target
or of the route to it, unless that port refuses traffic (R8, R84, R214, R219). -/
def State.entryDest (s : State) (e : Nat) (write : Bool) : Option Nat :=
  if entState e = 3 && write then some (104 + (s.job (entJob e)).engines.headD 0)
  else
    match s.route (s.r K.fabricSwitchPid) (entTarget e) 3 false false with
    | .port p => if s.refusesTraffic p then none else some p
    | _ => none

/-- What becomes of a memory request that a unit of the switch would make: its downstream tag, or at once the answer of an entry
that reads POISONED (R178) or of a target that no port reaches (R101). -/
inductive MemAsk where
  | asked (d : Nat) | poisoned | lost
  deriving DecidableEq, Repr

/-- The memory request of a home for a line under an entry: to its device extent, on behalf of request m. -/
def homeRequest (h region line : Nat) (m : Msg) (k : MsgKind) (data e : Nat) : Msg :=
  { kind := k, cls := .memReq, tenant := m.tenant, src := 48 + h, bytes := k.bytes, hostTag := m.hostTag,
    addr := entExtent e * extentBytes + line * 64 % extentBytes, pid := entTarget e, ld := entLd e, region := some region,
    offset := line * 64, data := data, gen := m.gen, bindGen := m.bindGen, epoch := m.epoch, port := m.port,
    job := if entState e = 3 then some (entJob e) else none }

/-- A memory request of a home for a line, on behalf of request m, under the translation of the beat in which it is issued (R178,
R192). A write for a line that holds a Jasper lock waits, with its tag, for the lock (R12). Log entry 26 (DEDUCED). -/
def State.homeMemory (s : State) (h region line : Nat) (m : Msg) (k : MsgKind) (data : Nat) : MemAsk × State :=
  let (i, e) := s.regionEntry region line
  let write := match k with | .memWr _ => true | _ => false
  let bad := s.beryl.errors.contains i || entState e = 0
  if bad || s.readsPoisoned e then (.poisoned, if bad then s.entryError i true else s)
  else
    let x := homeRequest h region line m k data e
    match s.entryDest e write with
    | none => (.lost, s.poisonLost x)
    | some d =>
      let (x, s) := s.allocFor { x with dst := d } m (some (region, line)) none false
      let s := if write && s.garnet.jasperLocks.contains (region, line)
        then { s with garnet := { s.garnet with heldWrites := s.garnet.heldWrites ++ [x] } }
        else s.inject x
      (.asked (x.dtag.getD 0), s)

/-- A home's memory write is complete without having been sent: its completion is at the home. -/
def State.ownCompletion (s : State) (h : Nat) (x : Msg) : State :=
  s.setInbox h (s.inbox h ++ [{ kind := .ndrCmp, cls := .memRsp, tenant := x.tenant, src := x.src, dst := 96 + h, dtag := x.dtag,
                                addr := x.addr, gen := x.gen, port := x.port }])

/-- A memory write of a home that has waited is translated again and sent (R192); where its entry now reads POISONED or no port
takes it, it is complete at once (R101, R178). -/
def State.sendHomeWrite (s : State) (x : Msg) : State :=
  let h := x.src - 48
  let region := x.region.getD 0
  let line := x.offset / 64
  let (i, e) := s.regionEntry region line
  let y := { homeRequest h region line x x.kind x.data e with dtag := x.dtag }
  if s.beryl.errors.contains i || s.readsPoisoned e then s.ownCompletion h x
  else
    match s.entryDest e true, Tbl.find s.core.tags (x.dtag.getD 0) with
    | some d, some g =>
      let y := { y with dst := d }
      ({ s with core := { s.core with
        tags := Tbl.put s.core.tags (x.dtag.getD 0) { g with outPort := d, msg := y } } }).inject y
    | _, _ => (s.poisonLost y).ownCompletion h x

/-! ## Replacement (R194 to R196) -/

/-- Entries of a region in a home slice. -/
def State.entriesIn (s : State) (h region : Nat) : Nat :=
  (s.garnet.entries.filter (fun e => decide (e.1 / 262144 = h) && decide (e.2.region = region))).length

/-- The share of a region's quota in one home slice. -/
def State.sliceQuota (s : State) (region : Nat) : Nat := s.r (K.regionQuota region) / 8

/-- A line is busy (R186). -/
def State.lineBusy (s : State) (region line : Nat) : Bool := (s.transOn region line).isSome

/-- The oldest of a list of ways: the greatest age, ties to the lowest way. -/
def oldestWay (l : List (Nat × GEntry)) : Option Nat :=
  (l.foldl (fun (b : Option (Nat × Nat)) x =>
    match b with
    | none => some (x.1, x.2.age)
    | some (w, a) => if a < x.2.age then some (x.1, x.2.age) else some (w, a)) none).map (·.1)

/-- A way has been recalled, or is being recalled, for a waiting allocation (R196). -/
def State.wayDue (s : State) (k : Nat) : Bool := s.garnet.waysDue.any (fun x => decide (x.1 = k))

/-- The way that an acquire of a region takes in a set, and whether it must first be recalled (R195); ways that are due to waiting
allocations are theirs (R196). -/
def State.chooseWay (s : State) (h set region : Nat) : Option (Nat × Bool) :=
  let k := setKey h set
  let ways := (upTo 16).filter (fun w => !s.garnet.retiredWays.contains (k + w) && !s.wayDue (k + w))
  let empty := ways.find? (fun w => (Tbl.find s.garnet.entries (k + w)).isNone)
  let valid := ways.filterMap (fun w =>
    match Tbl.find s.garnet.entries (k + w) with
    | some e => if s.lineBusy e.region e.line then none else some (w, e)
    | none => none)
  let own := oldestWay (valid.filter (fun x => decide (x.2.region = region)))
  let above := oldestWay (valid.filter (fun x => decide (s.sliceQuota x.2.region < s.entriesIn h x.2.region)))
  let aboveOther := oldestWay (valid.filter (fun x => decide (x.2.region ≠ region)
    && decide (s.sliceQuota x.2.region < s.entriesIn h x.2.region)))
  let any := oldestWay valid
  let vict (w : Option Nat) : Option (Nat × Bool) := w.map (fun x => (x, true))
  let free : Option (Nat × Bool) := empty.map (fun x => (x, false))
  if s.entriesIn h region < s.sliceQuota region then free <|> vict above <|> vict own <|> vict any
  else vict own <|> free <|> vict aboveOther <|> vict any

/-- A new entry in a way; the ages of the set's other entries that are not busy grow (R194). -/
def State.allocate (s : State) (h region line w : Nat) (st : GState) : State :=
  let k := setKey h (lineSet line)
  let older := s.garnet.entries.map (fun (e : Nat × GEntry) =>
    if k ≤ e.1 && e.1 < k + 16 && !s.lineBusy e.2.region e.2.line then
      (e.1, { e.2 with age := min 15 (e.2.age + 1) }) else e)
  ({ s with garnet := { s.garnet with entries := older } }).putGEntry (k + w)
    { region := region, line := line, state := st, age := 0 }

/-- A region's thrash source occurs, once in a beat, where the beat's count is above the threshold (R197). -/
def State.judgeThrash (s : State) (region : Nat) : State :=
  if decide (s.r (K.regionThrashThreshold region) < Tbl.getD s.garnet.replacements region 0) && !s.garnet.thrashed.contains region
  then ({ s with garnet := { s.garnet with thrashed := s.garnet.thrashed ++ [region] } }).occurOf (Src.region region) region
  else s

/-- A replacement counted against a region (R197). -/
def State.countReplacement (s : State) (h region : Nat) : State :=
  let n := Tbl.getD s.garnet.replacements region 0 + 1
  let s := { s with garnet := { s.garnet with replacements := Tbl.put s.garnet.replacements region n } }
  ((s.addStat h 2 1).count evReplacements 1 {}).judgeThrash region

/-! ## Transactions (R186, R187, R196, R201) -/

/-- A transaction begins on a line. -/
def State.beginTrans (s : State) (t : Trans) (st : GState) : State :=
  let s := { s with garnet := { s.garnet with trans := s.garnet.trans ++ [t] } }
  let s := match s.lineEntry t.region t.line with
    | some (k, e) => s.putGEntry k { e with state := st, age := 0 }
    | none => s
  s.maxStat t.home 3 (s.busyLines t.home)

/-- Snoops of one kind to tenants. -/
def State.snoopAll (s : State) (h region line : Nat) (l : List Nat) (k : MsgKind) : State :=
  s.each l (fun u t => u.sendSnoop h region line t k true)

/-- A line needs no recall any more: it leaves the recall in progress, if that is its region's (R199). -/
def State.recalled (s : State) (region line : Nat) : State :=
  match s.garnet.recallRun with
  | some (r, l, n) =>
    if r = region then
      { s with garnet := { s.garnet with recallRun := some (r, l.filter (fun x => decide (x.1 ≠ line)), n) } }
    else s
  | none => s

/-- A tenant has lost a line: a recall in progress, which recalls only what it found, leaves the line to it (R199). -/
def State.lostLine (s : State) (region line tenant : Nat) : State :=
  match s.garnet.recallRun with
  | some (r, l, n) =>
    if r = region then
      { s with garnet := { s.garnet with recallRun := some (r, l.filter (fun x => decide (x ≠ (line, tenant))), n) } }
    else s
  | none => s

/-- A transaction ends: the line is released. -/
def State.dropTrans (s : State) (t : Trans) : State :=
  let s := { s with garnet := { s.garnet with trans := s.garnet.trans.filter (fun x =>
    !(decide (x.region = t.region) && decide (x.line = t.line))) } }
  match t.goal with
  | .recallLine => s.recalled t.region t.line
  | _ => s

/-- The requester still belongs to its generation. -/
def State.current (s : State) (m : Msg) : Bool := !s.staleMsg m

/-- Those of a transaction's holders that its line's entry still records. -/
def State.stillHeld (s : State) (t : Trans) : List Nat :=
  let l : List Nat := match s.lineEntry t.region t.line with | some (_, e) => e.recorded | none => []
  t.holders.filter (fun x => s.present t.region x && l.contains x)

/-- The state a read leaves and the MetaValue that it reports (Table 10-5). Log entry 25 (DEDUCED). -/
def State.readResult (s : State) (t : Trans) (m : Msg) (excl : Bool) : GState × Bool × List Nat × MetaVal :=
  let ge := s.on (K.regionGrantExclusive t.region)
  let only : List Nat := if s.current m then [m.tenant] else []
  if excl then (.e, false, only, .any)
  else
    let held := s.stillHeld t
    match t.prior with
    | .s =>
      let e : GEntry := ((s.lineEntry t.region t.line).map (·.2)).getD { region := 0, line := 0, state := .s }
      let kept := if e.coarse then e.sharers else e.sharers.filter (fun x => s.present t.region x)
      if !e.coarse && kept.all (fun x => decide (x = m.tenant)) && ge then (.e, false, only, .any)
      else
        let (c, l) := if s.current m then addSharer e.coarse kept m.tenant else (e.coarse, kept)
        (.s, c, l, .shared)
    | .e =>
      if t.holders = [m.tenant] then (.e, false, only, if ge then .any else .shared)
      else
        match t.ownerKept with
        | .i => if ge then (.e, false, only, .any) else (.s, false, only, .shared)
        | _ => (.s, false, only ++ held, .shared)
    | _ => if ge then (.e, false, only, .any) else (.s, false, only, .shared)

/-- The end of a transaction whose last wait is over, with the line's data where it read memory (R184, R187, R201). -/
def State.endTrans (s : State) (t : Trans) (data : Nat) (poisoned : Bool) : State :=
  let s := s.dropTrans t
  match t.goal, t.req with
  | .read excl, some m =>
    let (st, c, l, mv) := s.readResult t m excl
    (s.settle t.region t.line st c l).homeAnswer t.home m (.drs mv) .memRsp poisoned data
  | .uncached, some m =>
    let held := s.stillHeld t
    let (st, l) : GState × List Nat := match t.ownerKept with
      | .e => (.e, held) | .s => (.s, held) | .i => (.i, [])
    (s.settle t.region t.line st false l).homeAnswer t.home m (.drs .invalid) .memRsp poisoned data
  | .memInv, some m =>
    (s.settle t.region t.line .e false (if s.current m then [m.tenant] else [])).homeAnswer t.home m .ndrCmpE .memRsp
      false 0
  | .writeBack left, some m =>
    let held : List Nat := if s.current m then [m.tenant] else []
    let st : GState := match left with | .invalid => .i | .shared => .s | .any => .e
    let s := match left with | .invalid => s.lostLine t.region t.line m.tenant | _ => s
    (s.settle t.region t.line st false held).homeAnswer t.home m .ndrCmp .memRsp false 0
  | .atomic _, some m =>
    (s.settle t.region t.line .i false []).homeAnswer t.home m .cplData .ioCpl poisoned data
  | .recallLine, _ =>
    match s.lineEntry t.region t.line with
    | none => s
    | some (_, e) =>
      let left := e.recorded.filter (fun x => t.holders.contains x)
      if left.isEmpty then s.settle t.region t.line .i false []
      else s.settle t.region t.line (if t.prior = .e then .e else .s) e.coarse (if e.coarse then e.sharers else left)
  | _, _ => s

/-- An AtomicOp of a COHERENT line ends in Completer Abort, which AER reports; no host holds the line (R143, R178, R201). -/
def State.abortAtomic (s : State) (t : Trans) (m : Msg) : State :=
  let s := (s.dropTrans t).settle t.region t.line .i false []
  (s.homeAnswer t.home m .cplCa .ioCpl false 0).reportError m.tenant 32 errAbort

/-- Every BIRsp and memory completion of the transaction has arrived: it reads memory, or ends. -/
def State.proceed (s : State) (t : Trans) : State :=
  if !t.awaiting.isEmpty || !t.writes.isEmpty || t.read.isSome then s
  else match t.got with
  | some (data, poisoned) => s.endTrans t data poisoned
  | none =>
    match t.goal, t.req with
    | .memInv, _ => s.endTrans t 0 false
    | .recallLine, _ => s.endTrans t 0 false
    | .writeBack _, _ => s.endTrans t 0 false
    | .evict, _ => s.endTrans t 0 false
    | g, some m =>
      let (d, s) := s.homeMemory t.home t.region t.line m (.memRd .invalid) 0
      let st : GState := match g with
        | .read true => .ie
        | .atomic _ => .atomic
        | .read false => if t.prior = .s || t.ownerKept = .s then .is else .ie
        | _ => .is
      let s := match s.lineEntry t.region t.line with
        | some (k, e) => s.putGEntry k { e with state := st }
        | none => s
      match d, g with
      | .asked d, _ => s.setTrans { t with read := some d }
      | .poisoned, .atomic _ => s.abortAtomic t m
      | _, _ => s.endTrans t 0 true
    | _, none => s.endTrans t 0 false

/-- A transaction with its snoops; it goes on at once if none is needed. -/
def State.runTrans (s : State) (t : Trans) (st : GState) (snoop : MsgKind) : State :=
  let t := { t with snoopBeat := s.beat }
  let s := s.beginTrans t (if t.awaiting.isEmpty then st else
    (match t.goal with | .atomic _ => .atomic | .recallLine => .evicting | _ => .snooping))
  let s := s.snoopAll t.home t.region t.line t.awaiting snoop
  s.proceed t

/-- The recall of a victim (R196). -/
def State.recallVictim (s : State) (h k : Nat) : State :=
  match Tbl.find s.garnet.entries k with
  | none => s
  | some e =>
    let l := s.holdersOf e
    s.runTrans { home := h, region := e.region, line := e.line, goal := .recallLine, req := none, awaiting := l,
                 prior := e.state } .evicting .biSnpInv

/-- Entries that retired ways of a home slice still hold are recalled once their lines are not busy (R205). -/
def State.recallRetired (s : State) (h : Nat) : State :=
  s.each (s.garnet.retiredWays.filter (fun k => decide (k / 262144 = h))) (fun u k =>
    match Tbl.find u.garnet.entries k with
    | none => u
    | some e => if u.lineBusy e.region e.line then u else u.recallVictim h k)

/-- The same of every home slice. -/
def State.recallAllRetired (s : State) : State := s.each (upTo 8) State.recallRetired

/-- The acquire needs a way if its line has none: its state after is S or E (R194). -/
def Msg.allocates (m : Msg) : Bool :=
  match m.kind with | .memRd .invalid => false | .memRd _ => true | .memInv _ => true | _ => false

/-- A request that meets a pointer-mode entry takes out of it the tenants that are absent (R146, step 3); an entry without
holders is freed unless `keep`. -/
def State.purgeAbsent (s : State) (region line : Nat) (keep : Bool) : State :=
  match s.lineEntry region line with
  | none => s
  | some (k, e) =>
    let l := e.sharers.filter (fun t => s.present region t)
    if e.coarse || l.length = e.sharers.length then s
    else if l.isEmpty && !keep && !s.lineBusy region line then s.freeGEntry k
    else s.putGEntry k { e with sharers := l }

/-- An acquire starts on a line that is not busy (Table 10-5, R146, R201). -/
def State.startOnLine (s : State) (h : Nat) (m : Msg) : State :=
  let r := m.region.getD 0
  let line := m.offset / 64
  let s := (s.freeAllowance m).purgeAbsent r line m.allocates
  let found := s.lineEntry r line
  let st : GState := match found with | some (_, e) => e.state | none => .i
  let held := match found with | some (_, e) => s.holdersOf e | none => []
  let others := held.filter (fun t => decide (t ≠ m.tenant))
  let base : Trans := { home := h, region := r, line := line, goal := .memInv, req := some m, holders := held, prior := st }
  match m.kind with
  | .atomic a =>
    s.runTrans { base with goal := .atomic a, awaiting := held } .atomic .biSnpInv
  | .memInv _ => s.runTrans { base with awaiting := others } .snooping .biSnpInv
  | .memRd .any => s.runTrans { base with goal := .read true, awaiting := others } .ie .biSnpInv
  | .memRd .shared =>
    let ask := if st = .e then others else []
    s.runTrans { base with goal := .read false, awaiting := ask } (if st = .s then .is else .ie) .biSnpData
  | _ =>
    if st = .e && !held.isEmpty then
      let ask := others
      s.runTrans { base with goal := .uncached, awaiting := ask, ownerKept := .e } .is .biSnpCur
    else
      let (d, s) := s.homeMemory h r line m (.memRd .invalid) 0
      match d with
      | .asked _ => s
      | _ => s.homeAnswer h m (.drs .invalid) .memRsp true 0

/-- The way that is due to an acquire, if one is and is not retired (R196). -/
def State.dueWay (s : State) (m : Msg) : Option Nat :=
  (s.garnet.waysDue.find? (fun x => decide (x.2 = m) && !s.garnet.retiredWays.contains x.1)).map (·.1)

/-- No way is due to an acquire any more. -/
def State.dropDue (s : State) (m : Msg) : State :=
  { s with garnet := { s.garnet with waysDue := s.garnet.waysDue.filter (fun x => decide (x.2 ≠ m)) } }

/-- An allocation waits for a way of the set of a line that is not yet due to it (R196). -/
def State.allocWaits (s : State) (line : Nat) (x : Msg) : Bool :=
  x.allocates && decide (lineSet (x.offset / 64) = lineSet line) && (s.lineEntry (x.region.getD 0) (x.offset / 64)).isNone
    && !s.lineBusy (x.region.getD 0) (x.offset / 64) && (s.dueWay x).isNone

/-- What becomes of an acquire: it starts, or it waits, perhaps with a victim recalled for it. An acquire waits for the way that is
due to it; while allocations of its set wait for any way, ways go to them in order of arrival (R186, R195, R196). -/
def State.tryAcquire (s : State) (h : Nat) (m : Msg) (ahead : List Msg) : Option State × State :=
  let r := m.region.getD 0
  let line := m.offset / 64
  if s.lineBusy r line || ahead.any (fun x => decide (x.region = m.region) && decide (x.offset / 64 = line)) then (none, s)
  else if (s.lineEntry r line).isSome || !m.allocates then (some ((s.dropDue m).startOnLine h m), s)
  else
    match s.dueWay m with
    | some k =>
      if (Tbl.find s.garnet.entries k).isSome then (none, s)
      else (some (((s.dropDue m).allocate h r line (k % 16) .ie).startOnLine h m), s)
    | none =>
      if ahead.any (s.allocWaits line) then (none, s)
      else
        match s.chooseWay h (lineSet line) r with
        | none => (none, s)
        | some (w, false) => (some ((s.allocate h r line w .ie).startOnLine h m), s)
        | some (w, true) =>
          let k := setKey h (lineSet line) + w
          let s := s.countReplacement h r
          (none, ({ s with garnet := { s.garnet with waysDue := s.garnet.waysDue ++ [(k, m)] } }).recallVictim h k)

/-- The first message of a home's inbox that meets `p`, and the inbox without it. -/
def State.takeInbox (s : State) (k : Nat) (p : Msg → Bool) : Option (Msg × State) :=
  match (s.inbox k).find? p with
  | some m => some (m, s.setInbox k (dropFirst p (s.inbox k)))
  | none => none

/-- A request that a reset or an unbinding has overtaken before it started is discarded (R145). -/
def State.discardQueued (s : State) (m : Msg) : State :=
  let s := if m.isAcquire then (s.freeAllowance m).dropDue m else s
  (s.finish m).bump (K.tenantDiscardedRequests m.tenant) 1

/-- HOME_ACQUIRE_ARRIVAL: the acquire starts, or waits in the conflict queue (R185, R186, R196). -/
def execHomeAcquireArrival (home : HomeId) (s : State) : Res :=
  effect (fun s =>
    let h := home.val
    if !s.forwarding then s
    else
      match s.takeInbox h Msg.isAcquire with
      | none => s
      | some (m, s) =>
        let s := (s.homeCycle h).count evAcquires 1 { tenant := some m.tenant, port := some m.port }
        if s.staleMsg m then s.discardQueued m
        else
          (match s.tryAcquire h m (s.conflict h) with
          | (some t, _) => t
          | (none, t) => t.setConflict h (t.conflict h ++ [m])).recallAllRetired) s

/-- The conflict queue searched in order of arrival for an acquire that can start: whether one has, and the state. Acquires of an
older generation are discarded on the way, and victims are recalled for those that wait for one. -/
def State.startQueued (s : State) (h : Nat) (ahead : List Msg) : List Msg → Bool × State
  | [] => (false, s)
  | m :: rest =>
    if s.staleMsg m then ((s.discardQueued m).setConflict h (ahead ++ rest)).startQueued h ahead rest
    else
      match s.tryAcquire h m ahead with
      | (some t, _) => (true, t.setConflict h (ahead ++ rest))
      | (none, t) => t.startQueued h (ahead ++ [m]) rest

/-- HOME_ACQUIRE_START: the first queued acquire that can start does so, which costs a cycle (R186, R187, R204). -/
def execHomeAcquireStart (home : HomeId) (s : State) : Res :=
  effect (fun s =>
    let h := home.val
    if !s.forwarding then s
    else
      match s.startQueued h [] (s.conflict h) with
      | (true, t) => (t.homeCycle h).recallAllRetired
      | (false, t) => t) s

/-! ## Releases, BIConflict, BIRsp (R188 to R190) -/

/-- A release at the home. -/
def Msg.isRelease (m : Msg) : Bool := match m.kind with | .memWr _ => true | .memClnEvct => true | _ => false

/-- A stray release (R189, case 4). Log entry 25 (DEDUCED). -/
def State.strayRelease (s : State) (h : Nat) (m : Msg) : State :=
  ((s.addStat h 6 1).occurOf (Src.home h 17) m.tenant).homeAnswer h m .ndrCmp .memRsp false 0

/-- A write-back from the recorded owner (R189, cases 1 and 2). -/
def State.writeBack (s : State) (h k : Nat) (e : GEntry) (m : Msg) (left : MetaVal) : State :=
  let line := m.offset / 64
  match s.transOn e.region line with
  | some t =>
    match s.homeMemory h e.region line m (.memWr .invalid) m.data with
    | (.asked d, s) => s.setTrans { t with writes := t.writes ++ [d] }
    | (_, s) => s.homeAnswer h m .ndrCmp .memRsp false 0
  | none =>
    let s := s.putGEntry k { e with age := 0 }
    let t : Trans := { home := h, region := e.region, line := line, goal := .writeBack left, req := some m, prior := e.state }
    let s := s.beginTrans t .evicting
    match s.homeMemory h e.region line m (.memWr .invalid) m.data with
    | (.asked d, s) => s.setTrans { t with writes := [d] }
    | (_, s) => s.endTrans t 0 false

/-- The entry records the tenant as the line's owner; while a transaction holds the line, its state before it and the BIRsps
so far decide (R189). -/
def State.ownsLine (s : State) (e : GEntry) (t : Nat) : Bool :=
  !e.coarse && decide (e.sharers = [t]) &&
    (match s.transOn e.region e.line with
     | none => decide (e.state = .e)
     | some x => decide (x.prior = .e) && decide (x.ownerKept ≠ .s))

/-- A MemClnEvct from a recorded tenant (R189, case 3). -/
def State.cleanEvict (s : State) (h k : Nat) (e : GEntry) (m : Msg) : State :=
  let s :=
    if e.coarse then s
    else
      let l := e.sharers.filter (fun t => decide (t ≠ m.tenant))
      let s := s.lostLine e.region e.line m.tenant
      if l.isEmpty && !s.lineBusy e.region e.line then s.freeGEntry k else s.putGEntry k { e with sharers := l, age := 0 }
  s.homeAnswer h m .ndrCmp .memRsp false 0

/-- HOME_RELEASE (R189). -/
def execHomeRelease (home : HomeId) (s : State) : Res :=
  effect (fun s =>
    let h := home.val
    if !s.forwarding then s
    else
      match s.takeInbox h Msg.isRelease with
      | none => s
      | some (m, s) =>
        let s := s.homeCycle h
        if s.staleMsg m then s.discardQueued m
        else
          let s := s.purgeAbsent (m.region.getD 0) (m.offset / 64) false
          match s.lineEntry (m.region.getD 0) (m.offset / 64) with
          | none => s.strayRelease h m
          | some (k, e) =>
            (match m.kind with
            | .memWr left => if s.ownsLine e m.tenant then s.writeBack h k e m left else s.strayRelease h m
            | _ => if e.recorded.contains m.tenant then s.cleanEvict h k e m else s.strayRelease h m).recallAllRetired) s

/-- BICONFLICT: BIConflictAck, in the flow of the home's earlier responses to that port (R190). -/
def execBiconflict (port : PortId) (region : Fin 256) (line : Nat) (s : State) : Res :=
  effect (fun s =>
    let h := line % 8
    match s.tenantOfPort port.val with
    | none => s
    | some t =>
      if !s.forwarding || s.r (K.regionClass region.val) ≠ 1 then s
      else
        ((s.homeCycle h).addStat h 5 1).inject
          { kind := .biConflictAck, cls := .memRsp, tenant := t, src := 48 + h, dst := port.val, bytes := 16,
            region := some region.val, offset := line * 64, gen := s.r (K.tenantGeneration t), port := port.val }) s

/-- A tenant's snoop of a transaction is answered, leaving the line as given. -/
def State.answerSnoop (s : State) (t : Trans) (tenant : Nat) (keeps : BiState) : State :=
  let gone := keeps = .i
  let kept : BiState := match t.goal, keeps with | .read _, .e => .s | _, k => k
  let u := { t with
    awaiting := t.awaiting.filter (fun x => decide (x ≠ tenant)), ownerKept := kept,
    holders := if gone then t.holders.filter (fun x => decide (x ≠ tenant)) else t.holders }
  let s := s.setTrans u
  let s := match t.goal with
    | .recallLine => s
    | _ => if gone then s.lostLine t.region t.line tenant else s
  let s := match s.lineEntry t.region t.line with
    | some (k, e) => if gone && !e.coarse then s.putGEntry k { e with sharers := e.sharers.filter (fun x => decide (x ≠ tenant)) } else s
    | none => s
  s.proceed u

/-- The lines that a BIRsp releases: its own, or all four of a block (R200). -/
def Trans.blockLines (t : Trans) (tenant : Nat) : List Nat :=
  if t.blockOf.contains tenant then (upTo 4).map (fun k => t.line / 4 * 4 + k) else [t.line]

/-- The BIRsp of a tenant for a line. -/
def Msg.isBirsp (region line tenant : Nat) (keeps : BiState) (m : Msg) : Bool :=
  decide (m.kind = .biRsp region line keeps) && decide (m.tenant = tenant)

/-- BIRSP_ARRIVAL: a BIRsp that the home has taken: the transaction that waits for the tenant goes on, or the response is stray; one of
an older generation answers no snoop of the present one (R146, R188). -/
def execBirspArrival (home : HomeId) (region : Fin 256) (line : Nat) (tenant : TenantId) (keeps : BiState)
    (s : State) : Res :=
  effect (fun s =>
    let h := home.val
    if !s.forwarding then s
    else
      match s.takeInbox h (Msg.isBirsp region.val line tenant.val keeps) with
      | none => s
      | some (m, s) =>
        let s := s.homeCycle h
        match s.transOn region.val line with
        | some t =>
          if t.home = h && t.awaiting.contains tenant.val && !s.staleMsg m then
            (s.each (t.blockLines tenant.val) (fun u l =>
              match u.transOn region.val l with
              | some x => if x.awaiting.contains tenant.val then u.answerSnoop x tenant.val keeps else u
              | none => u)).recallAllRetired
          else s.addStat h 7 1
        | none => s.addStat h 7 1) s

/-! ## Memory completions (R186, R201, R203) -/

/-- The value of an operand within a line: byte k of a line is bits 8k + 7 to 8k. Log entry 22 (PRESUMED). -/
def atomicOld (a : AtomicReq) (data : Nat) : Nat := bits data (8 * a.offset + 8 * a.size - 1) (8 * a.offset)

/-- The value that an AtomicOp writes (R203). Log entry 22 (PRESUMED). -/
def atomicNew (a : AtomicReq) (old : Nat) : Nat :=
  let top := 2 ^ (8 * a.size)
  match a.kind with
  | .fetchAdd => (old + a.operand) % top
  | .swap => a.operand % top
  | .cas => if old = a.compare % top then a.operand % top else old

/-- The line after an AtomicOp. Log entry 22 (PRESUMED). -/
def atomicLine (a : AtomicReq) (data : Nat) : Nat :=
  setBits data (8 * a.offset + 8 * a.size - 1) (8 * a.offset) (atomicNew a (atomicOld a data))

/-- A downstream tag freed. -/
def State.freeTag (s : State) (d : Nat) : State := { s with core := { s.core with tags := Tbl.del s.core.tags d } }

/-- The DRS of a transaction's read (R187, R201, R203). -/
def State.homeRead (s : State) (t : Trans) (data : Nat) (poisoned : Bool) : State :=
  match t.goal, t.req with
  | .atomic a, some m =>
    if poisoned then s.endTrans t (atomicOld a data) true
    else
      match s.homeMemory t.home t.region t.line m (.memWr .invalid) (atomicLine a data) with
      | (.asked d, s) => s.setTrans { t with read := none, writes := [d], data := atomicOld a data }
      | (.poisoned, s) => s.abortAtomic t m
      | (.lost, s) => s.endTrans t (atomicOld a data) false
  | _, _ =>
    if t.writes.isEmpty then s.endTrans t data poisoned
    else s.setTrans { t with read := none, got := some (data, poisoned) }

/-- A memory write of a transaction has completed: its writer is answered, and the transaction goes on. -/
def State.homeWritten (s : State) (t : Trans) (d : Nat) (writer : Msg) : State :=
  let u := { t with writes := t.writes.filter (fun x => decide (x ≠ d)) }
  let s := s.setTrans u
  match t.goal with
  | .atomic _ => if t.req.map (·.hostTag) = some writer.hostTag && t.read.isNone && t.awaiting.isEmpty && writer.isAcquire
      then s.endTrans u t.data false
      else (s.homeAnswer t.home writer .ndrCmp .memRsp false 0).proceed u
  | .writeBack _ =>
    let own := t.req.map (fun r => { r with dtag := none }) = some { writer with dtag := none }
    let s := if own then s else s.homeAnswer t.home writer .ndrCmp .memRsp false 0
    if u.writes.isEmpty then s.endTrans u 0 false else s
  | _ => (s.homeAnswer t.home writer .ndrCmp .memRsp false 0).proceed u

/-- HOME_MEMORY_COMPLETION: an NDR or DRS for one of the home's own tags (R186, R189, R192). -/
def execHomeMemoryCompletion (home : HomeId) (dtag : Nat) (data : Nat) (poisoned : Bool) (s : State) : Res :=
  effect (fun s =>
    let h := home.val
    match Tbl.find s.core.tags dtag with
    | none => s
    | some g =>
      match g.home with
      | none => s
      | some (r, line) =>
        if line % 8 ≠ h then s
        else
          let s := (s.freeTag dtag).homeCycle h
          let s := s.setInbox h ((s.inbox h).filter (fun m => decide (m.dtag ≠ some dtag)))
          let m := g.writer.getD g.msg
          match s.transOn r line with
          | some t =>
            if t.read = some dtag then (s.homeRead t data poisoned).recallAllRetired
            else if t.writes.contains dtag then (s.homeWritten t dtag m).recallAllRetired
            else s.homeAnswer h { m with dtag := none } (.drs .invalid) .memRsp poisoned data
          | none => s.homeAnswer h { m with dtag := none } (.drs .invalid) .memRsp poisoned data) s

/-- SNOOP_AGE: once per snoop that has been outstanding for SnoopWarn beats; a block snoop is its first line's (R193, R200). -/
def execSnoopAge (home : HomeId) (region : Fin 256) (line : Nat) (tenant : TenantId) (s : State) : Res :=
  effect (fun s =>
    match s.transOn region.val line with
    | none => s
    | some t =>
      if t.home = home.val && t.awaiting.contains tenant.val && !t.aged.contains tenant.val
          && (decide (line % 4 = 0) || !t.blockOf.contains tenant.val)
          && decide (t.snoopBeat + s.r K.garnetSnoopWarn ≤ s.beat) then
        (s.setTrans { t with aged := t.aged ++ [tenant.val] }).occurOf (Src.home home.val 18) tenant.val
      else s) s

/-- DIRECTORY_SCRUB: an entry that the scrub or a lookup reads, and its check: an error is corrected and counted, or FATAL
(R205). -/
def execDirectoryScrub (home : HomeId) (set : Fin 16384) (way : Fin 16) (corrected uncorrectable : Bool)
    (s : State) : Res :=
  effect (fun s =>
    let h := home.val
    let s := if corrected then
        (s.bump K.garnetEccCorrected 1).occurWith (Src.home h way.val) { row := set.val } else s
    if uncorrectable then s.occur (Src.home h 16) else s) s

/-! ## Recall (R199, R200) -/

/-- The lines of a region whose entries record tenants to recall: line and tenant. -/
def State.linesToRecall (s : State) (region : Nat) (tenant : Option Nat) : List (Nat × Nat) :=
  (s.garnet.entries.filter (fun e => decide (e.2.region = region))).flatMap (fun e =>
    ((s.holdersOf e.2).filter (fun t => tenant.isNone || decide (tenant = some t))).map (fun t => (e.2.line, t)))

/-- The tenants of a line that a recall asks for. -/
def recallTenants (l : List (Nat × Nat)) (line : Nat) : List Nat := (l.filter (fun x => decide (x.1 = line))).map (·.2)

/-- A block of four lines qualifies for one snoop to a tenant (R200). -/
def State.blockQualifies (s : State) (region : Nat) (l : List (Nat × Nat)) (line t : Nat) : Bool :=
  s.on (K.regionBlockSnoop region) &&
    (upTo 4).all (fun k => l.contains (line / 4 * 4 + k, t) && !s.lineBusy region (line / 4 * 4 + k))

/-- A line for which the recall in progress sends snoops is counted (R199). -/
def State.countRecall (s : State) (region : Nat) : State :=
  match s.garnet.recallRun with
  | some (r, l, n) => if r = region then { s with garnet := { s.garnet with recallRun := some (r, l, n + 1) } } else s
  | none => s

/-- The recall of one line begins; `blocks` are the tenants that a block snoop asks. A line that no host holds
any more needs none. -/
def State.recallLine (s : State) (region line : Nat) (tenants blocks : List Nat) : State :=
  match s.lineEntry region line with
  | none => s.recalled region line
  | some (_, e) =>
    let held := s.holdersOf e
    let ask := tenants.filter held.contains
    let t : Trans := { home := line % 8, region := region, line := line, goal := .recallLine, req := none, awaiting := ask,
                       holders := held, prior := e.state, snoopBeat := s.beat, blockOf := blocks }
    let s := s.beginTrans t .evicting
    let s := if ask.isEmpty then s else s.countRecall region
    let s := s.each ask (fun u x =>
      if blocks.contains x then (if line % 4 = 0 then u.sendSnoop (line % 8) region line x .biSnpInvBlk true else u)
      else u.sendSnoop (line % 8) region line x .biSnpInv true)
    s.proceed t

/-- Every line of the recall in progress that is not busy begins its recall. Log entry 25 (DEDUCED). -/
def State.startRecalls (s : State) : State :=
  match s.garnet.recallRun with
  | none => s
  | some (r, l, _) =>
    let lines := (l.map (·.1)).eraseDups
    let plan := (lines.filter (fun x => !s.lineBusy r x)).map (fun x =>
      (x, recallTenants l x, (recallTenants l x).filter (fun t => s.blockQualifies r l x t)))
    s.each plan (fun u x => if u.lineBusy r x.1 then u else u.recallLine r x.1 x.2.1 x.2.2)

/-- The checks of RegionRecall (R199). -/
def State.recallChecks (s : State) (args : List Byte) : CmdChecks :=
  { resource := if s.r (K.regionState (fieldAt args 0 1)) ≤ 1 then some 0x0502 else none
    range := if 63 < fieldAt args 1 1 && fieldAt args 1 1 ≠ 255 then some 0x0703 else none }

/-- REGION_RECALL: BISnpInv for every line that the region's entries record the named tenant as holding (R199). -/
def execRegionRecall (env : JdpEnv) (s : State) : Res :=
  effectOf env (fun s => s.trigger env 0x4012 (fun s args => s.recallChecks args)
    (fun s args =>
      let r := fieldAt args 0 1
      let t := if fieldAt args 1 1 = 255 then none else some (fieldAt args 1 1)
      let l := s.linesToRecall r t
      ({ s with garnet := { s.garnet with recallRun := some (r, l, 0) } }).startRecalls)) s

/-- REGION_RECALL_COMPLETE: every snoop has been answered; lines that were busy begin their recall now (R199). -/
def execRegionRecallComplete (s : State) : Res :=
  effect (fun s =>
    match s.garnet.recallRun with
    | none => s
    | some (_, [], n) =>
      ({ s with garnet := { s.garnet with recallRun := none } }).cmdDone 0x4012 (toBytes 4 n)
    | some _ => s.startRecalls) s

/-! ## Leaving (R146, R198) -/

/-- Every snoop that is outstanding to a tenant counts as answered, line invalid (R146, step 1). -/
def State.answerAllSnoops (s : State) (tenant : Nat) (region : Option Nat) : State :=
  (s.each (s.garnet.trans.filter (fun t => t.awaiting.contains tenant
      && (region.isNone || decide (region = some t.region)))) (fun u t =>
    match u.transOn t.region t.line with
    | some x => if x.awaiting.contains tenant then u.answerSnoop x tenant .i else u
    | none => u)).recallAllRetired

/-- A tenant is taken out of the entries of a home slice in pointer mode; a coarse bit stays (R146, step 2). -/
def State.sweepHome (s : State) (h tenant : Nat) (region : Option Nat) : State :=
  s.each (s.garnet.entries.filter (fun e => decide (e.1 / 262144 = h) && !e.2.coarse && e.2.sharers.contains tenant
      && (region.isNone || decide (region = some e.2.region)))) (fun u e =>
    let l := e.2.sharers.filter (fun t => decide (t ≠ tenant))
    let u := u.lostLine e.2.region e.2.line tenant
    if l.isEmpty && !u.lineBusy e.2.region e.2.line then u.freeGEntry e.1
    else u.putGEntry e.1 { e.2 with sharers := l })

/-- A tenant stops being a member of a COHERENT region (R198). Log entry 25 (DEDUCED). -/
def State.leaveRegion (s : State) (tenant region : Nat) : State :=
  (upTo 8).foldl (fun u h => u.sweepHome h tenant (some region)) (s.answerAllSnoops tenant (some region))

/-! ## The beat's records and the views (Tables 10-7, 10-9, 10-10) -/

/-- The row of HomeStats of the beat that ended. -/
def homeStatsRow (beat : Nat) (l : List Nat) : Nat :=
  let g (k : Nat) : Nat := l.getD k 0
  let a := ((beat % 2 ^ 48 * 2 ^ 32 + g 0 % 2 ^ 32) * 2 ^ 32 + g 1 % 2 ^ 32) * 2 ^ 32 + g 2 % 2 ^ 32
  let b := ((a * 65536 + g 3 % 65536) * 65536 + g 4 % 65536) * 65536 + g 5 % 65536
  ((b * 65536 + g 6 % 65536) * 65536 + g 7 % 65536) * 2 ^ 32

/-- The boundary: HomeStats and ReplacementsLastBeat describe the beat that ended. -/
def State.homeRecords (s : State) (ended : Nat) : State :=
  let s := (upTo 8).foldl (fun u h =>
    let l := Tbl.getD u.garnet.stats h (List.replicate 8 0)
    u.w (K.garnetHomeStats + h) (homeStatsRow ended (l.mapIdx (fun j x =>
      if j = 3 then max x (u.busyLines h) else if j = 4 then max x (u.conflict h).length else x)))) s
  let s := (upTo 256).foldl (fun u r =>
    u.w (K.regionReplacementsLastBeat r) (Tbl.getD u.garnet.replacements r 0)) s
  { s with garnet := { s.garnet with stats := [], replacements := [], thrashed := [] } }

/-- EntriesHeld of a region. -/
def State.entriesHeld (s : State) (r : Nat) : Nat :=
  (s.garnet.entries.filter (fun e => decide (e.2.region = r))).length

/-- Borrowed of a region: what it holds above its quota, over all home slices (R195). -/
def State.borrowed (s : State) (r : Nat) : Nat :=
  sumOf ((upTo 8).map (fun h => s.entriesIn h r - s.sliceQuota r))

/-- Busy entries: those whose line a transaction holds. -/
def State.entriesBusy (s : State) : Nat :=
  (s.garnet.entries.filter (fun e => s.lineBusy e.2.region e.2.line)).length

end Sys2Proof.Machine
end

