-- ==== Sys2Proof/Machine/Locks.lean ====
section
/-! DEFINITION. The line-lock tables of the migration engines (11): the engines' own requests, copy lines, and dual
writes to extents that are being moved. -/

namespace Sys2Proof.Machine

/-- 64-byte lines in an extent. -/
def extentLines : Nat := 262144

/-- The source number of engine n (Table 6-2). -/
def engineSrc (n : Nat) : Nat := 56 + n

/-- The port that requests for a target leave through; none where no port can be reached. -/
def State.portTo (s : State) (pid : Nat) : Option Nat := s.entryDest (setBits (setBits 0 63 61 1) 60 49 pid) false

/-- The device address of a line of an extent. -/
def lineAddr (extent line : Nat) : Nat := extent * extentBytes + line * 64

/-- A memory request, not an answer. -/
def Msg.isRequestMsg (m : Msg) : Bool := decide (m.cls = .memReq)

/-- The access of an engine's request (R252, Table 13-3). -/
def engineAccess (place : Nat × Nat × Nat) (line : Nat) (k : MsgKind) : Access :=
  let need : Perm := match k with | .memRd _ => { read := true } | _ => { write := true }
  { space := 0, target := place.1, ld := place.2.1, addr := lineAddr place.2.2 line, last := lineAddr place.2.2 line + 63,
    need := need }

/-- A request of an engine to a device: a read, or a write of `data`, of a line of an extent, with its downstream
tag, which carries the values of the host's write that a dual write's leg serves (R10, R260). Where no port can be reached nothing is
sent: a write leaves its extent POISONED, and the answer of R101 comes as the line's completion. Log entry 26 (DEDUCED). -/
def State.engineSend (s : State) (n j : Nat) (place : Nat × Nat × Nat) (line : Nat) (k : MsgKind) (data : Nat)
    (poison : Bool) (of : Option Msg) (acu : Nat) : State :=
  match s.portTo place.1 with
  | none => match k, of with
    | .memWr _, some _ => s.poisonNamed place.1 place.2.1 place.2.2
    | _, _ => s
  | some p =>
    let x : Msg :=
      { kind := k, cls := .memReq, tenant := (of.map (·.tenant)).getD 0, src := engineSrc n, dst := p, bytes := k.bytes,
        addr := lineAddr place.2.2 line, pid := place.1, ld := place.2.1, offset := line * 64, data := data, poison := poison,
        gen := (of.map (·.gen)).getD 0, port := (of.map (·.port)).getD 0, job := some j, acu := acu,
        epoch := if acu = 0 then 0 else s.r (K.acuEpoch (acu - 1)) }
    let (x, s) := match of with
      | some m => s.allocFor x m none (some j) false
      | none => s.allocTag x none (some j) false
    s.inject x

/-- A request of an engine that its unit checks: copy reads and writes, read-backs, fill writes and B legs of dual writes
(R252); whether it was refused, which fails the chunk in progress (R257). -/
def State.engineAsk (s : State) (n j : Nat) (place : Nat × Nat × Nat) (line : Nat) (k : MsgKind) (data : Nat)
    (poison : Bool) (of : Option Msg) : Bool × State :=
  match s.checkAccess (52 + n) (engineAccess place line k) true with
  | (some _, s) => (true, (s.count evRefusals 1 {}).modEngine n (fun e => { e with refused := true }))
  | (none, s) =>
    if (s.portTo place.1).isNone then (false, s.endAccess (52 + n) (s.r (K.acuEpoch (52 + n))))
    else (false, s.engineSend n j place line k data poison of (53 + n))

/-- The downstream tags of an engine's request to a line are freed by its completion. -/
def State.freeEngineTag (s : State) (n : Nat) (place : Nat × Nat × Nat) (line : Nat) : State :=
  let found := s.core.tags.filter (fun g =>
    g.2.job.isSome && decide (g.2.msg.src = engineSrc n) && decide (g.2.msg.pid = place.1) && decide (g.2.msg.ld = place.2.1)
      && decide (g.2.msg.addr = lineAddr place.2.2 line))
  let mine := found.map (·.1)
  let s := s.each (found.filter (fun g => decide (g.2.msg.acu ≠ 0))) (fun u g => u.endAccess (g.2.msg.acu - 1) g.2.msg.epoch)
  let tags := s.core.tags.filter (fun g => !mine.contains g.1)
  let s := { s with core := { s.core with tags := tags } }
  s.setInbox (8 + n) ((s.inbox (8 + n)).filter (fun m => match m.dtag with | some d => !mine.contains d || m.isRequestMsg | none => true))

/-- The extent that a MOVE job leaves: target, logical device, extent. -/
def State.jobFrom (s : State) (j : Nat) : Nat × Nat × Nat :=
  let e := (s.job j).before
  (entTarget e, entLd e, entExtent e)

/-- The extent that engine n writes for a job: a MOVE's destination, or the extent of a FILL that it works on. -/
def State.jobTo (s : State) (n j : Nat) : Nat × Nat × Nat :=
  let x := s.job j
  if x.fill then
    let e := s.entry (x.index + (s.engine n).extent)
    (entTarget e, entLd e, entExtent e)
  else (x.destTarget, x.destLd, x.destExtent)

/-- The lock of a line of a job. -/
def State.lockOf (s : State) (n j line : Nat) : Option LineLock :=
  (s.engine n).locks.find? (fun x => decide (x.job = j) && decide (x.line = line))

/-- A lock changed. -/
def State.setLock (s : State) (n : Nat) (l : LineLock) : State :=
  s.modEngine n (fun e => { e with locks := e.locks.map (fun x => if x.job = l.job && x.line = l.line then l else x) })

/-- A lock taken. -/
def State.addLock (s : State) (n : Nat) (l : LineLock) : State := s.modEngine n (fun e => { e with locks := e.locks ++ [l] })

/-- The lock serves a copy line. -/
def LineLock.isCopy (l : LineLock) : Bool := match l.use with | .copy _ => true | _ => false

/-- The lock serves a dual write, or an AtomicOp whose write will be one under it (R214, R220). -/
def LineLock.isDual (l : LineLock) : Bool := !l.isCopy

/-- Copy lines locked. -/
def State.copyLocks (s : State) (n : Nat) : Nat := ((s.engine n).locks.filter LineLock.isCopy).length

/-- Dual-write locks held. -/
def State.dualLocks (s : State) (n : Nat) : Nat := ((s.engine n).locks.filter LineLock.isDual).length

/-- `.0E LocksInUse`. -/
def State.locksInUse (s : State) (n : Nat) : Nat := (s.engine n).locks.length

/-- The line of a COHERENT region that a line of a job's extent is: region and region line (R219). -/
def State.coherentLine (s : State) (j line : Nat) : Option (Nat × Nat) :=
  let x := s.job j
  let e := s.entry x.index
  if !x.fill && entInRegion e && s.r (K.regionClass (entRegion e)) = 1 then
    some (entRegion e, rrOffset (s.r (K.berylRegionRunTable + entRegion e)) x.index * extentLines + line)
  else none

/-! ## Copy lines (R215, R219) -/

/-- The lock of a line of a job removed. -/
def State.dropLock (s : State) (n j line : Nat) : State :=
  s.modEngine n (fun e => { e with locks := e.locks.filter (fun x => !(decide (x.job = j) && decide (x.line = line))) })

/-- Memory writes of homes that waited for a line's copy lock are translated and sent (R12, R192). -/
def State.sendHeld (s : State) (region line : Nat) : State :=
  let mine (m : Msg) : Bool := decide (m.region = some region) && decide (m.offset / 64 = line)
  let l := s.garnet.heldWrites.filter mine
  let s := { s with garnet := { s.garnet with
    jasperLocks := s.garnet.jasperLocks.filter (fun (x : Nat × Nat) => decide (x ≠ (region, line)))
    heldWrites := s.garnet.heldWrites.filter (fun m => !mine m) } }
  s.each l State.sendHomeWrite

/-- A line's lock is released, at its home too where one granted it (R215, R219). -/
def State.releaseLine (s : State) (n j line : Nat) : State :=
  let s := s.dropLock n j line
  match s.coherentLine j line with
  | some (r, x) => if s.garnet.jasperLocks.contains (r, x) then s.sendHeld r x else s
  | none => s

/-- The engine takes the lock of its next line and sends the line's first request: a read of A, or for a FILL a write of
zeros; a refused one leaves no lock (R257). -/
def State.lockLine (s : State) (n j line : Nat) : State :=
  let s := s.modEngine n (fun e => { e with nextLine := line + 1, asked := none })
  let fill := (s.job j).fill
  let s := s.addLock n { job := j, line := line, use := .copy (ofBool fill) }
  match s.engineAsk n j (if fill then s.jobTo n j else s.jobFrom j) line (if fill then .memWr .invalid else .memRd .invalid)
      0 false none with
  | (true, s) => s.releaseLine n j line
  | (false, s) => s

/-- Lines of its chunk that the engine may have begun by now: CopyRate caps the bytes it copies, and one line may always begin
(R215, R229). Log entry 26 (DEDUCED). -/
def State.copyBudget (s : State) (n : Nat) : Nat :=
  let ns := (s.clock - (s.engine n).startedAt + 1) * s.quartz.period / 1024
  max 1 (ns * s.r (K.engineCopyRate n) / 1000 / 64)

/-- The engine locks lines of its chunk in ascending order, while fewer than 1,024 are locked and CopyRate allows,
and until one has to wait: for a lock, or for the grant of a home. -/
def State.issueLines (s : State) (n j : Nat) : Nat → State
  | 0 => s
  | fuel + 1 =>
    let e := s.engine n
    if !e.running || e.refused || e.endLine ≤ e.nextLine || 1024 ≤ s.copyLocks n || e.asked.isSome
        || decide (s.copyBudget n ≤ e.nextLine - e.firstLine) || (s.lockOf n j e.nextLine).isSome then s
    else
      match s.coherentLine j e.nextLine with
      | some _ => (s.modEngine n (fun x => { x with asked := some e.nextLine })).emit (.copyLock n e.nextLine)
      | none => (s.lockLine n j e.nextLine).issueLines n j fuel

/-- The engine goes on with its chunk. -/
def State.copyOn (s : State) (n : Nat) : State :=
  match (s.engine n).job with
  | some j => s.issueLines n j 1024
  | none => s

/-! ## Dual writes (R214, R221, R224, R225) -/

/-- The answer of an engine to the sender of a write: the requester's port, a home slice or the atomic engine. -/
def State.engineAnswer (s : State) (n : Nat) (m : Msg) : State :=
  if m.src < 48 then
    (s.finish m).inject { kind := .ndrCmp, cls := .memRsp, tenant := m.tenant, src := engineSrc n, dst := m.port,
                          vmd := m.vmd, hostTag := m.hostTag, addr := m.addr, gen := m.gen, bindGen := m.bindGen,
                          port := m.port, sample := m.sample }
  else
    s.inject { kind := .ndrCmp, cls := .memRsp, tenant := m.tenant, src := engineSrc n, dst := m.src + 48, dtag := m.dtag,
               addr := m.addr, gen := m.gen, port := m.port }

/-- The device extent that a write names: target, logical device, extent. -/
def msgExtent (m : Msg) : Nat × Nat × Nat := (m.pid, m.ld, m.addr / extentBytes)

/-- The line that a write names within its extent. -/
def msgLine (m : Msg) : Nat := m.addr % extentBytes / 64

/-- The B leg is written: not once the destination is lost or the job has ended without its commit (R225). Log entry 26
(DEDUCED). -/
def Job.writesB (j : Job) : Bool := j.reason ≠ .destLost && j.state ≠ .failed && j.state ≠ .free

/-- A dual write that holds its line's lock goes to A and to B. -/
def State.dualLegs (s : State) (n j : Nat) (m : Msg) : State :=
  let b := (s.job j).writesB
  let l : LineLock := { job := j, line := msgLine m, use := .dual false (!b), msg := some m }
  let s := if (s.lockOf n j (msgLine m)).isSome then s.setLock n l else s.addLock n l
  let s := s.engineSend n j (msgExtent m) (msgLine m) (.memWr .invalid) m.data m.poison (some m) 0
  if b then
    match s.engineAsk n j ((s.job j).destTarget, (s.job j).destLd, (s.job j).destExtent) (msgLine m) (.memWr .invalid)
        m.data m.poison (some m) with
    | (true, s) => s.setLock n { l with use := .dual false true }
    | (false, s) => s
  else s

/-- A write takes its line's lock and goes out; once the source target is lost it is answered as a request that reaches a
POISONED entry instead (R214, R224). -/
def State.startDual (s : State) (n j : Nat) (m : Msg) : State :=
  if (s.job j).state = .failed && (s.job j).reason = .sourceLost then
    ((s.bump K.berylPoisonAnswers 1).count evPoison 1 { tenant := some m.tenant }).engineAnswer n m
  else s.dualLegs n j m

/-- A write waits at the engine for this line of the job. -/
def State.dualWaits (s : State) (n j line : Nat) : Bool :=
  (s.engine n).waiting.any (fun x => decide (x.1 = line) && decide (x.2.job = some j))

/-- Waiting writes whose line is free start in arrival order while dual-write locks are left; stale ones are discarded (R145,
R214). -/
def State.wakeDuals (s : State) (n : Nat) : State :=
  (s.engine n).waiting.foldl (fun u x =>
    let j := x.2.job.getD 0
    if x.2.src < 48 && u.staleMsg x.2 then u.discardQueued x.2
    else if (u.lockOf n j x.1).isSome || 1024 ≤ u.dualLocks n || u.dualWaits n j x.1 then
      u.modEngine n (fun e => { e with waiting := e.waiting ++ [x] })
    else u.startDual n j x.2) (s.modEngine n (fun e => { e with waiting := [] }))

/-- A line is unlocked: what waits for it starts, in arrival order, and the copy goes on. -/
def State.unlock (s : State) (n j line : Nat) : State :=
  ((s.releaseLine n j line).wakeDuals n).copyOn n

/-- A write at an engine, not yet started. -/
def Msg.isWrite (m : Msg) : Bool := match m.kind with | .memWr _ => true | _ => false

/-- The write of the atomic engine whose line that engine has locked: it is a dual write under that lock (R220). -/
def State.underLock (s : State) (n : Nat) (m : Msg) : Bool :=
  m.src = 60 && (s.lockOf n (m.job.getD 0) (msgLine m)).any (fun l => decide (l.use = .atomic))

/-- DUAL_WRITE: a write to a MIGRATING extent takes its line's lock and goes to A and to B, or waits for the lock; with
no dual-write lock free it stays in the engine's queue (R214). -/
def execDualWrite (engine : EngineId) (s : State) : Res :=
  effect (fun s =>
    let n := engine.val
    if !s.forwarding then s
    else
      match s.takeInbox (8 + n) (fun m => m.isWrite && (decide (s.dualLocks n < 1024) || s.underLock n m)) with
      | none => s
      | some (m, s) =>
        let j := m.job.getD 0
        if m.src < 48 && s.staleMsg m then s.discardQueued m
        else if (s.job j).state = .failed && (s.job j).reason = .sourceLost then s.startDual n j m
        else
          let s := (s.bump (K.engineDualWrites n) 1).count evDualWrites 1 { tenant := some m.tenant }
          match s.lockOf n j (msgLine m) with
          | none =>
            if s.dualWaits n j (msgLine m) then
              s.modEngine n (fun e => { e with waiting := e.waiting ++ [(msgLine m, m)] })
            else s.dualLegs n j m
          | some l =>
            if l.use = .atomic && m.src = 60 then s.dualLegs n j m
            else
              (s.bump (K.engineLockWaits n) 1).modEngine n (fun e => { e with waiting := e.waiting ++ [(msgLine m, m)] })) s

end Sys2Proof.Machine
end

