-- ==== Sys2Proof/Machine/Atomic.lean ====
section
/-! DEFINITION. The atomic engine (R202, R203, R220): AtomicOps to lines outside COHERENT regions. -/

namespace Sys2Proof.Machine

/-- The key of a device line: target, logical device and line. -/
def deviceLine (m : Msg) : Nat := (m.pid * 16 + m.ld) * 2 ^ 58 + m.addr / 64

/-- AtomicLocksInUse. -/
def State.atomicLocks (s : State) : Nat := s.atomic.locks.length

/-- Where the atomic engine's request for a line goes: to the output port of its target, or for a write to a MIGRATING extent to its
Jasper engine (R220). -/
def State.atomicDest (s : State) (m : Msg) (write : Bool) : Option Nat :=
  let moving : Option Nat := match m.job with
    | some j => if (s.job j).state ≠ .free && (s.job j).state ≠ .failed then some j else none
    | none => none
  s.entryDest (match moving with
    | some j => setBits (setBits (setBits 0 63 61 3) 13 4 j) 60 49 m.pid
    | none => setBits (setBits 0 63 61 1) 60 49 m.pid) write

/-- A request of the atomic engine to memory. Where no port can be reached nothing is sent, and a write leaves its extent POISONED
(R101, R220). Log entry 26 (DEDUCED). -/
def State.atomicMemory (s : State) (m : Msg) (k : MsgKind) (data : Nat) : MemAsk × State :=
  let write := match k with | .memWr _ => true | _ => false
  let x := { m with kind := k, cls := .memReq, src := 60, bytes := k.bytes, data := data, vmd := none, acu := 0,
                    sample := none, dtag := none, head := [], ecrc := [] }
  match s.atomicDest m write with
  | none => (.lost, s.poisonLost x)
  | some d =>
    let (x, s) := s.allocFor { x with dst := d } m none none true
    (.asked (x.dtag.getD 0), s.inject x)

/-- The Completion of an AtomicOp, from the atomic engine. -/
def State.atomicAnswer (s : State) (m : Msg) (poison : Bool) (data : Nat) : State :=
  let s := s.finish m
  s.inject { kind := .cplData, cls := .ioCpl, tenant := m.tenant, src := 60, dst := m.port,
             bytes := answerBytes .cplData m, vmd := m.vmd, hostTag := m.hostTag, data := data, poison := poison,
             gen := m.gen, bindGen := m.bindGen, port := m.port, sample := m.sample }

/-- The job and the engine of the MIGRATING extent that a request names. -/
def State.movingLine (s : State) (m : Msg) : Option (Nat × Nat) :=
  match m.job with
  | none => none
  | some j =>
    match (s.job j).engines with
    | n :: _ => some (n, j)
    | [] => none

/-- A Jasper lock holds the line (R220). -/
def State.jasperHolds (s : State) (m : Msg) : Bool :=
  match s.movingLine m with
  | none => false
  | some (n, j) => (s.lockOf n j (msgLine m)).isSome

/-- The Jasper lock that an AtomicOp still holds is released; one that became a dual write's is not (R220). -/
def State.dropAtomicLock (s : State) (m : Msg) : State :=
  s.each (upTo 4) (fun u n =>
    match u.lockOf n (m.job.getD 1024) (msgLine m) with
    | some l => if l.use = .atomic then u.unlock n l.job l.line else u
    | none => u)

/-- The AtomicOp's line is unlocked in the engine's own table. -/
def State.freeAtomic (s : State) (m : Msg) : State :=
  { s with atomic := { s.atomic with locks := s.atomic.locks.filter (fun (x : Nat × Msg) => decide (x.1 ≠ deviceLine m)) } }

/-- The engine locks a line, in Jasper's table too where its extent is being moved, and reads it; a read that no port takes returns
poisoned data (R101, R202, R203, R220). -/
def State.atomicBegin (s : State) (m : Msg) : State :=
  let s := match s.movingLine m with
    | some (n, j) => s.addLock n { job := j, line := msgLine m, use := .atomic }
    | none => s
  let s := { s with atomic := { s.atomic with locks := s.atomic.locks ++ [(deviceLine m, m)] } }
  match s.atomicMemory m (.memRd .invalid) 0 with
  | (.asked _, s) => s
  | (_, s) => ((s.dropAtomicLock m).freeAtomic m).atomicAnswer m true 0

/-- A line is locked in the atomic engine. -/
def State.atomicLocked (s : State) (line : Nat) : Bool := s.atomic.locks.any (fun x => decide (x.1 = line))

/-- An AtomicOp has to wait: for its line, for a place in the table, or for Jasper's lock of the line or a place in Jasper's table
(R202, R214, R220). -/
def State.atomicHeld (s : State) (m : Msg) : Bool :=
  s.atomicLocked (deviceLine m) || decide (4096 ≤ s.atomicLocks) || s.jasperHolds m
    || (match s.movingLine m with | some (n, _) => decide (1024 ≤ s.dualLocks n) | none => false)

/-- Another AtomicOp waits for the same line. -/
def State.atomicQueued (s : State) (m : Msg) : Bool := s.atomic.waiting.any (fun x => decide (deviceLine x = deviceLine m))

/-- An AtomicOp. -/
def Msg.isAtomic (m : Msg) : Bool := match m.kind with | .atomic _ => true | _ => false

/-- ATOMIC_ENGINE_REQUEST: an AtomicOp taken by the engine locks its line and is read, or waits for the lock behind those that came
before it (R202, R220). -/
def execAtomicEngineRequest (s : State) : Res :=
  effect (fun s =>
    if !s.forwarding then s
    else
      match s.takeInbox 12 Msg.isAtomic with
      | none => s
      | some (m, s) =>
        let s := s.count evAtomics 1 { tenant := some m.tenant }
        if s.staleMsg m then s.discardQueued m
        else if s.atomicHeld m || s.atomicQueued m then
          { s with atomic := { s.atomic with waiting := s.atomic.waiting ++ [m] } }
        else s.atomicBegin m) s

/-- Waiting AtomicOps whose line is free begin, in order of arrival. -/
def State.atomicNext (s : State) : State :=
  s.atomic.waiting.foldl (fun u m =>
    if u.staleMsg m then u.discardQueued m
    else if u.atomicHeld m || u.atomicQueued m then
      { u with atomic := { u.atomic with waiting := u.atomic.waiting ++ [m] } }
    else u.atomicBegin m) { s with atomic := { s.atomic with waiting := [] } }

/-- An AtomicOp ends: the line is unlocked and the Completion returned. -/
def State.atomicEnd (s : State) (m : Msg) (poison : Bool) (data : Nat) : State :=
  (((s.dropAtomicLock m).freeAtomic m).atomicAnswer m poison data).atomicNext

/-- ATOMIC_READ_COMPLETION: the operation is performed and its result written; poisoned data writes nothing (R202,
R203). -/
def execAtomicReadCompletion (dtag : Nat) (data : Nat) (poisoned : Bool) (s : State) : Res :=
  effect (fun s =>
    match Tbl.find s.core.tags dtag with
    | none => s
    | some g =>
      let m := g.writer.getD g.msg
      match g.atomic, m.kind with
      | true, .atomic a =>
        let s := s.freeTag dtag
        if poisoned then s.atomicEnd m true (atomicOld a data)
        else
          match s.atomicMemory { m with data := atomicOld a data } (.memWr .invalid) (atomicLine a data) with
          | (.asked _, s) => s
          | (_, s) => s.atomicEnd m false (atomicOld a data)
      | _, _ => s) s

/-- ATOMIC_WRITE_COMPLETION: the line is unlocked, and the Completion carries the original value (R202). -/
def execAtomicWriteCompletion (dtag : Nat) (s : State) : Res :=
  effect (fun s =>
    match Tbl.find s.core.tags dtag with
    | none => s
    | some g =>
      if g.atomic then
        let s := s.setInbox 12 ((s.inbox 12).filter (fun m => decide (m.dtag ≠ some dtag)))
        let m := g.writer.getD g.msg
        (s.freeTag dtag).atomicEnd m false m.data
      else s) s

end Sys2Proof.Machine
end

