-- ==== Sys2Proof/Machine/Jasper.lean ====
section
/-! DEFINITION. The migration engines (11): jobs, patches at the cut-off and the boundary, chunks, verification, release,
and the loss of a device or an engine. -/

namespace Sys2Proof.Machine

/-! ## Job records (Tables 11-2 and 11-6) -/

/-- The job has not ended. -/
def Job.active (j : Job) : Bool := match j.state with | .free => false | .done => false | .failed => false | _ => true

/-- State by number (Table 11-6). Log entry 51 (DEDUCED). -/
def JobState.num : JobState → Nat
  | .free => 0 | .pending => 1 | .armStaged => 2 | .copying => 3 | .commitStaged => 4 | .disarmStaged => 5 | .done => 6
  | .failed => 7

/-- Reason by number. -/
def JobReason.num : JobReason → Nat
  | .none => 0 | .cancelled => 1 | .verify => 2 | .sourceLost => 3 | .destLost => 4

/-- EngineMask: the engines that serve the job. -/
def Job.mask (j : Job) : Nat := if j.active then j.engines.foldl (fun m n => setBits m n n 1) 0 else 0

/-- The row of `0x4810 JobTable` (Table 11-6). -/
def Job.row (j : Job) : Nat :=
  let r := setBits (setBits 0 255 253 j.state.num) 252 251
    (if j.state = .free then 0 else if j.fill then 2 else 1)
  let r := setBits (setBits (setBits (setBits r 250 250 (ofBool j.urgent)) 249 246 j.mask) 245 242 j.reason.num)
    241 239 j.chunkCode
  let r := setBits (setBits (setBits (setBits r 235 214 j.index) 213 195 j.count) 194 183 j.destTarget) 182 179 j.destLd
  let r := setBits (setBits (setBits r 178 157 j.destExtent) 156 138 j.done) 137 90 j.createdAt
  setBits (setBits r 89 42 j.endedAt) 41 38 j.mismatches

/-- `0x4808.01 JobsPending`. -/
def State.jobsPending (s : State) : Nat := (s.jasper.jobs.filter (fun j => decide (j.2.state = .pending))).length

/-- `0x4808.02 JobsActive`: states ARM_STAGED to DISARM_STAGED. -/
def State.jobsActive (s : State) : Nat :=
  (s.jasper.jobs.filter (fun j => j.2.active && decide (j.2.state ≠ .pending))).length

/-- `.01 EngineState` (Table 11-4): 0 IDLE, 1 SETTLING, 2 COPYING, 3 WAITING, 4 SUSPENDED, 5 RETIRED. -/
def State.engineMode (s : State) (n : Nat) : Nat :=
  let e := s.engine n
  if e.retired then 5
  else
    match e.job with
    | none => if s.beatState = .beatless then 4 else 0
    | some j =>
      if s.beatState = .beatless then 4
      else if (s.job j).state ≠ .copying then 0
      else if e.verified then 3
      else if !(s.job j).fill && !e.settled then 1 else 2

/-! ## Creating and cancelling (R208, R209, R227) -/

/-- The extent of a JobCreate block, with the lowest FREE one where it asks for that. -/
def State.jobDest (s : State) (args : List Byte) : Option Nat :=
  let pid := fieldAt args 4 2
  let ld := fieldAt args 6 1
  if fieldAt args 8 4 = 0xFFFFFFFF then (s.drawExtents pid ld 1).bind (·.head?) else some (fieldAt args 8 4)

/-- The entry is named by a job that has not ended. -/
def State.jobNames (s : State) (i : Nat) : Bool :=
  s.jasper.jobs.any (fun j => j.2.active && decide (j.2.index ≤ i) && decide (i < j.2.index + j.2.count))

/-- The checks of JobCreate (R208). -/
def State.jobChecks (s : State) (args : List Byte) : CmdChecks :=
  let i := fieldAt args 0 4
  let pid := fieldAt args 4 2
  let ld := fieldAt args 6 1
  let e := s.entry i
  { resource :=
      if 4194303 < i then none
      else if (s.runOf i).isNone || (entState e ≠ 1 && entState e ≠ 2) || s.jobNames i then some 0x0502 else none
    range := firstOf [if 4194303 < i then some 0x0702 else none,
      if 4095 < pid then some 0x0702 else none, if 15 < ld then some 0x0702 else none,
      if 5 < fieldAt args 7 1 && fieldAt args 7 1 ≠ 255 then some 0x0703 else none,
      if 1 < fieldAt args 12 1 then some 0x0702 else none,
      if fieldAt args 13 3 ≠ 0 then some 0x0702 else none,
      if s.capacity pid ld = 0 then some 0x0704 else none,
      match s.jobDest args with
      | none => some 0x0704
      | some x =>
        if s.capacity pid ld ≤ x || s.refs pid ld x ≠ 0 || s.extentPoisoned pid ld x || s.extentHeld pid ld x
            || (entTarget e = pid && entLd e = ld && entExtent e = x) then some 0x0704 else none] }

/-- JOB_CREATE: the job is PENDING and holds its destination extent (R208, R209). -/
def execJobCreate (env : JdpEnv) (s : State) : Res :=
  effectOf env (fun s => s.trigger env 0x4820 (fun s args => s.jobChecks args)
    (fun s args =>
      match s.takeRecord, s.jobDest args with
      | some j, some x =>
        let code := if fieldAt args 7 1 = 255 then 4 else fieldAt args 7 1
        (s.modJob j (fun _ =>
          { state := .pending, urgent := fieldAt args 12 1 = 1, chunkCode := code, code := code,
            index := fieldAt args 0 4, count := 1, destTarget := fieldAt args 4 2, destLd := fieldAt args 6 1,
            destExtent := x, createdAt := s.beat })).cmdDone 0x4820 (toBytes 2 j)
      | _, _ => s.cmdFailed 0x4820 0x0A01)) s

/-- The job-failed source of the job's first engine reports a job lost to a check or a device (R223 to R225, Table 11-7). -/
def State.reportFailed (s : State) (j : Nat) (why : JobReason) : State :=
  let lost := match why with | .verify => true | .sourceLost => true | .destLost => true | _ => false
  match (s.job j).engines with
  | n :: _ => if lost then s.occurOf (Src.engine n 2) j else s
  | [] => s

/-- The JobCancel that waits for a job ends DONE once the job reads FAILED, and FAILED if the job has committed. -/
def State.endCancel (s : State) (j : Nat) : State :=
  if s.jasper.cancelling = some j then
    let s := { s with jasper := { s.jasper with cancelling := none } }
    if (s.job j).state = .done then s.cmdFailed 0x4821 0x0001 else s.cmdDone 0x4821 []
  else s

/-- A job ends FAILED: it is reported, its hold is released, its engines leave it. -/
def State.failJob (s : State) (j : Nat) (why : JobReason) : State :=
  (((s.reportFailed j why).leaveJob j).endJob j false why).endCancel j

/-- A MOVE job is to be reverted: DISARM_STAGED, and no engine copies it (R223, R225, R227). -/
def State.disarm (s : State) (j : Nat) (why : JobReason) (again : Bool) : State :=
  (s.leaveJob j).modJob j (fun x => { x with state := .disarmStaged, reason := why, held := false, again := again })

/-- The checks of JobCancel (R210, R227). -/
def State.cancelChecks (s : State) (args : List Byte) : CmdChecks :=
  let j := fieldAt args 0 2
  { resource := if j < 1024 && ((s.job j).fill || (s.job j).state = .free) then some 0x0502 else none
    range := if 1023 < j then some 0x0702 else none }

/-- JOB_CANCEL (R227). -/
def execJobCancel (env : JdpEnv) (s : State) : Res :=
  effectOf env (fun s => s.trigger env 0x4821 (fun s args => s.cancelChecks args)
    (fun s args =>
      let j := fieldAt args 0 2
      let x := s.job j
      match x.state with
      | .pending => (s.failJob j .cancelled).cmdDone 0x4821 []
      | .armStaged => (s.failJob j .cancelled).cmdDone 0x4821 []
      | .copying => { (s.disarm j .cancelled false) with jasper := { (s.disarm j .cancelled false).jasper with
          cancelling := some j } }
      | .commitStaged =>
        if x.held then s.cmdFailed 0x4821 0x0001
        else { (s.disarm j .cancelled false) with jasper := { (s.disarm j .cancelled false).jasper with
          cancelling := some j } }
      | .disarmStaged =>
        let s := s.modJob j (fun y => { y with
          again := false, reason := if y.reason = .none then .cancelled else y.reason })
        { s with jasper := { s.jasper with cancelling := some j } }
      | .done => s.cmdFailed 0x4821 0x0001
      | _ => s.cmdDone 0x4821 [])) s

/-- The engines stand still: the device is in SAFE (R281). -/
def State.enginesStand (s : State) : Bool := s.device = .safe

/-! ## Chunks (R213, R215, R216, R222, R223) -/

/-- Bytes of a chunk of a code. -/
def chunkBytes (code : Nat) : Nat := 262144 * 2 ^ code

/-- The size of the chunk at an offset: not beyond the extent's end. -/
def chunkAt (code offset : Nat) : Nat := min (chunkBytes code) (extentBytes - offset)

/-- No downstream tag on a target's output slices is older than a boundary (R213, R218). -/
def State.tagsGone (s : State) (pid beat : Nat) : Bool :=
  match s.portTo pid with
  | none => true
  | some p => !s.core.tags.any (fun g => decide (sliceOf g.2.outPort = sliceOf p) && decide (g.2.allocBeat < beat))

/-- A request that was translated before a MOVE job armed its entry is on its way: it names the source extent, and no job. It takes
its tag as it leaves the ingress or the atomic engine (R213). -/
def State.beforeArm (s : State) (j : Nat) : Bool :=
  let x := s.jobFrom j
  let named (m : Msg) : Bool := m.cls.isRequest && decide (m.job = none) && m.dtag.isNone && decide ((m.pid, m.ld, m.addr / extentBytes) = x)
  s.travelling.any named || s.core.tags.any (fun g => g.2.writer.any named)

/-- ARM_SETTLED: no downstream tag of the source target's slices is older than the arm, and every request translated before it has
completed (R213). -/
def execArmSettled (engine : EngineId) (s : State) : Res :=
  effect (fun s =>
    let n := engine.val
    match (s.engine n).job with
    | none => s
    | some j =>
      if !s.enginesStand && (s.job j).state = .copying && !(s.job j).fill && s.tagsGone (s.jobFrom j).1 (s.job j).armedAt
          && !s.beforeArm j then
        s.modEngine n (fun e => { e with settled := true })
      else s) s

/-- The chunk has not verified: it is copied again from the saved running values (R223). -/
def State.chunkMismatch (s : State) (n j : Nat) : State :=
  let e := s.engine n
  let s := (s.w (K.engineRunningCrcA n) e.savedA).w (K.engineRunningCrcB n) e.savedB
  let s := (s.bump (K.engineMismatches n) 1).modEngine n (fun e => { e with running := false, refused := false })
  let s := (s.modJob j (fun x => { x with mismatches := x.mismatches + 1 })).occurOf (Src.engine n 1) j
  if s.r K.jasperMismatchLimit ≤ (s.job j).mismatches then
    if (s.job j).fill then
      (s.modJob j (fun x => { x with engines := n :: x.engines.filter (fun k => decide (k ≠ n)) })).failJob j .verify
    else s.disarm j .verify false
  else s

/-- A chunk of which an access was refused fails as one that does not verify (R257); an access refused while no chunk is in
progress fails none. Log entry 26 (DEDUCED). -/
def State.endRefused (s : State) (n : Nat) : State :=
  match (s.engine n).job with
  | some j => if (s.engine n).refused && (s.engine n).running then s.chunkMismatch n j else s
  | none => s

/-- CHUNK_START: the beat's chunk begins, from its first line (R215, R216, R228). Log entry 26 (DEDUCED). -/
def execChunkStart (engine : EngineId) (s : State) : Res :=
  effect (fun s =>
    let n := engine.val
    let e := s.engine n
    match e.job with
    | none => s
    | some j =>
      let x := s.job j
      let ready := x.state = .copying && !e.running && !e.had && !e.retired && !e.copied && s.copyLocks n = 0
        && s.beatState ≠ .beatless && !s.jasper.suspended && s.forwarding && !s.quartz.cutoffDone
        && (if x.fill then entState (s.entry (x.index + e.extent)) ≠ 0 else e.settled)
      if ready then
        let off := s.r (K.engineChunkOffset n)
        let size := chunkAt x.code off
        let s := (s.w (K.engineChunkSize n) size).modEngine n (fun e =>
          { e with firstLine := off / 64, startedAt := s.clock, nextLine := off / 64, endLine := (off + size) / 64, foldA := off / 64, foldB := off / 64,
                   poisonAgree := true, savedA := s.r (K.engineRunningCrcA n), savedB := s.r (K.engineRunningCrcB n),
                   readA := [], readB := [], refused := false, running := true, had := true })
        (s.copyOn n).endRefused n
      else s) s

/-- The lines that follow in order enter a running value (R216): its value, the next line, and the lines left. -/
def foldLines : Nat → Nat → Nat → Tbl Nat → Nat × Nat × Tbl Nat
  | 0, crc, next, l => (crc, next, l)
  | fuel + 1, crc, next, l =>
    match Tbl.find l next with
    | none => (crc, next, l)
    | some d => foldLines fuel (crc64Run crc (toBytes 64 d).reverse) (next + 1) (Tbl.del l next)

/-- A line as read from A enters the first running value. -/
def State.foldA (s : State) (n line data : Nat) : State :=
  let e := s.engine n
  let l := Tbl.put e.readA line data
  let (c, next, l) := foldLines (l.length + 1) (s.r (K.engineRunningCrcA n)) e.foldA l
  (s.w (K.engineRunningCrcA n) c).modEngine n (fun e => { e with readA := l, foldA := next })

/-- A line as read back from B enters the second running value. -/
def State.foldB (s : State) (n line data : Nat) : State :=
  let e := s.engine n
  let l := Tbl.put e.readB line data
  let (c, next, l) := foldLines (l.length + 1) (s.r (K.engineRunningCrcB n)) e.foldB l
  (s.w (K.engineRunningCrcB n) c).modEngine n (fun e => { e with readB := l, foldB := next })

/-- The line is one of the chunk in progress. -/
def EngineSt.inChunk (e : EngineSt) (line : Nat) : Bool := e.running && decide (line < e.endLine) && decide (e.foldB ≤ line)

/-- COPY_READ_COMPLETION: the line's data goes to B, poisoned if it came poisoned (R215). -/
def execCopyReadCompletion (engine : EngineId) (line data : Nat) (poisoned : Bool) (s : State) : Res :=
  effect (fun s =>
    let n := engine.val
    match (s.engine n).locks.find? (fun x => !s.enginesStand && decide (x.line = line) && decide (x.use = .copy 0)) with
    | none => s
    | some l =>
      let s := s.freeEngineTag n (s.jobFrom l.job) line
      let s := s.setLock n { l with use := .copy 1, data := data % 2 ^ 512, poisonA := poisoned }
      let s := if poisoned then s.bump (K.enginePoisonedLinesCopied n) 1 else s
      let s := if (s.engine n).inChunk line then s.foldA n line (data % 2 ^ 512) else s
      if (s.job l.job).writesB then
        match s.engineAsk n l.job (s.jobTo n l.job) line (.memWr .invalid) (data % 2 ^ 512) poisoned none with
        | (true, s) => ((s.unlock n l.job line).atomicNext).endRefused n
        | (false, s) => s
      else (s.unlock n l.job line).atomicNext) s

/-- COPY_WRITE_COMPLETION: the line is read back from B (R215). -/
def execCopyWriteCompletion (engine : EngineId) (line : Nat) (s : State) : Res :=
  effect (fun s =>
    let n := engine.val
    match (s.engine n).locks.find? (fun x => !s.enginesStand && decide (x.line = line) && decide (x.use = .copy 1)) with
    | none => s
    | some l =>
      let s := (s.freeEngineTag n (s.jobTo n l.job) line).setLock n { l with use := .copy 2 }
      match s.engineAsk n l.job (s.jobTo n l.job) line (.memRd .invalid) 0 false none with
      | (true, s) => ((s.unlock n l.job line).atomicNext).endRefused n
      | (false, s) => s) s

/-- A FILL extent is finished: the engine is free, and the job is DONE with its last extent (R210, R211). -/
def State.extentFilled (s : State) (n j : Nat) : State :=
  let s := (s.modJob j (fun x => { x with done := x.done + 1, engines := x.engines.filter (fun k => decide (k ≠ n)) })).idleEngine n
  if (s.job j).done = (s.job j).count then (s.endJob j true .none).fillDone j else s

/-- The chunk has verified (R216): the engine goes on with the next one in the next beat, or its extent is done. -/
def State.chunkVerified (s : State) (n j : Nat) : State :=
  let off := s.r (K.engineChunkOffset n)
  let size := s.r (K.engineChunkSize n)
  let s := ((s.bump (K.engineChunksVerified n) 1).bump (K.engineBytesCopied n) size).count evCopyBytes size {}
  let s := s.modJob j (fun x => { x with mismatches := 0 })
  let s := (s.modEngine n (fun e => { e with running := false, verified := true })).w (K.engineChunkOffset n) (off + size)
  if off + size < extentBytes then s
  else if (s.job j).fill then s.extentFilled n j
  else (s.modJob j (fun x => { x with done := 1 })).modEngine n (fun e => { e with copied := true })

/-- COPY_LINE_READBACK: the lock is released; the chunk's last read-back decides whether it verifies (R215, R216). -/
def execCopyLineReadback (engine : EngineId) (line data : Nat) (poisoned : Bool) (s : State) : Res :=
  effect (fun s =>
    let n := engine.val
    match (s.engine n).locks.find? (fun x => !s.enginesStand && decide (x.line = line) && decide (x.use = .copy 2)) with
    | none => s
    | some l =>
      let j := l.job
      let mine := (s.engine n).inChunk line && decide ((s.engine n).job = some j)
      let s := s.freeEngineTag n (s.jobTo n j) line
      let s := if mine then
          (s.foldB n line (data % 2 ^ 512)).modEngine n (fun e => { e with poisonAgree := e.poisonAgree && decide (l.poisonA = poisoned) })
        else s
      let s := (s.unlock n j line).atomicNext
      let e := s.engine n
      if mine && e.running && decide (e.foldB = e.endLine) then
        if s.r (K.engineRunningCrcA n) = s.r (K.engineRunningCrcB n) && e.poisonAgree && !e.refused then s.chunkVerified n j
        else s.chunkMismatch n j
      else s.endRefused n) s

/-- DUAL_WRITE_COMPLETION: with both legs complete one NDR Cmp is returned and the lock is released (R214). -/
def execDualWriteCompletion (engine : EngineId) (line : Nat) (legA legB : Bool) (s : State) : Res :=
  effect (fun s =>
    let n := engine.val
    match (s.engine n).locks.find? (fun x => !s.enginesStand && decide (x.line = line) && x.isDual) with
    | none => s
    | some l =>
      match l.use, l.msg with
      | .dual a b, some m =>
        let s := if legA then s.freeEngineTag n (msgExtent m) line else s
        let s := if legB then s.freeEngineTag n ((s.job l.job).destTarget, (s.job l.job).destLd, (s.job l.job).destExtent) line else s
        if (a || legA) && (b || legB) then (((s.engineAnswer n m).unlock n l.job line).atomicNext).endRefused n
        else s.setLock n { l with use := .dual (a || legA) (b || legB) }
      | _, _ => s) s

/-- COMMIT_SETTLED: tags and dual writes from before the commit are done, wherever a write of the job still is, and the source extent
is released (R218). -/
def execCommitSettled (job : Fin 1024) (s : State) : Res :=
  effect (fun s =>
    let j := job.val
    if !s.enginesStand && (s.job j).releasing && s.tagsGone (s.jobFrom j).1 (s.job j).endedAt
        && (upTo 4).all (fun n => !(s.engine n).locks.any (fun l => decide (l.job = j))
            && !(s.engine n).waiting.any (fun x => decide (x.2.job = some j)))
        && !s.travelling.any (fun m => m.cls.isRequest && decide (m.job = some j))
        && !s.core.tags.any (fun g => decide (g.2.msg.job = some j) && decide (g.2.allocBeat < (s.job j).endedAt)) then
      s.modJob j (fun x => { x with releasing := false })
    else s) s

/-- COPY_LOCK_REQUEST: the home grants the lock while the line is not busy, and the copy of the line begins (R219); a line that
no home tracks is locked as CopyRate and the engine's own table allow (R215). -/
def execCopyLockRequest (engine : EngineId) (line : Nat) (s : State) : Res :=
  effect (fun s =>
    let n := engine.val
    match (s.engine n).job with
    | none => s
    | some j =>
      match s.coherentLine j line with
      | none => if !s.enginesStand && (s.engine n).nextLine = line then (s.copyOn n).endRefused n else s
      | some (r, x) =>
        if !s.enginesStand && (s.engine n).asked = some line && (s.engine n).running && !s.lineBusy r x then
          let s := { s with garnet := { s.garnet with jasperLocks := s.garnet.jasperLocks ++ [(r, x)] } }
          ((s.lockLine n j line).copyOn n).endRefused n
        else s) s

/-! ## The arming cut-off (R211, R212, R222) -/

/-- The chunk in progress of an engine is abandoned and counted (R222, Table 3-4). -/
def State.abandonChunk (s : State) (n : Nat) : State :=
  let e := s.engine n
  let s := (s.w (K.engineRunningCrcA n) e.savedA).w (K.engineRunningCrcB n) e.savedB
  let s := s.modEngine n (fun e => { e with running := false, asked := none, readA := [], readB := [] })
  ((s.bump (K.engineChunksAbandoned n) 1).bump (obj 0x1410 4) 1).occurWith (Src.engine n 0) {}

/-- Chunks that have not verified are abandoned; the chunks of each job that lost one are half as large from now on (R222). -/
def State.abandonChunks (s : State) : State :=
  let l := (upTo 4).filter (fun n => (s.engine n).running)
  (s.each l State.abandonChunk).each (l.filterMap (fun n => (s.engine n).job)).eraseDups
    (fun u j => u.modJob j (fun x => { x with code := x.code - 1 }))

/-- The patch that a job's state forms: index and value (R212). -/
def State.jobPatch (s : State) (j : Nat) : Option (Nat × Nat) :=
  let x := s.job j
  match x.state with
  | .armStaged => some (x.index, setBits (setBits (s.entry x.index) 63 61 3) 13 4 j)
  | .commitStaged =>
    some (x.index, setBits (setBits (setBits x.before 60 49 x.destTarget) 48 45 x.destLd) 44 23 x.destExtent)
  | .disarmStaged => some (x.index, x.before)
  | _ => none

/-- The rows that a staged command gives up: those of the runs that it destroys (R155, R207). -/
def State.actRows (s : State) : StagedAct → List Nat
  | .vmdDestroy v => s.vmdRuns v
  | .regionDestroy r => [K.berylRegionRunTable + r]
  | _ => []

/-- The patch is withdrawn: the armed set changes its row, or destroys its run, or patches its entry, or its bank has no place
left. -/
def State.withdrawn (s : State) (held : List (Nat × Nat)) (p : Nat × Nat) : Bool :=
  let (values, acts) := match s.armed with
    | some a => if a.com.state = CommitState.cancelled then ([], []) else (a.values, a.acts)
    | none => ([], [])
  let rows := (s.changedRows values).any (fun k =>
    inRanges (rrRanges (s.r k)) p.1 || inRanges (rrRanges (s.rowAfter values k)) p.1)
  let gone := (acts.flatMap s.actRows).any (fun k => inRanges (rrRanges (s.r k)) p.1)
  rows || gone || (patchesOf acts).any (fun x => decide (x.1 = p.1))
    || decide (16 ≤ bankPatches (patchesOf acts ++ held) (p.1 % 32))

/-- Patches are formed and validated after the armed set: each is held or withdrawn (R212). -/
def State.formPatches (s : State) : State :=
  (s.jasper.jobs.foldl (fun (a : State × List (Nat × Nat)) x =>
    let (u, held) := a
    let j := x.1
    match u.jobPatch j with
    | none => (u, held)
    | some p =>
      if u.withdrawn held p then
        let u := u.bump K.jasperPatchesWithdrawn 1
        if (u.job j).state = .armStaged then
          ((u.leaveJob j).modJob j (fun y => { y with state := .pending, engines := [], held := false }), held)
        else (u.modJob j (fun y => { y with held := false }), held)
      else (u.modJob j (fun y => { y with held := true }), held ++ [p])) (s, [])).1

/-- The lowest extent of a FILL job that no engine has started (R211). -/
def Job.nextExtent (j : Job) : Option Nat := (upTo j.count).find? (fun x => !j.started.contains x)

/-- A job that a free engine may take: a PENDING MOVE job, or a FILL job with an unstarted extent. -/
def Job.takeable (j : Job) : Bool :=
  if j.fill then (j.state = .pending || j.state = .copying) && j.nextExtent.isSome else j.state = .pending

/-- The order in which engines choose: urgent MOVE jobs first, then CreatedAt, then record number. -/
def jobBefore (x y : Nat × Job) : Bool :=
  let k (z : Nat × Job) : Nat := ofBool (!(z.2.urgent && !z.2.fill))
  decide (k x < k y) || (decide (k x = k y) && (decide (x.2.createdAt < y.2.createdAt)
    || (decide (x.2.createdAt = y.2.createdAt) && decide (x.1 < y.1))))

/-- The first job that a free engine takes. -/
def State.chooseJob (s : State) : Option Nat :=
  ((s.jasper.jobs.filter (fun j => j.2.takeable)).foldl (fun (b : Option (Nat × Job)) x =>
    match b with
    | none => some x
    | some y => if jobBefore x y then some x else some y) none).map (·.1)

/-- An engine takes a job: a MOVE is ARM_STAGED, a FILL's lowest unstarted extent is the engine's (R211). -/
def State.takeJob (s : State) (n j : Nat) : State :=
  let x := s.job j
  let ext := x.nextExtent.getD 0
  let s := s.idleEngine n
  let s := if x.fill then s.modJob j (fun y => { y with engines := y.engines ++ [n], started := y.started ++ [ext] })
    else s.modJob j (fun y => { y with state := .armStaged, engines := [n], before := s.entry y.index, code := y.chunkCode,
                                       mismatches := 0, done := 0 })
  let s := s.modEngine n (fun e => { e with job := some j, extent := if x.fill then ext else 0, verified := false })
  let s := (s.w (K.engineJob n) j).w (K.engineExtentIndex n) (x.index + (if x.fill then ext else 0))
  (((s.w (K.engineChunkOffset n) 0).w (K.engineChunkSize n) (chunkAt x.code 0)).w (K.engineRunningCrcA n) 0).w
    (K.engineRunningCrcB n) 0

/-- Free engines choose in ascending number (R211). -/
def State.chooseJobs (s : State) : State :=
  s.each (upTo 4) (fun u n =>
    let e := u.engine n
    if e.retired || e.job.isSome then u
    else
      match u.chooseJob with
      | some j => u.takeJob n j
      | none => u)

/-- A MOVE job whose last chunk has verified is COMMIT_STAGED, and its engine is free (R211, R217). -/
def State.stageCommits (s : State) : State :=
  s.each (upTo 4) (fun u n =>
    match (u.engine n).job with
    | some j => if (u.engine n).copied && (u.job j).state = .copying then
        (u.modJob j (fun x => { x with state := .commitStaged })).idleEngine n else u
    | none => u)

/-- The patches that are held for the next boundary (R212). -/
def State.heldPatches (s : State) : List (Nat × Nat) :=
  (s.jasper.jobs.filter (fun j => j.2.held)).filterMap (fun j => s.jobPatch j.1)

/-- Jobs are suspended, or resume (R228). -/
def State.suspendJobs (s : State) (b : Bool) : State := { s with jasper := { s.jasper with suspended := b } }

/-- The engines' part of the arming cut-off, after the armed set is validated (R211, R212, R222, R228). -/
def State.jasperCutoff (s : State) : State :=
  if s.enginesStand then s
  else
  let s := s.abandonChunks
  if s.beatState = .beatless then s.suspendJobs true else (s.suspendJobs false).stageCommits.chooseJobs.formPatches

/-! ## The boundary (R212, R217, R226) -/

/-- A held patch applies, and its bank's buffer holds it no longer as one to come. -/
def State.applyJob (s : State) (j : Nat) : State :=
  match s.jobPatch j with
  | none => s
  | some (i, e) =>
    let s := { s with beryl := { s.beryl with loaded := Tbl.del s.beryl.loaded i } }
    let s := (s.applyPatch i e).modJob j (fun x => { x with held := false })
    match (s.job j).state with
    | .armStaged => s.modJob j (fun x => { x with state := .copying, armedAt := s.beat })
    | .commitStaged => ((s.endJob j true .none).modJob j (fun x => { x with releasing := true })).endCancel j
    | .disarmStaged =>
      if (s.job j).again then
        s.modJob j (fun x => { x with state := .pending, reason := .none, engines := [], again := false, done := 0 })
      else s.failJob j (s.job j).reason
    | _ => s

/-- The engines' part of a boundary: held patches apply, unless nothing does (R18, R60); FILL jobs taken at the cut-off
are COPYING; every engine has a chunk again; the patch buffers hold nothing to come. -/
def State.jasperBoundary (s : State) (applies : Bool) : State :=
  if s.enginesStand then s
  else
  let s := s.each (s.jasper.jobs.filter (fun j => j.2.held)) (fun u j =>
    if applies then u.applyJob j.1
    else if (u.job j.1).state = .armStaged then
      (u.leaveJob j.1).modJob j.1 (fun x => { x with state := .pending, engines := [], held := false })
    else u.modJob j.1 (fun x => { x with held := false }))
  let s := { s with beryl := { s.beryl with loaded := [] } }
  let s := s.each (s.jasper.jobs.filter (fun j => j.2.fill && decide (j.2.state = .pending) && !j.2.engines.isEmpty))
    (fun u j => u.modJob j.1 (fun x => { x with state := .copying }))
  s.each (upTo 4) (fun u n => u.modEngine n (fun e => { e with had := false, verified := false }))

/-! ## Losing a device or an engine (R224 to R226) -/

/-- A FILL job's run names a target: an entry of it does, or one that its creation has yet to write. -/
def State.fillsTarget (s : State) (x : Job) (pid : Nat) : Bool :=
  let mine (i e : Nat) : Bool := decide (x.index ≤ i) && decide (i < x.index + x.count) && decide (entState e ≠ 0)
    && decide (entTarget e = pid)
  s.entries.any (fun e => mine e.1 e.2) || s.beryl.writes.any (fun q => q.2.any (fun w => mine w.1 w.2.1))

/-- A target is retired: jobs that leave it fail at once, their held patches withdrawn, jobs that go to it are to be reverted, from
whatever state, and fills of it end (R224, R225). Log entry 26 (DEDUCED). -/
def State.jasperTargetLost (s : State) (pid : Nat) : State :=
  s.each (s.jasper.jobs.filter (fun j => j.2.active)) (fun u x =>
    let j := x.1
    let y := u.job j
    let from' := if y.state = .pending then entTarget (u.entry y.index) else entTarget y.before
    if y.fill then (if u.fillsTarget y pid then u.failJob j .destLost else u)
    else if from' = pid then (if y.held then u.bump K.jasperPatchesWithdrawn 1 else u).failJob j .sourceLost
    else if y.destTarget = pid then
      let u := if y.state = .pending then u.modJob j (fun z => { z with before := u.entry z.index }) else u
      u.disarm j .destLost false
    else u)

/-- An engine is retired: it stops copying, and its MOVE job is reverted and returns to PENDING (R226). Log entry 26
(DEDUCED). -/
def State.retireEngine (s : State) (n : Nat) : State :=
  let s := match (s.engine n).job with
    | none => s
    | some j =>
      let s := (s.idleEngine n).modJob j (fun x =>
        { x with started := if x.fill then x.started.filter (fun k => decide (k ≠ (s.engine n).extent)) else x.started
                 engines := if x.fill then x.engines.filter (fun k => decide (k ≠ n)) else x.engines })
      if (s.job j).fill then s
      else
        match (s.job j).state with
        | .armStaged => s.modJob j (fun x => { x with state := .pending, engines := [], held := false })
        | .copying => s.disarm j .none true
        | _ => s
  let s := s.each (s.jasper.jobs.filter (fun j => decide (j.2.state = .commitStaged) && !j.2.held
      && j.2.engines.contains n)) (fun u j => u.disarm j.1 .none true)
  s.modEngine n (fun e => { e with retired := true })

end Sys2Proof.Machine
end

