-- ==== Sys2Proof/Machine/Link.lean ====
section
/-! DEFINITION. Lanes, ports and link reliability (04, 05): link states, holds, data-link-down, tenant resets, lane and port
retirement, Weuri markers, replay and credits. -/

namespace Sys2Proof.Machine

/-! ## Link states (Table 4-6) -/

/-- The port's group lies parked because one slice holds X16 and the other does not (R69). -/
def State.portMismatch (s : State) (p : Nat) : Bool := s.groupMismatch (p / 4)

/-- The state that the configuration gives a port whose link is not up: DISABLED, PARKED or DOWN (R69, R86). -/
def State.restLink (s : State) (p : Nat) : LinkState :=
  if (s.port p).retiredPort then .retired
  else if s.portMismatch p || s.on (K.portPark p) then .parked
  else if s.portMode p = 0 then .disabled else .down

/-- The channel that names a port as its AssociatedPort (R311). -/
def State.slotOfPort (s : State) (p : Nat) : Option Nat := (upTo 32).find? (fun c => s.r (K.slotAssociatedPort c) = p)

/-- The port is held out of training by its slot channel (R311). -/
def State.slotHolds (s : State) (p : Nat) : Bool :=
  match s.slotOfPort p with
  | none => false
  | some c => !s.on (K.slotPowerGood c) || (s.slot c).trainDue

/-- The port runs training attempts: DOWN, its lanes out of park, its slot powered, in a device state that drives lanes
(R87, R311, R363, Table 1-6). -/
def State.trains (s : State) (p : Nat) : Bool :=
  (s.device = .preop || s.device = .operational) && !s.slotHolds p && !(s.port p).parkExit && s.portMode p ≠ 0

/-- The hold of a port's traffic begins (R99). -/
def State.beginHold (s : State) (p : Nat) : State :=
  if s.r (K.portHeldSince p) = 0 then s.w (K.portHeldSince p) s.now else s

/-- The hold ends. -/
def State.endHold (s : State) (p : Nat) : State := s.w (K.portHeldSince p) 0

/-- `.0D NegotiatedWidth`: 0 while the port is not ACTIVE. -/
def State.widthNow (s : State) (p : Nat) : Nat := if s.link p = .active then s.r (K.portNegotiatedWidth p) else 0

/-- The time for which the window has stalled the port is added to WindowStallTime (R92). -/
def State.endStall (s : State) (p : Nat) : State :=
  match (s.port p).stalledAt with
  | some (b, t) => (s.bump (K.portWindowStallTime p) (s.nsSince b t)).modPort p (fun x => { x with stalledAt := none })
  | none => s

/-- The port enters Recovery (R84). -/
def State.retrain (s : State) (p : Nat) : State :=
  (((s.beginHold p).setLink p .retraining).bump (K.portRetrainCount p) 1).modPort p (fun x => { x with resend := [] })

/-- The lanes that a port may train on: not RETIRED. -/
def State.goodLanes (s : State) (p : Nat) : List Bool := (s.portLanes p).map (fun n => decide (s.lane n ≠ .retired))

/-- The lanes of a port that a training at a width uses: the run from logical lane 0, or with lane reversal the run that ends at the
highest (R70, R88). -/
def State.usedLanes (s : State) (p width : Nat) : List Nat :=
  let l := s.portLanes p
  if (s.port p).reversed then l.drop (l.length - width) else l.take width

/-- The spare of a Weuri port carries a data lane: in our transmitter, or in our receiver (R79, R80). -/
def PortSt.substitutes (x : PortSt) : Bool := (x.subbed && x.txSub.isSome) || x.rxSub.isSome

/-- The logical number of a lane within its port, none for a spare. -/
def State.logicalLane (s : State) (n : Nat) : Option Nat :=
  let l := s.portLanes (s.laneport n)
  (upTo l.length).find? (fun k => l.getD k 1000 = n)

/-- A lane is in use on a link that is up: trained, and not one that the spare of a Weuri port stands for (R76, R79, R88). -/
def State.laneUsed (s : State) (n : Nat) : Bool :=
  let p := s.laneport n
  let weuri := s.portMode p = 3
  s.linkUp p && s.lane n ≠ .retired &&
    (if n % 17 = 16 then weuri
     else if weuri then (match s.logicalLane n with
       | some k => !((s.port p).substitutes && s.r (K.portSubstitutedLane p) = k)
       | none => false)
     else (s.usedLanes p (s.r (K.portNegotiatedWidth p))).contains n)

/-- `.01 LaneState` as it reads (Table 4-5, R86). A spare outside a Weuri link that is up reads PARKED. Log entry 56 (DESIGN
CHOICE). -/
def State.laneView (s : State) (n : Nat) : Nat :=
  let p := s.laneport n
  match s.lane n with
  | .retired => 6
  | .retirePending => 5
  | _ =>
    if n % 17 = 16 then (if !s.laneUsed n then 0 else if (s.port p).substitutes then 4 else 3)
    else
      match s.link p with
      | .disabled | .parked | .unused => 0
      | .active | .stalled | .retraining => if s.laneUsed n then 2 else 1
      | _ => if (s.port p).parkExit then 0 else 1

/-- The protocol holds the lane in electrical idle, where no detector counts (R81): parked, retired, out of use on a link that
is up, or every lane of the device (Table 1-6). -/
def State.laneQuiet (s : State) (n : Nat) : Bool :=
  let v := s.laneView n
  s.pins.lanesIdle || v = 0 || v = 6 || (s.linkUp (s.laneport n) && !s.laneUsed n)

/-! ## Generations and staging at a reset (R144, R145, R149) -/

/-- A downstream tag carries a generation of a tenant. -/
def State.tagCarries (s : State) (t g : Nat) : Bool :=
  s.core.tags.any (fun x => decide (x.2.tenant = t) && decide (x.2.gen = g))

/-- The tenant generation moves by one, unless tags still carry the new value or earlier steps wait (R149). -/
def State.stepGeneration (s : State) (t : Nat) : State :=
  let g := (s.r (K.tenantGeneration t) + 1) % 65536
  if (s.tenant t).genWaits ≠ 0 || s.tagCarries t g then s.modTenant t (fun x => { x with genWaits := x.genWaits + 1 })
  else s.w (K.tenantGeneration t) g

/-- Steps of a tenant generation that have waited, as far as tags of the next value are freed (R149). -/
def State.settleGeneration (s : State) (t : Nat) : Nat → State
  | 0 => s
  | fuel + 1 =>
    let g := (s.r (K.tenantGeneration t) + 1) % 65536
    if s.tagCarries t g then s
    else ((s.w (K.tenantGeneration t) g).modTenant t (fun x => { x with genWaits := x.genWaits - 1 })).settleGeneration t fuel

/-- A generation that waits for tags of its next value moves once they are freed (R149). -/
def State.pollGeneration (s : State) (t : Nat) : State := s.settleGeneration t (s.tenant t).genWaits

/-- What a discard leaves of a staging buffer: its cells without the messages that meet `bad`, those messages, and the flows
whose unfinished message is one of them. The rest of a message whose header has left stays. Log entry 23 (DEDUCED). -/
def dropStaged (bad : Msg → Bool) : List Cell → List Nat → List Cell × List Msg × List Nat
  | [], f => ([], [], f)
  | c :: rest, f =>
    let out (x : Piece) : Bool := if x.begins then bad x.msg else f.contains c.flow
    let l := c.pieces
    let lost := (l.filter (fun x => x.begins && out x)).map (·.msg)
    let f := f.filter (fun k => decide (k ≠ c.flow)) ++ (if l.any (fun x => !x.ends && out x) then [c.flow] else [])
    let d := if l.any out then c.keeping (fun x => !out x) else c
    let (cells, more, f) := dropStaged bad rest f
    (if d.valid = 0 then cells else d :: cells, lost ++ more, f)

/-- The requests of a receive buffer that meet `bad` are discarded, and with them what is left of a message whose cells were
discarded in staging. -/
def State.discardBuffer (s : State) (bad : Msg → Bool) (cut : List Nat) (k : Nat) : State :=
  let gone (m : Msg) : Bool :=
    if m.sent = 0 then m.cls.isRequest && bad m else cut.contains (flowKey m.src m.dst m.cls.num)
  let l := Tbl.getD s.core.rxq k []
  if !l.any gone then s
  else
    (s.setRx k (l.filter (fun m => !gone m))).each (l.filter gone) (fun u m =>
      if m.sent = 0 then u.discardWaiting k m else if m.cls.isRequest then u.freeBuffer k m else u)

/-- Messages in ingress staging, and requests that wait for it, are discarded at once, their tags freed (Table 8-2, R155). Log
entry 23 (DEDUCED). -/
def State.discardIngress (s : State) (bad : Msg → Bool) : State :=
  let (s, cut) := (upTo 48).foldl (fun (a : State × List Nat) sl =>
    let (cells, lost, f) := dropStaged bad (a.1.staging sl) []
    if lost.isEmpty then a
    else ((a.1.setStaging sl cells).each lost (fun u m => (u.discardStale m).returnResponse m), a.2 ++ f)) (s, [])
  s.each (s.core.rxq.map (·.1)) (fun u k => u.discardBuffer bad cut k)

/-- The message belongs to a tenant's transactions and not to work that a unit of the switch has started (Table 8-2). -/
def ofTenant (t : Nat) (m : Msg) : Bool :=
  decide (m.tenant = t) && !m.transit && !(decide (96 ≤ m.dst) && !m.cls.isRequest)

/-- A tenant's samples, snoops and staging at its reset. -/
def State.dropTenant (s : State) (t : Nat) : State :=
  ((s.staleSamples t).answerAllSnoops t none).discardIngress (ofTenant t)

/-- No message of the tenant remains in ingress staging (R147). -/
def State.stagingClear (s : State) (t : Nat) : Bool :=
  s.core.staging.all (fun e => e.2.all (fun c => decide (c.tenant ≠ t)))

/-- The receive buffers of a HOST port are lost with its data link (Table 8-2). -/
def State.loseReceived (s : State) (p : Nat) : State :=
  let s := s.each (upTo 15) (fun u c =>
    let k := 16 * p + c
    let l := Tbl.getD u.core.rxq k []
    let u := u.each (l.filter (fun m => decide (m.sent = 0))) State.dropReceived
    let u := u.each ((u.waiting k).filterMap (·.plan)) State.dropPlan
    (u.setRx k (l.filter (fun m => decide (m.sent ≠ 0)))).setWaiting k [])
  s.setTlpq p []

/-! ## Data-link-down (R85, R99, R100, R232) -/

/-- The messages of flits that the partner has not acknowledged, oldest first (R92). -/
def PortSt.unacked (x : PortSt) : List Msg := x.outstanding.flatMap (·.msgs)

/-- The requests of this switch's tenants and units that a port has sent and that have not completed, in the order in which they were
first sent. -/
def State.sentReqs (s : State) (p : Nat) : List Msg :=
  (sortBy (fun g => g.2.sentAs) (s.core.tags.filter (fun g => decide (g.2.outPort = p) && g.2.sentDown))).map
    (fun g => { g.2.msg with dtag := some g.1, dst := p })

/-- A message has still to be completed: its tag is there, or it crosses this switch on a FABRIC port and has none. -/
def State.stillDue (s : State) (m : Msg) : Bool :=
  match m.dtag with
  | some d => (Tbl.find s.core.tags d).isSome
  | none => m.transit

/-- What a FABRIC port may have lost with its data link: the messages that were not acknowledged and those that waited to be sent again;
with `all`, the requests that were acknowledged and have not completed before them (R100, R232). -/
def State.lostMsgs (s : State) (p : Nat) (all : Bool) : List Msg :=
  let last := ((s.port p).unacked ++ (s.port p).reissues).filter s.stillDue
  let first := if all then (s.sentReqs p).filter (fun m => !last.any (fun n => decide (n.dtag = m.dtag))) else []
  first ++ last

/-- What may be lost of a data link that has gone: non-posted I/O requests are answered Unsupported Request, posted writes that were
not acknowledged are discarded and counted (R100). -/
def State.answerLost (s : State) (p : Nat) (lost : List Msg) : State :=
  let s := s.each (lost.filter (fun m => decide (m.cls = .ioNp))) (fun u m =>
    ((u.finish m).answerNo (sliceOf p) m).reportUr m)
  s.each ((s.port p).unacked.filter (fun m => decide (m.cls = .ioP))) (fun u _ => u.occur (Src.port p 5))

/-- The link layer starts anew at the next training. -/
def PortSt.fresh (x : PortSt) : PortSt :=
  { x with outstanding := [], nextTx := 0, resend := [], expect := 0, nakInForce := false, ackDue := false, sinceAck := 0,
           replays := 0, replayRunning := false }

/-- What a port keeps of a data link that has gone (R85, R89, R99). -/
def PortSt.unlinked (x : PortSt) : PortSt :=
  { x with credits := [], shared := [], consumed := [], granted := [], creditTimer := [], stalledNs := [], resend := [],
           reissues := [], replayRunning := false, ideKeys := none, lostLanes := [], foreign := false, narrowing := false }

/-- A port enters DOWN from a state with the data link up; what this does to a tenant follows. NegotiatedRate, FlitFormat and
SubstitutedLane keep what they last showed. Log entry 56 (DESIGN CHOICE). -/
def State.dropLink (s : State) (p : Nat) : State :=
  let zenlia := (s.port p).neighbour.isSome
  let due := s.lostMsgs p true
  let waiting := (s.port p).reissues
  let s := ((((s.beginHold p).endStall p).accrueStalls p).setLink p .down).modPort p PortSt.unlinked
  let s := if s.isDevice p then (s.answerLost p (s.sentReqs p)).modPort p PortSt.fresh
    else if s.isHost p then (s.loseReceived p).modPort p PortSt.fresh
    else if zenlia then s.modPort p (fun x => { x with reissues := waiting })
    else (s.answerLost p due).modPort p (fun x =>
      { x.fresh with reissues := due.filter (fun m => decide (m.cls = .memReq)) })
  if s.isFabric p then
    (s.modPort p (fun x => { x with inRoutes := x.inRoutes && decide (s.r K.fabricRerouteOn = 1) })).originate.judgeReach
  else s

/-- Reset causes (Table 8-9). -/
def causeLinkDown : Nat := 1
/-- HOT_RESET. -/
def causeHotReset : Nat := 2
/-- COMMAND. -/
def causeCommand : Nat := 3

/-- At a reset each VMD of the tenant returns what it presents to its reset values, and no decoder's Commit is pending (R148). -/
def State.resetVmds (s : State) (t : Nat) : State :=
  let s := s.resetPresented t
  { s with beryl := { s.beryl with commitPending := s.beryl.commitPending.filter (fun d => decide (d / 64 ≠ t)) } }

/-- Real devices bound to the tenant are hot-reset where ResetPropagate says so (R148). -/
def State.resetDevices (s : State) (t : Nat) : State :=
  if s.on (K.tenantResetPropagate t) then
    let l := ((s.bindings []).filter (fun b => decide (b.1 = t) && decide (b.2.2.1 = 2))).map (fun b => b.2.2.2)
    s.each l (fun u d => if u.linkUp d then (u.emit (.hotReset d)).dropLink d else u)
  else s

/-- A tenant is reset: a new generation, RESETTING, and the cleanup of R146 begins (R144, R145, R146, R148, R149). Log
entry 27 (DEDUCED). -/
def State.resetTenant (s : State) (t cause : Nat) : State :=
  let s := (s.stepGeneration t).setTenant t .resetting
  let s := ((s.w (K.tenantLastResetCause t) cause).w (K.tenantLastResetAt t) s.now).bump (K.tenantResetCount t) 1
  let s := s.modTenant t (fun x => { x with resetBeat := s.beat, resetTick := s.tick })
  let sweeps := s.garnet.sweeping.filter (fun x => decide (x.2 ≠ t)) ++ (upTo 8).map (fun h => (h, t))
  let s := { s with garnet := { s.garnet with sweeping := sweeps } }
  ((s.dropTenant t).resetVmds t).resetDevices t

/-- The messages in a port's egress buffer, and the buffer empty. -/
def State.takeEgress (s : State) (p : Nat) : List Msg × State :=
  let e := s.egress p
  let l := (e.bi ++ e.memRsp ++ e.ioCpl ++ e.members.flatMap (·.2)).flatMap (fun c => c.cell.msgs)
  (l, s.modEgress p (fun e => { e with bi := [], memRsp := [], ioCpl := [], members := [], finish := [], control := [] }))

/-- The hold of a HOST port ends with its tenant's reset: what is held for it is discarded under the tenant's generation (R99). -/
def State.discardHeld (s : State) (p : Nat) : State :=
  let (held, s) := s.takeEgress p
  (s.each held State.discardStale).endHold p

/-- The data-link-down event of a port (R85): on a HOST port it resets the tenant. Log entry 27 (DEDUCED). -/
def State.portDown (s : State) (p cause : Nat) : State :=
  if s.linkUp p then
    let s := s.dropLink p
    if s.isHost p then
      match s.tenantOfPort p with
      | some t => (s.resetTenant t cause).discardHeld p
      | none => s
    else s
  else s

/-! ## Retirement of ports and lanes (R79, R88, R101, R246) -/

/-- The memory-device target behind a port is marked retired: every entry that names it reads POISONED, the scrub starts, and
jobs end or are reverted (R177, R224, R225). -/
def State.retireTargets (s : State) (p : Nat) : State :=
  let row := s.r (K.fabricPortPids + p)
  let pid := bits row 11 0
  if row.testBit 31 && s.isDevice p && !s.beryl.retiredTargets.contains pid then
    let s := { s with beryl := { s.beryl with retiredTargets := s.beryl.retiredTargets ++ [pid] } }
    (s.jasperTargetLost pid).startScrub pid
  else s

/-- A port is retired (R101, R177, R246): whether it was retired already, and the state. Log entry 27 (DEDUCED). -/
def State.retirePort (s : State) (p : Nat) : Bool × State :=
  if (s.port p).retiredPort then (true, s)
  else
    let crossing := ((s.port p).unacked ++ (s.port p).reissues).filter (fun m =>
      decide (m.cls = .ioP) || (s.isFabric p && m.transit && m.dtag.isNone))
    let sent := s.sentReqs p
    let s : State := ((((s.endStall p).accrueStalls p).setLink p .retired).endHold p).modPort p (fun (x : PortSt) =>
      { x.unlinked.fresh with retiredPort := true, inRoutes := false })
    let s : State := match s.tenantOfPort p with
      | some t => if s.isHost p && s.r (K.tenantPrimaryPort t) = p && s.tenantState t = .active then s.setTenant t .down else s
      | none => s
    let (waiting, s) := s.takeEgress p
    let s : State := (s.each (crossing ++ sent ++ waiting) (fun u m => u.answerRetired p (sliceOf p) m)).retireTargets p
    (false, if s.isFabric p then s.originate.judgeReach else s)

/-- The widest training that a port's lanes allow: a run of sound lanes from logical lane 0, or ending at the highest
(R88). -/
def State.widest (s : State) (p : Nat) : Nat :=
  let l := s.goodLanes p
  let top := s.portWidth p
  ([16, 8, 4, 2, 1].find? (fun w => decide (w ≤ top) && decide (w ≤ l.length)
    && ((l.take w).all id || (l.reverse.take w).all id))).getD 0

/-- A lane of a Weuri port is retired: while its link is up the spare substitutes it from the next marker, or the port is
retired, and named as the target, where the spare is taken or retired; without a link it is left to the next training (R75,
R79, R80). Log entry 56 (DESIGN CHOICE). -/
def State.retireWeuriLane (s : State) (p n : Nat) : SrcTarget × State :=
  let x := s.port p
  let s := s.setLane n .retired
  let whole : SrcTarget × State := (.port p, (s.retirePort p).2)
  if !s.linkUp p then (.lane n, s)
  else if x.txSub.isSome || x.rxSub.isSome then whole
  else match s.logicalLane n with
    | none => (.lane n, s)
    | some k =>
      if s.lane (spareLane (p / 4)) = .retired then whole
      else (.lane n, s.modPort p (fun y => { y with txSub := some k }))

/-- A lane of a standard port is retired (R88). -/
def State.retireStandardLane (s : State) (p n : Nat) : State :=
  if s.on (K.portAutoWidthReduce p) then
    let s := s.setLane n .retired
    if s.widest p = 0 then (s.retirePort p).2
    else
      let s := if s.link p = .active || s.link p = .stalled then s.retrain p else s
      if s.link p = .retraining then s.modPort p (fun x => { x with narrowing := true }) else s
  else s.setLane n .retirePending

/-- A lane is retired: whether it was already, the target that is retired, and the state. A data lane of a DISABLED port is
RETIRED at once. Log entry 56 (DESIGN CHOICE). -/
def State.retireLane (s : State) (n : Nat) : Bool × SrcTarget × State :=
  if s.lane n = .retired || s.lane n = .retirePending then (true, .lane n, s)
  else
    let p := s.laneport n
    if s.portMode p = 3 then (false, s.retireWeuriLane p n)
    else if n % 17 = 16 || s.portMode p = 0 then (false, .lane n, s.setLane n .retired)
    else (false, .lane n, s.retireStandardLane p n)

/-- A lane that reads RETIRE_PENDING is RETIRED (R88). -/
def State.settleLane (s : State) (n : Nat) : State := if s.lane n = .retirePending then s.setLane n .retired else s

/-- A port whose retired lanes leave it no width is RETIRED (R88). -/
def State.retireBare (s : State) (p : Nat) : State :=
  if s.widest p = 0 && !(s.port p).retiredPort && (s.portLanes p).any (fun n => decide (s.lane n = .retired))
  then (s.retirePort p).2 else s

/-- The lanes of a port settle at the boundary of a commit that changes its MaxWidth, PortMode or Park (R88). -/
def State.settleLanes (s : State) (p : Nat) : State := (s.each (s.portLanes p) State.settleLane).retireBare p

/-! ## Lane events (R81 to R83) -/

/-- LOSS_OF_SIGNAL: the detector asserts, and counts unless the lane is in electrical idle (R81). -/
def execLossOfSignal (lane : LaneId) (s : State) : Res :=
  effect (fun s =>
    let n := lane.val
    let p := s.laneport n
    if s.laneQuiet n then s
    else
      let s := (s.bump (K.laneLosCount n) 1).modPort p (fun x =>
        { x with lostLanes := if x.lostLanes.contains n then x.lostLanes else x.lostLanes ++ [n] })
      if s.link p = .active then s.occur (Src.lane n 1) else s) s

/-- LOSS_OF_SIGNAL_DEASSERT (R81). -/
def execLossOfSignalDeassert (lane : LaneId) (s : State) : Res :=
  effect (fun s =>
    s.modPort (s.laneport lane.val) (fun x => { x with lostLanes := x.lostLanes.filter (fun k => decide (k ≠ lane.val)) })) s

/-- LOSS_OF_LOCK: the detector asserts, and counts unless the lane is in electrical idle (R81). -/
def execLossOfLock (lane : LaneId) (s : State) : Res :=
  effect (fun s =>
    let n := lane.val
    if s.laneQuiet n then s
    else
      let s := s.bump (K.laneLolCount n) 1
      if s.link (s.laneport n) = .active then s.occur (Src.lane n 1) else s) s

/-- EYE_SCAN_COMPLETE on a lane of an ACTIVE link: the margins are shown and judged against the port's thresholds (R82,
R83). -/
def execEyeScanComplete (lane : LaneId) (marginH marginV : Nat) (s : State) : Res :=
  effect (fun s =>
    let n := lane.val
    let p := s.laneport n
    if s.link p ≠ .active || s.laneQuiet n then s
    else
      let s := ((s.w (K.laneMarginH n) (marginH % 65536)).w (K.laneMarginV n) (marginV % 65536)).w (K.laneScanTime n) s.now
      if s.r (K.laneMarginH n) < s.r (K.portMarginThresholdH p) || s.r (K.laneMarginV n) < s.r (K.portMarginThresholdV p)
      then s.occur (Src.lane n 0) else s) s

/-! ## Port events (R84, R85, R87, R363) -/

/-- PORT_LOCK_LOST: ACTIVE to STALLED, and the port's traffic is held (R84, R85). -/
def execPortLockLost (port : PortId) (s : State) : Res :=
  effect (fun s =>
    let p := port.val
    if s.link p = .active then
      ((s.beginHold p).setLink p .stalled).modPort p (fun x => { x with lockLostAt := s.clock })
    else s) s

/-- A lane in use has loss of signal asserted: the port is not locked (04, Link state and lock loss). -/
def State.lanesLost (s : State) (p : Nat) : Bool := (s.port p).lostLanes.any s.laneUsed

/-- PORT_LOCK_REGAINED within LockLossHold: STALLED to ACTIVE without Recovery; the replay timer goes on from where it was
frozen (R84, R95). -/
def execPortLockRegained (port : PortId) (s : State) : Res :=
  effect (fun s =>
    let p := port.val
    if s.link p = .stalled && !s.lanesLost p && decide (s.nsAgo (s.port p).lockLostAt ≤ s.r (K.portLockLossHold p)) then
      let s := s.modPort p (fun x => { x with replayAt := x.replayAt + (s.clock - x.lockLostAt) })
      ((s.setLink p .active).endHold p).creditWatch p
    else s) s

/-- LOCK_LOSS_HOLD_EXPIRY: once LockLossHold has passed, the link is declared down, and Recovery starts (R84). -/
def execLockLossHoldExpiry (port : PortId) (s : State) : Res :=
  effect (fun s =>
    let p := port.val
    if s.link p = .stalled && decide (s.r (K.portLockLossHold p) ≤ s.nsAgo (s.port p).lockLostAt) then
      (s.retrain p).occur (Src.port p 0)
    else s) s

/-- PARTNER_RECOVERY (R84), from STALLED too. Log entry 56 (DESIGN CHOICE). -/
def execPartnerRecovery (port : PortId) (s : State) : Res :=
  effect (fun s =>
    let p := port.val
    if s.link p = .active || s.link p = .stalled then s.retrain p else s) s

/-- The flit format that a training reaches (R71): 0 NONE, 1 FLIT68, 2 FLIT256, 3 FLIT256_LOPT. -/
def flitFormat (mode rate : Nat) (partnerFlit partnerLopt : Bool) : Nat :=
  if mode = 1 then (if partnerFlit then 2 else 0)
  else if mode = 2 then
    if rate ≤ 1 then 0 else if rate ≤ 4 then (if partnerFlit then 2 else 1) else if partnerLopt then 3 else 2
  else if mode = 3 then (if rate = 6 then 2 else 0) else 0

/-- The window W in force (Table 5-2, R96). -/
def State.windowOf (s : State) (p format : Nat) : Nat :=
  if format = 1 then 255 else if format = 0 then 2047
  else
    let m := s.sliceMode (sliceOf p)
    if m = 2 then 511 else if m = 1 then 255 else 127

/-- Credits advertised per channel by a port of a slice in mode X8 (Table 5-1). -/
def advertised : List (Nat × Nat) :=
  [(64, 1024), (64, 64), (128, 2048), (256, 0), (128, 0), (256, 0), (256, 0), (64, 0), (128, 0), (64, 0), (64, 0), (64, 0),
   (64, 0), (64, 0), (64, 0)]

/-- The credits of a channel advertised at data link initialisation (R89). Log entry 24 (DEDUCED). -/
def State.advertise (s : State) (p : Nat) : State :=
  let m := s.sliceMode (sliceOf p)
  s.each (upTo 15) (fun u c =>
    let (h, d) := advertised.getD c (0, 0)
    let (h, d) := if m = 2 then (2 * h, 2 * d) else if m = 1 then (h, d) else (h / 2, d / 2)
    (u.modPort p (fun x => { x with granted := Tbl.put x.granted c (h, d) })).emit (.creditUpdate p c h d))

/-- The memory requests sent to a DEVICE port that have not completed wait to be sent again, in the order in which they were
first sent, before any held message (R100). -/
def State.reissue (s : State) (p : Nat) : State :=
  let l := (s.sentReqs p).filter (fun m => decide (m.cls = .memReq))
  s.modPort p (fun x => { x with reissues := l })

/-- A replay starts: the outstanding flits, or the one that a selective NAK asks for, are sent again from the next flit
boundary on; four replays in a row of one oldest flit raise the rollover source and end in Recovery (R94, R95). The replay that
follows a Recovery counts as one. Log entry 56 (DESIGN CHOICE). -/
def State.replay (s : State) (p : Nat) (selective : Bool) : State :=
  let n := (s.port p).replays + 1
  let l := (s.port p).outstanding.map (·.sequence)
  let s := (s.bump (K.portReplaysSent p) 1).modPort p (fun x =>
    { x with replays := n, replayRunning := true, replayAt := s.clock, resend := if selective then l.take 1 else l })
  if n = 4 then ((s.modPort p (fun x => { x with replays := 0 })).retrain p).occur (Src.port p 2) else s

/-- Flits up to one of the replay buffer are released: the timer restarts, and the time of a full window ends (R92,
R95). -/
def State.dropFlits (s : State) (p n : Nat) : State :=
  let left := (s.port p).outstanding.drop n
  (s.endStall p).modPort p (fun y => { y with
    outstanding := left, replays := 0, replayRunning := !left.isEmpty, replayAt := s.clock
    resend := y.resend.filter (fun q => left.any (fun f => decide (f.sequence = q))) })

/-- An acknowledgement releases flits, and the smallest round trip of those that it covers is kept (R92, R95, R98). -/
def State.releaseFlits (s : State) (p n : Nat) : State :=
  let trips := ((s.port p).outstanding.take n).map (fun f => s.nsSince f.sentBeat f.sentTick)
  (s.dropFlits p n).modPort p (fun y => { y with roundTrip := (y.roundTrip.toList ++ trips).min? })

/-- A link to a ZENLIA neighbour returns after DOWN: the data link resumes where the partner's record says, or what was
not acknowledged is treated as lost (R232). -/
def State.resumeLink (s : State) (p count last : Nat) : State :=
  let s :=
    if (s.port p).partnerCount = some count then
      let k := ((s.port p).outstanding.findIdx? (fun f => decide (f.sequence = last))).map (· + 1)
      let s := match k with | some k => s.dropFlits p k | none => s
      if (s.port p).outstanding.isEmpty then s else s.replay p false
    else
      let lost := s.lostMsgs p false
      (s.answerLost p lost).modPort p (fun x =>
        { x.fresh with reissues := lost.filter (fun m => decide (m.cls = .memReq)) })
  s.modPort p (fun x => { x with partnerCount := some count })

/-- In its first flit after DOWN a resumed link sends this switch's PWRON_RST_N count and the last flit that it accepted (R232). -/
def State.sendResume (s : State) (p : Nat) : State :=
  let m := seqMod (s.format p)
  s.emit (.resume p s.store.resetCount (((s.port p).expect + m - 1) % m))

/-- The coefficients that a lane stores for a rate, 16 of the object's 128 bits; 0 for none. Log entry 29 (DESIGN CHOICE). -/
def coefficients (v rate : Nat) : Nat := bits v (16 * rate + 15) (16 * rate)

/-- The lanes that a training uses, the spare of a Weuri link among them and no retired lane: inversion is shown, and, unless the
partner agrees to train on those stored for the rate, the equaliser's coefficients are stored, whose values the spec does not give (R70,
R87). Log entry 29 (DESIGN CHOICE). -/
def State.trainLanes (s : State) (p rate width : Nat) (x : LaneTraining) : State :=
  let spare := if s.portMode p = 3 then [spareLane (p / 4)] else []
  s.each ((s.usedLanes p width ++ spare).filter (fun n => decide (s.lane n ≠ .retired))) (fun u n =>
    let u := u.wb (K.lanePolarity n) (s.portMode p ≠ 3 && x.inverted.any (fun l => decide (l.val = n)))
    let v := u.r (K.laneCoefficients n)
    if x.agrees && coefficients v rate ≠ 0 then u
    else
      let (y, u) := u.fresh
      u.w (K.laneCoefficients n) (setBits v (16 * rate + 15) (16 * rate) (y % 65535 + 1)))

/-- The retired logical lanes of a Weuri port. -/
def State.retiredLogical (s : State) (p : Nat) : List Nat :=
  (upTo 16).filter (fun k => decide (s.lane (17 * (p / 4) + k) = .retired))

/-- The widths that a training of a standard port may reach: those of a run of lanes that are not retired, from the lowest or with
lane reversal to the highest, and in the Recovery that a lane's retirement starts the largest of them (R68, R70, R88). Log entry 56
(DESIGN CHOICE). -/
def State.widthOk (s : State) (p width : Nat) (reversed : Bool) : Bool :=
  let l := s.goodLanes p
  decide (width ≤ s.portWidth p) && decide (width ≤ l.length)
    && ((if reversed then l.reverse else l).take width).all id
    && (!(s.port p).narrowing || decide (width = s.widest p))

/-- A training result is one that the port can reach: rate and width within its limits, PCIe at 64 GT/s and above in flit mode,
and on Weuri links 128 GT/s at full width without SRNS and at most one lane to substitute (R68, R71, R74, R75, Table 4-2). -/
def State.canReach (s : State) (p rate width : Nat) (flit reversed : Bool) (partnerRetired : List Nat) : Bool :=
  let cap := min (s.r (K.portMaxRate p)) (if s.portMode p = 2 then 5 else 6)
  let both := (s.retiredLogical p ++ partnerRetired).eraseDups
  decide (rate ≤ cap) && [1, 2, 4, 8, 16].contains width
    && (if s.portMode p = 3 then decide (rate = 6) && decide (width = 16) && decide (s.portWidth p = 16)
          && decide (s.r (K.portClocking p) ≠ 1) && s.isFabric p && decide (both.length ≤ 1)
          && !both.any (fun k => decide (16 ≤ k)) && (both.isEmpty || s.lane (spareLane (p / 4)) ≠ .retired)
        else s.widthOk p width reversed && (s.portMode p ≠ 1 || decide (rate < 5) || flit))

/-- A port becomes ACTIVE: format, window, lanes, and on a Weuri link marker counts and substitution (R71, R75, R76, R97). -/
def State.enterActive (s : State) (p rate width : Nat) (flit lopt : Bool) (lanes : LaneTraining)
    (partnerRetired : List Nat) : State :=
  let weuri := s.portMode p = 3
  let fmt := flitFormat (s.portMode p) rate flit lopt
  let sub := if weuri then ((s.retiredLogical p ++ partnerRetired).eraseDups).head? else none
  let s := ((s.setLink p .active).endHold p).w (K.portNegotiatedRate p) rate
  let s := ((s.w (K.portNegotiatedWidth p) width).w (K.portFlitFormat p) fmt).w (K.portReplayWindow p) (s.windowOf p fmt)
  let s := s.w (K.portSubstitutedLane p) (match sub with | some k => k | none => 255)
  let s := s.modPort p (fun x => { x with
    partnerRetired := partnerRetired, flits := 4096, marker := 0, txSub := sub, rxSub := sub, subbed := sub.isSome
    activeSince := s.beat, parkExit := false, lostLanes := [], reversed := !weuri && lanes.reversed, narrowing := false
    lastTimeout := x.lastTimeout.map (fun e => if e.2 = 0 then (e.1, s.beat * 1024 + s.tick + 1) else e) })
  s.trainLanes p rate width lanes

/-- The tenant of a primary port whose cleanup is complete is ACTIVE again (Table 8-1). -/
def State.tenantUp (s : State) (p : Nat) : State :=
  match s.tenantOfPort p with
  | none => s
  | some t => if s.r (K.tenantPrimaryPort t) = p && s.tenantState t = .down then s.setTenant t .active else s

/-- What the data link takes up as a port leaves DOWN: credits, requests to send again, its tenant, what its neighbour has not
acknowledged, and IDE keys over the fabric management channel (R73, R89, R100, R232). -/
def State.startLink (s : State) (p count last : Nat) : State :=
  let s := s.advertise p
  if s.isDevice p then s.reissue p
  else if s.isHost p then s.tenantUp p
  else
    let s := if (s.port p).neighbour.isSome then (s.sendResume p).resumeLink p count last
      else s.modPort p (fun x => { x with partnerCount := some count })
    s.startIde p

/-- TRAINING_REACHES_L0: the port becomes ACTIVE; after Recovery what is outstanding is replayed, after DOWN the data link
starts; a new width or rate enters this switch's record at once (R71, R75, R84, R89, R99, R100, R232, R233). -/
def execTrainingReachesL0 (port : PortId) (rate width : Nat) (partnerFlit partnerLopt : Bool) (polarity : LaneTraining)
    (partnerCount partnerLast : Nat) (partnerRetired : List Nat) (s : State) : Res :=
  effect (fun s =>
    let p := port.val
    let up := s.link p = .retraining
    if (!up && s.link p ≠ .down) || !s.trains p || !s.canReach p rate width partnerFlit polarity.reversed partnerRetired then s
    else
      let s := s.enterActive p rate width partnerFlit partnerLopt polarity partnerRetired
      let s := if !up then s.startLink p partnerCount partnerLast
        else if (s.port p).outstanding.isEmpty then s else s.replay p false
      let s := if s.isFabric p then s.originate else s
      if s.link p = .active then s.creditWatch p else s) s

/-- TRAINING_ATTEMPT_FAILURE: one occurrence of the training-failure source; a failed Recovery takes the port DOWN
(R84, R363, Table 5-5). -/
def execTrainingAttemptFailure (port : PortId) (s : State) : Res :=
  effect (fun s =>
    let p := port.val
    match s.link p with
    | .retraining => (s.portDown p causeLinkDown).occur (Src.port p 1)
    | .down => if s.trains p then s.occur (Src.port p 1) else s
    | _ => s) s

/-- DETECT_NO_RECEIVER: one occurrence for each repetition while DOWN (R363). -/
def execDetectNoReceiver (port : PortId) (s : State) : Res :=
  effect (fun s =>
    let p := port.val
    if s.link p = .down && s.trains p then s.occur (Src.port p 1) else s) s

/-- HOT_RESET on a HOST port: DOWN, and the tenant is reset (R85, R144). -/
def execHotReset (port : PortId) (s : State) : Res :=
  effect (fun s =>
    let p := port.val
    if s.isHost p then s.portDown p causeHotReset else s) s

/-- LANE_PARK_EXIT_READY: link training begins (R87). -/
def execLaneParkExitReady (port : PortId) (s : State) : Res :=
  effect (fun s => s.modPort port.val (fun x => { x with parkExit := false })) s

/-! ## Weuri markers (R76 to R80) -/

/-- The 128 bits of a marker, from the fields of Table 4-4 (R77). -/
def markerWord (lane sequence : Nat) (sub : Option Nat) (beat : Option (Nat × Nat)) : Nat :=
  let head := ((0xB74C * 256 + lane % 32) * 65536 + sequence % 65536) * 256
    + ((ofBool sub.isSome * 2 + ofBool beat.isSome) * 64 + sub.getD 0 % 32)
  let top := (head * 2 ^ 48 + (beat.getD (0, 0)).1 % 2 ^ 48) * 65536 + (beat.getD (0, 0)).2 % 65536
  top * 65536 + crc16Run 0xFFFF (toBytes 14 top) % 65536

/-- The physical lanes that send a marker: all 17, but for the one whose place the spare has taken and a spare retired while
idle, which are in electrical idle (R76, R79, R80). -/
def State.markerLanes (s : State) (p : Nat) : List Nat :=
  let x := s.port p
  (upTo 17).filter (fun k => !(x.subbed && decide (x.txSub = some k))
    && !(decide (k = 16) && decide (s.lane (spareLane (p / 4)) = .retired)))

/-- WEURI_MARKER_TRANSMIT at the flit boundary at which a marker is due: the lanes send it, BEAT set in the first one after each
edge, with its offset modulo 65,536; after a marker with SUB the spare carries SubLane; in SAFE no port transmits (R53, R76, R77, R79,
R281). Log entry 68 (DESIGN CHOICE). -/
def execWeuriMarkerTransmit (port : PortId) (s : State) : Res :=
  effect (fun s =>
    let p := port.val
    if !s.linksRun || !s.carries p || !s.markerDue p then s
    else
      let x := s.port p
      let carry := s.beatGoes p && decide (x.markBeat ≠ some s.beat)
      let (o, s) := if carry then s.edgeOffset else (0, s)
      let beat := if carry then some (s.beat, o) else none
      let s := s.each (s.markerLanes p) (fun u k => u.emit (.marker p k (markerWord k x.marker x.txSub beat)))
      let s := match x.txSub with | some k => s.w (K.portSubstitutedLane p) k | none => s
      s.modPort p (fun y => { y with
        marker := (y.marker + 1) % 65536, flits := 0, subbed := x.txSub.isSome
        markBeat := if carry then some s.beat else y.markBeat })) s

/-- The copy's bits as a number. -/
def markerBits (c : MarkerCopy) : Nat := c.word.toNat

/-- A copy passes its check (R77). -/
def markerPasses (c : MarkerCopy) : Bool :=
  let w := markerBits c
  decide (bits w 127 112 = 0xB74C) && decide (crc16Run 0xFFFF (toBytes 14 (w / 65536)) % 65536 = w % 65536)

/-- The copies of a marker that count: their check passes, and their lane is not one that the partner has retired (R78). -/
def State.goodCopies (s : State) (p : Nat) (l : List MarkerCopy) : List MarkerCopy :=
  l.filter (fun c => markerPasses c && !(s.port p).partnerRetired.contains c.lane.val)

/-- What two copies of a marker must agree in: Sequence and bits 87:80 (R78). -/
def markerKey (c : MarkerCopy) : Nat := bits (markerBits c) 103 80

/-- A marker with SUB for lane k: our own lane k is retired where our transmitter substitutes none, and the receiver takes lane k
from the spare, whichever lane our transmitter substitutes (R78, R80). Log entry 68 (DESIGN CHOICE). -/
def State.takeSub (s : State) (p k : Nat) : State :=
  let s := if (s.port p).txSub.isNone then (s.retireLane (17 * (p / 4) + k)).2.2 else s
  if (s.port p).retiredPort then s
  else
    (s.w (K.portSubstitutedLane p) k).modPort p (fun x => { x with
      rxSub := some k
      partnerRetired := if x.partnerRetired.contains k then x.partnerRetired else x.partnerRetired ++ [k] })

/-- WEURI_MARKER_RECEIVE: a marker without a passing copy, or whose copies disagree, is lost, and the port retrains at
once; a SUB that our transmitter does not carry retires our own lane (R78, R80). -/
def execWeuriMarkerReceive (port : PortId) (copies : List MarkerCopy) (s : State) : Res :=
  effect (fun s =>
    let p := port.val
    if s.portMode p ≠ 3 || s.link p ≠ .active then s
    else
      match s.goodCopies p copies with
      | [] => (s.retrain p).occur (Src.port p 0)
      | c :: rest =>
        let k := bits (markerBits c) 84 80
        if rest.any (fun d => decide (markerKey d ≠ markerKey c)) then (s.retrain p).occur (Src.port p 0)
        else if !bit (markerBits c) 87 || 16 ≤ k then s
        else s.takeSub p k) s

/-! ## IDE (R73) -/

/-- The checks of IdeKeyRefresh: a DEVICE port with IDE enabled. -/
def State.ideChecks (s : State) (args : List Byte) : CmdChecks :=
  let p := fieldAt args 0 1
  { resource := if p < 96 && (!s.isDevice p || !s.on (K.portIdeEnable p)) then some 0x0502 else none
    range := if 95 < p then some 0x0702 else none }

/-- IDE_KEY_REFRESH: the ZN384 runs IDE_KM as initiator on a DEVICE port (R73). -/
def execIdeKeyRefresh (env : JdpEnv) (s : State) : Res :=
  effectOf env (fun s => s.trigger env 0x2560 (fun s args => s.ideChecks args)
    (fun s args => ((s.emit (.ideKm (fieldAt args 0 1))).setKeys (fieldAt args 0 1)).cmdDone 0x2560 [])) s

/-- IDE_MAC_FAILURE: a link integrity error, and the port leaves ACTIVE for DOWN (R73). -/
def execIdeMacFailure (port : PortId) (s : State) : Res :=
  effect (fun s =>
    let p := port.val
    if s.on (K.portIdeEnable p) && s.link p = .active then (s.portDown p causeLinkDown).occur (Src.port p 4) else s) s

/-- IDE_KM_REQUEST: the ZN384 answers a host as responder, and the link's keys are set (R73). -/
def execIdeKmRequest (tenant : TenantId) (port : PortId) (s : State) : Res :=
  effect (fun s =>
    let p := port.val
    if s.tenantOfPort p = some tenant.val && s.on (K.portIdeEnable p) && s.link p = .active then
      (s.emit (.ideKm p)).setKeys p
    else s) s

/-! ## Sequence numbers and replay (R92 to R95) -/

/-- An impossible sequence number or acknowledgement: counted, reported, and the port retrains. -/
def State.sequenceError (s : State) (p : Nat) : State :=
  ((s.bump (K.portSequenceErrors p) 1).retrain p).occur (Src.port p 4)

/-- The port asks for a replay from E on, unless it has already (R93). -/
def State.askReplay (s : State) (p : Nat) : State :=
  let x := s.port p
  let m := seqMod (s.format p)
  if x.nakInForce || !s.linksRun then s
  else ((s.bump (K.portNaksSent p) 1).modPort p (fun y => { y with nakInForce := true })).emit (.nak p ((x.expect + m - 1) % m))

/-- The last number that stands for a flit not yet sent: 510 ahead of E on 256-byte flit links, else less than half the numbers
(R93, R96). Log entry 28 (DEDUCED). -/
def aheadOf (m : Nat) : Nat := if m = 1024 then 510 else m / 2 - 1

/-- The first number that stands for a duplicate. Log entry 28 (DEDUCED). -/
def behindOf (m : Nat) : Nat := if m = 1024 then 513 else m / 2

/-- A flit that passes its CRC (R93, R96). With 68-byte flits up to 255 of the 256 numbers may be outstanding: a flit is a duplicate
unless a NAK is in force, under which every flit but the expected one is discarded. Log entry 28 (DEDUCED). -/
def State.takeFlit (s : State) (p q : Nat) : State :=
  let x := s.port p
  let m := seqMod (s.format p)
  let d := (q % m + m - x.expect % m) % m
  if d = 0 then s.modPort p (fun y => { y with expect := (y.expect + 1) % m, nakInForce := false, ackDue := true })
  else if m = 256 && x.nakInForce then s
  else if m = 256 || behindOf m ≤ d then (s.bump (K.portDuplicatesDiscarded p) 1).modPort p (fun y => { y with ackDue := true })
  else if d ≤ aheadOf m then s.askReplay p
  else s.sequenceError p

/-- FLIT_RECEIVE (what an accepted flit carries comes as commands of its own): accepted, a duplicate, NAKed, or a
sequence error; a bad flit is discarded whole, and asked for again at once on links that do not run 256-byte flits (R93 to
R96). Log entry 28 (DEDUCED). -/
def execFlitReceive (port : PortId) (sequence : Fin 4096) (crcGood : Bool) (_payload corrected : Nat) (s : State) : Res :=
  effect (fun s =>
    let p := port.val
    if s.link p ≠ .active then s
    else
      let s := (s.bump (K.portFecCorrected p) corrected).count evFlitsReceived 1 { port := some p }
      if crcGood then s.takeFlit p sequence.val
      else
        let s := s.bump (K.portBadFlitsReceived p) 1
        if s.format p ≤ 1 then s.askReplay p else s) s

/-- What a sequence number names: a flit of the replay buffer by its place, one already released, or one not yet sent. -/
inductive AckPlace where
  | held (n : Nat) | released | unsent
  deriving DecidableEq, Repr

/-- The place of an acknowledged sequence number, of m numbers: with 68-byte flits the numbers that no outstanding flit has are
halved. Log entry 28 (DEDUCED). -/
def PortSt.place (x : PortSt) (m q : Nat) : AckPlace :=
  match x.outstanding.findIdx? (fun f => decide (f.sequence = q % m)) with
  | some k => .held (k + 1)
  | none =>
    let free := if m = 256 then (256 - x.outstanding.length) / 2 else m / 2
    if (q % m + m - x.nextTx % m) % m < free then .unsent else .released

/-- ACK_RECEIVE (R94, R95). -/
def execAckReceive (port : PortId) (sequence : Fin 4096) (s : State) : Res :=
  effect (fun s =>
    let p := port.val
    if s.link p ≠ .active then s
    else
      match (s.port p).place (seqMod (s.format p)) sequence.val with
      | .held n => s.releaseFlits p n
      | .released => s
      | .unsent => s.sequenceError p) s

/-- NAK_RECEIVE: flits up to s are released, and a replay starts from s + 1, of that flit alone where PCIe's selective NAK asks
for it (R94, R95). Log entry 28 (DEDUCED). -/
def execNakReceive (port : PortId) (sequence : Nak) (s : State) : Res :=
  effect (fun s =>
    let p := port.val
    if s.link p ≠ .active then s
    else
      match (s.port p).place (seqMod (s.format p)) sequence.sequence.val with
      | .held n =>
        let s := s.releaseFlits p n
        if (s.port p).outstanding.isEmpty then s
        else s.replay p (sequence.selective && s.portMode p = 1 && s.format p = 2)
      | .released => s
      | .unsent => s.sequenceError p) s

/-- The replay timer of a port has run for ReplayTimer (R95). -/
def State.replayDue (s : State) (p : Nat) : Bool :=
  (s.port p).replayRunning && !(s.port p).outstanding.isEmpty
    && decide (s.r (K.portReplayTimer p) ≤ s.nsAgo (s.port p).replayAt)

/-- REPLAY_TIMER_EXPIRY: every outstanding flit is replayed; the timer is frozen while the port is STALLED (R95). -/
def execReplayTimerExpiry (port : PortId) (s : State) : Res :=
  effect (fun s =>
    let p := port.val
    if s.linksRun && s.link p = .active && s.replayDue p then s.replay p false else s) s

/-! ## Credits (R91, R97) -/

/-- A channel's cumulative counts: the higher of what is known and what an update brings (R91). -/
def raised (t : Tbl (Nat × Nat)) (c h d : Nat) : Tbl (Nat × Nat) :=
  let (a, b) := Tbl.getD t c (0, 0)
  Tbl.putD t c (max a h, max b d) (0, 0)

/-- CREDIT_UPDATE_RECEIVE: cumulative counts of the partner, dedicated and shared (R89, R91). -/
def execCreditUpdateReceive (port : PortId) (chan : Chan) (headers datas : Credits) (s : State) : Res :=
  effect (fun s =>
    let p := port.val
    if s.link p ≠ .active then s
    else
      let c := chanNum chan
      (s.modPort p (fun x => { x with
        credits := raised x.credits c headers.dedicated datas.dedicated
        shared := raised x.shared c headers.shared datas.shared })).creditWatch p) s

/-- CREDIT_UPDATE_REPEAT: the counts of every channel with credits granted are sent again (R91). -/
def execCreditUpdateRepeat (port : PortId) (s : State) : Res :=
  effect (fun s =>
    let p := port.val
    if !s.linksRun || s.link p ≠ .active then s
    else s.each (s.port p).granted (fun u g => u.emit (.creditUpdate p g.1 g.2.1 g.2.2))) s

/-- The moment at which a channel's credit timer expires lies within CreditTimeout beats of the port's return to ACTIVE after
that channel's last timeout (R97). -/
def State.timesOutAgain (s : State) (p c expiry : Nat) : Bool :=
  match Tbl.find (s.port p).lastTimeout c with
  | some b => decide (b ≠ 0) && decide (expiry ≤ b - 1 + 1024 * s.r (K.portCreditTimeout p))
  | none => false

/-- CREDIT_TIMEOUT: the time of the stall is counted, and the port retrains, or goes DOWN where the channel timed out again soon after
(R97, R284). -/
def execCreditTimeout (port : PortId) (chan : Chan) (s : State) : Res :=
  effect (fun s =>
    let p := port.val
    let c := chanNum chan
    match Tbl.find (s.port p).creditTimer c with
    | none => s
    | some (n, t) =>
      let expiry := (n + s.r (K.portCreditTimeout p)) * 1024 + t
      if s.link p ≠ .active || s.beat * 1024 + s.tick < expiry then s
      else
        let again := s.timesOutAgain p c expiry
        let s := ((s.bump (K.portCreditTimeouts p) 1).accrueStalls p).modPort p (fun x =>
          { x with creditTimer := Tbl.del x.creditTimer c, stalledNs := Tbl.del x.stalledNs c
                   lastTimeout := Tbl.put x.lastTimeout c 0 })
        let s := s.occur (Src.port p 3)
        if again then s.portDown p causeLinkDown else s.retrain p) s

end Sys2Proof.Machine
end

