-- ==== Sys2Proof/Machine/Tenant.lean ====
section
/-! DEFINITION. Tenants (08): resets and their end, completions checked against their tags, emulated hot-plug slots and the
presented objects of VMDs. -/

namespace Sys2Proof.Machine

/-! ## Resets (R144 to R149) -/

/-- The ports of a tenant. -/
def State.tenantPorts (s : State) (t : Nat) : List Nat :=
  ((s.r (K.tenantPrimaryPort t) :: toBytes 3 (s.r (K.tenantAuxPorts t))).filter (fun p => decide (p < 96))).eraseDups

/-- The checks of TenantReset: the tenant exists (R141). Log entry 12 (DEDUCED). -/
def State.tenantResetChecks (s : State) (args : List Byte) : CmdChecks :=
  let t := fieldAt args 0 1
  { resource := if t < 64 && s.tenantState t = .disabled then some 0x0502 else none
    range := if 63 < t then some 0x0702 else none }

/-- TENANT_RESET: every port of the tenant goes DOWN and trains again; one reset with cause COMMAND (R144). Log entry
27 (DEDUCED). -/
def execTenantReset (env : JdpEnv) (s : State) : Res :=
  effectOf env (fun s => s.trigger env 0x3040 (fun s args => s.tenantResetChecks args)
    (fun s args =>
      let t := fieldAt args 0 1
      let s := s.each (s.tenantPorts t) (fun u p => if u.linkUp p then u.dropLink p else u)
      let s := s.resetTenant t causeCommand
      (s.each ((s.tenantPorts t).filter s.isHost) State.discardHeld).cmdDone 0x3040 [])) s

/-- DIRECTORY_SWEEP_COMPLETE: a home slice has taken the tenant out of its entries (R146). -/
def execDirectorySweepComplete (home : HomeId) (tenant : TenantId) (s : State) : Res :=
  effect (fun s =>
    let h := home.val
    let t := tenant.val
    if s.garnet.sweeping.contains (h, t) then
      let s := s.sweepHome h t none
      let left := s.garnet.sweeping.filter (fun x => decide (x ≠ (h, t)))
      ({ s with garnet := { s.garnet with sweeping := left } }).pollGeneration t
    else s) s

/-- TENANT_CLEANUP_END: every sweep is done, staging holds nothing of the tenant and its generation has moved; the
tenant is ACTIVE or DOWN by its primary port (R147, R149). -/
def execTenantCleanupEnd (tenant : TenantId) (s : State) : Res :=
  effect (fun s =>
    let t := tenant.val
    let s := s.pollGeneration t
    if s.tenantState t = .resetting && !s.garnet.sweeping.any (fun x => decide (x.2 = t)) && s.stagingClear t
        && (s.tenant t).genWaits = 0 then
      let p := s.r (K.tenantPrimaryPort t)
      let s := s.setTenant t (if p < 96 && s.link p = .active then .active else .down)
      s.w (K.tenantCleanupTime t) (min (2 ^ 32 - 1) (s.nsSince (s.tenant t).resetBeat (s.tenant t).resetTick))
    else s) s

/-! ## Completions (R158) -/

/-- The completion belongs to an older generation of its tenant or VMD. -/
def State.staleTag (s : State) (g : Tag) : Bool :=
  decide (g.gen ≠ s.r (K.tenantGeneration g.tenant)) ||
    (match g.vmd with
     | some v => decide (g.bindGen ≠ s.r (K.vmdBindGeneration v))
     | none => false)

/-- What answers a request: its kind, class and link channel. -/
def answerKind (k : MsgKind) (good : Bool) : MsgKind × Cls × Chan :=
  match k with
  | .memRd mv => (.drs mv, .memRsp, .s2mDrs)
  | .tlp .memRead => (if good then .cplData else .cplUr, .ioCpl, .completion)
  | .tlp .cfgRead => (if good then .cplData else .cplUr, .ioCpl, .completion)
  | .tlp .cfgWrite => (if good then .cplData else .cplUr, .ioCpl, .completion)
  | .tlp .atomicOp => (if good then .cplData else .cplUr, .ioCpl, .completion)
  | .atomic _ => (if good then .cplData else .cplCa, .ioCpl, .completion)
  | _ => (.ndrCmp, .memRsp, .s2mNdr)

/-- The completion of a request that crosses this switch, as a message of the fabric to its source. Log entry 66 (DESIGN CHOICE). -/
def fabricCompletion (f : FabricMsg) (x : CplBody) (poisoned good : Bool) : FabricMsg :=
  let io := decide (fabricCls f = .ioNp)
  { src := f.dst, dst := f.src, classByte := if io then 0 else 4, kind := .response, payload := x.data,
    bytes := if io then x.head.length + x.ecrc.length + x.len else if f.kind = .memRead then 80 else 16, tag := f.tag, tenant := f.tenant,
    reply := if poisoned then some .poisonedData else if io && !good then some .unsupportedRequest else none }

/-- A completion as a message: for the unit of the switch whose request it is, for another switch's requester, or for the requesting
port. A CXL.mem completion of a x16 port takes its slice by bit 0 of its tag (R108); a TLP's header and attributes are carried as
received (R103, R114). -/
def State.completionMsg (s : State) (p d : Nat) (g : Tag) (x : CplBody) (poisoned good : Bool) : Msg :=
  match tagUnit g with
  | some u =>
    let (k, c) : MsgKind × Chan := match g.msg.kind with | .memRd _ => (.drs .invalid, .s2mDrs) | _ => (.ndrCmp, .s2mNdr)
    { kind := k, cls := .memRsp, tenant := g.tenant, src := s.sourceSlice p d, dst := u, bytes := k.bytes,
      dtag := some d, addr := g.msg.addr, data := x.data, poison := poisoned, gen := g.gen, port := p, chan := some (chanNum c) }
  | none =>
    match g.msg.kind with
    | .fabric f => s.fabricMsg p p (fabricCompletion f x poisoned good)
    | _ =>
      let (k, c, ch) := answerKind g.msg.kind good
      let io := decide (c = .ioCpl)
      { kind := k, cls := c, tenant := g.tenant, src := s.sourceSlice p (if c = .memRsp then d else g.hostPort),
        dst := g.hostPort, head := if io then x.head else [], ecrc := if io then x.ecrc else []
        bytes := answerBytes k g.msg + (if io then x.head.length + x.ecrc.length - k.headLen else 0), vmd := g.vmd,
        hostTag := g.hostTag, addr := g.msg.addr, data := x.data, poison := poisoned, gen := g.gen, bindGen := g.bindGen,
        port := p, attrs := x.attrs, sample := g.msg.sample, chan := some (chanNum ch) }

/-- A completion that is not stale: that of a unit's request goes on to its unit, one of another switch's request to the port of its
route, any other joins the receive buffer of its channel for the requesting port. -/
def State.acceptCompletion (s : State) (p d : Nat) (g : Tag) (x : CplBody) (poisoned good : Bool) : State :=
  let m := s.completionMsg p d g x poisoned good
  if (tagUnit g).isSome then s.receive p m
  else
    let s := s.finish { g.msg with dtag := some d }
    match m.kind with
    | .fabric f => s.forwardFabric (some p) false false f
    | _ => s.receive p m

/-- COMPLETION_RECEIVE: the completion is matched with its downstream tag, and discarded where a generation in the tag is
older than the present one, its credit returned (R10, R90, R158). What was sent over a fabric link may be answered over another
(R241). -/
def execCompletionReceive (port : PortId) (dtag : Nat) (data : CplBody) (poisoned good : Bool) (s : State) : Res :=
  effect (fun s =>
    let p := port.val
    match Tbl.find s.core.tags dtag with
    | none => s
    | some g =>
      if (g.outPort ≠ p && !(s.isFabric p && s.isFabric g.outPort)) || !s.carries p || !g.sentDown then s
      else if (tagUnit g).isNone && !g.msg.transit && s.staleTag g then
        let m := s.completionMsg p dtag g data poisoned good
        let s := (s.finish { g.msg with dtag := some dtag }).bump (K.tenantStaleCompletions g.tenant) 1
        let s := match g.vmd with
          | some v => (s.bump (K.vmdStaleCompletions v) 1).pollBindGeneration v
          | none => s
        (s.pollGeneration g.tenant).freeArrival m
      else s.acceptCompletion p dtag g data poisoned good) s

/-! ## Destruction of VMDs (R155) -/

/-- A VMD destruction applies: its requests in ingress staging, or waiting for it, are discarded at once (R155). -/
def State.destroyVmd (s : State) (v : Nat) : State :=
  let s := s.stepBindGeneration v
  let s := s.endFills (fun j => decide (j.forVmd = some v))
  (s.discardIngress (fun m => decide (m.vmd = some v) && m.cls.isRequest)).setVmd v .draining

/-- VMD_DESTROY (R155). -/
def execVmdDestroy (env : JdpEnv) (s : State) : Res :=
  effectOf env (fun s => s.trigger env 0x3501 (fun s args => s.vmdDestroyChecks args)
    (fun s args =>
      let v := fieldAt args 0 2
      let s := if s.device = .preop then s.destroyVmd v
        else { s with stagedActs := s.stagedActs ++ [.vmdDestroy v] }
      s.cmdDone 0x3501 [])) s

/-! ## Emulated slots (R160, R161) -/

/-- EMULATED_ATTENTION_ACKNOWLEDGE (R161). -/
def execEmulatedAttentionAcknowledge (tenant : TenantId) (vppb : Fin 32) (s : State) : Res :=
  effect (fun s => s.acknowledge tenant.val vppb.val) s

/-- The attention button of a vPPB is pressed: AttentionPending, and Attention Button Pressed in the emulated Slot Status
(R161). -/
def State.pressAttention (s : State) (t b : Nat) : State := (s.setVppbBit t b 44 true).slotEvent t b 1 1

/-- The checks of AttentionPress. -/
def attentionChecks (args : List Byte) : CmdChecks :=
  { range := if 63 < fieldAt args 0 1 || 31 < fieldAt args 1 1 then some 0x0702 else none }

/-- ATTENTION_PRESS (R161). -/
def execAttentionPress (env : JdpEnv) (s : State) : Res :=
  effectOf env (fun s => s.trigger env 0x3041
    (fun _ args => attentionChecks args)
    (fun s args =>
      (s.pressAttention (fieldAt args 0 1) (fieldAt args 1 1)).cmdDone 0x3041 [])) s

/-! ## The presented objects of VMDs (R150, R176) -/

/-- HDM_DECODER_COMMIT: committed at once, or pending until every entry of the VMD's windows is written (R176). -/
def execHdmDecoderCommit (vmd : VmdId) (decoder : Fin 4) (s : State) : Res :=
  effect (fun s =>
    let v := vmd.val
    let d := 4 * v + decoder.val
    if s.vmdState v ≠ .bound || s.beryl.commitPending.contains d then s
    else ({ s with beryl := { s.beryl with commitPending := s.beryl.commitPending ++ [d] } }).grantDecoders) s

/-- CLEAR_EVENT_RECORDS: the records named, or all of them, leave the VMD's event log (R143, R150). -/
def execClearEventRecords (vmd : VmdId) (handles : Option (List Nat)) (s : State) : Res :=
  effect (fun s => s.modVmd vmd.val (fun x =>
    { x with events := x.events.filter (fun e => match handles with | none => false | some l => !l.contains e.handle) })) s

end Sys2Proof.Machine
end

