-- ==== Sys2Proof/Machine/Slot.lean ====
section
/-! DEFINITION. Hot-plug slot power (16): presence, attempts, current limit, trips and retries, damage, feeds, power-good
and the slot's port. -/

namespace Sys2Proof.Machine

/-! ## Channel states (Table 16-2) -/

/-- ChannelState by number (Table 16-4). Log entry 51 (DEDUCED). -/
def ChannelState.num : ChannelState → Nat
  | .empty => 0 | .seating => 1 | .ready => 2 | .precharge => 3 | .ramp => 4 | .fullDrive => 5 | .powered => 6
  | .retryWait => 7 | .inputLow => 8 | .retired => 9

/-- The channel state of a number. -/
def ChannelState.ofNum : Nat → ChannelState
  | 0 => .empty | 1 => .seating | 2 => .ready | 3 => .precharge | 4 => .ramp | 5 => .fullDrive | 6 => .powered
  | 7 => .retryWait | 8 => .inputLow | _ => .retired

/-- `.02 ChannelState`. -/
def State.chan (s : State) (c : Nat) : ChannelState := ChannelState.ofNum (s.r (K.slotChannelState c))

/-- A change of channel state; RETIRED is left only by start-up (R312). -/
def State.setChan (s : State) (c : Nat) (x : ChannelState) : State :=
  if s.chan c = .retired then s else s.w (K.slotChannelState c) x.num

/-- The states that presence alone decides. -/
def State.restChan (s : State) (c : Nat) : ChannelState :=
  if (s.slot c).seated then .ready else if (s.slot c).long || (s.slot c).short then .seating else .empty

/-- A gate of the channel is on. -/
def SlotSt.gateOn (x : SlotSt) : Bool := x.hsg || x.pcg

/-- A gate of the channel is on. -/
def State.gatesOn (s : State) (c : Nat) : Bool := (s.slot c).gateOn

/-- At least n samples of 10 µs have passed since the count was `from'` (R302). Log entry 30 (DEDUCED). -/
def SlotSt.past (x : SlotSt) (from' n : Nat) : Bool := decide (from' + n ≤ x.count)

/-- The on time of the attempt in µs: 10 µs for each sample; 0 when no attempt is under way. -/
def State.onTime (s : State) (c : Nat) : Nat := if (s.slot c).attempt then (s.slot c).onSamples * 10 else 0

/-- The details of a slot source (Table 16-3). -/
def State.slotReport (s : State) (c : Nat) : Report :=
  let d0 := setBits (setBits (setBits 0 7 0 c) 15 8 (s.r (K.slotChannelState c))) 19 16 (s.r (K.slotLastTripCause c))
  let d0 := setBits (setBits (setBits d0 21 20 (s.r (K.slotPresence c))) 39 24 (s.slot c).sense) 55 40 (s.r (K.slotOutputVoltage c))
  let d1 := setBits (setBits (setBits 0 31 0 (s.onTime c)) 39 32 (s.r (K.slotRetriesUsed c))) 55 40 (s.r (K.slotInputVoltage c))
  { d0 := d0, d1 := d1 }

/-- An occurrence of a slot source with the details of Table 16-3. -/
def State.slotOccur (s : State) (c k : Nat) : State := s.occurWith (Src.slot c k) (s.slotReport c)

/-- The DEVICE port that the slot's card uses. -/
def State.slotPort (s : State) (c : Nat) : Option Nat :=
  let p := s.r (K.slotAssociatedPort c)
  if p < 96 then some p else none

/-- Power-good becomes FALSE: the slot's port goes DOWN (R309, R311). -/
def State.dropGood (s : State) (c : Nat) : State :=
  if s.on (K.slotPowerGood c) then
    let s := (s.wb (K.slotPowerGood c) false).modSlot c (fun x => { x with trainDue := false })
    match s.slotPort c with
    | some p => s.portDown p causeLinkDown
    | none => s
  else s

/-- Both gates off; an attempt under way ends. -/
def State.gatesOff (s : State) (c : Nat) : State :=
  (s.dropGood c).modSlot c (fun x => { x with hsg := false, pcg := false, attempt := false, regulating := false,
                                              timerRunning := false, outHigh := 0
                                              offAt := if x.gateOn then x.count else x.offAt })

/-- The channel is retired: gates off for good, and its port retired (R312): whether Onyx had retired it already. Log
entry 30 (DEDUCED). -/
def State.retireSlot (s : State) (c : Nat) : Bool × State :=
  if (s.slot c).retired then (true, s)
  else
    let s := ((s.gatesOff c).setChan c .retired).modSlot c (fun x => { x with retired := true })
    (false, match s.slotPort c with | some p => (s.retirePort p).2 | none => s)

/-! ## Presence (R298, R310) -/

/-- A seated channel stops being seated: the source occurs once and RetriesUsed returns to 0 (R298, R304). Log entry 30
(DEDUCED). -/
def State.unseat (s : State) (c : Nat) : State :=
  if (s.slot c).seated then
    (((s.slotOccur c 0).modSlot c (fun x => { x with seated := false })).w (K.slotRetriesUsed c) 0)
  else s

/-- PRESENCE_CHANGE: a presence input changes; a channel without power is SEATING or EMPTY (R298, Table 16-2). Log
entry 30 (DEDUCED). -/
def execPresenceChange (slot : SlotId) (long short : Bool) (s : State) : Res :=
  effect (fun s =>
    let c := slot.val
    if (s.slot c).long = long && (s.slot c).short = short then s
    else
      let s := (s.w (K.slotPresence c) (2 * ofBool long + ofBool short)).unseat c
      let s := s.modSlot c (fun x =>
        { x with long := long, short := short, changedAt := x.count, shortGone := if short then 0 else x.shortGone })
      if s.gatesOn c then s else s.setChan c (s.restChan c)) s

/-- PRESENCE_SEATED: both inputs asserted without interruption for 100 ms (R298, R313). -/
def execPresenceSeated (slot : SlotId) (s : State) : Res :=
  effect (fun s =>
    let c := slot.val
    let x := s.slot c
    if x.long && x.short && !x.seated && x.past x.changedAt 10000 && s.device ≠ .boot && s.device ≠ .hold then
      let s := (s.slotOccur c 0).modSlot c (fun x => { x with seated := true, seatedAt := x.count })
      if s.chan c = .seating then s.setChan c .ready else s
    else s) s

/-! ## Attempts (R299 to R301) -/

/-- What every attempt checks (R299): seated, PowerRequest ON, not shorted. -/
def State.mayAttempt (s : State) (c : Nat) : Bool :=
  (s.slot c).seated && s.r (K.slotPowerRequest c) = 1 && !(s.slot c).shorted

/-- An attempt starts: PRECHARGE or RAMP, the fault timer at 0 (R299, R302). -/
def State.startAttempt (s : State) (c : Nat) : State :=
  let ramp := s.r (K.slotInrushMode c) = 1
  (s.setChan c (if ramp then .ramp else .precharge)).modSlot c (fun x =>
    { x with hsg := ramp, pcg := !ramp, timer := 0, below := 0, timerRunning := false, regulating := false, onSamples := 0,
             attempt := true })

/-- ATTEMPT_START: with every condition of R299 met the channel leaves READY. -/
def execAttemptStart (slot : SlotId) (s : State) : Res :=
  effect (fun s =>
    let c := slot.val
    let x := s.slot c
    if s.chan c = .ready && s.mayAttempt c && x.past (max x.seatedAt x.requestAt) (100 * s.r (K.slotStartDelay c))
        && (s.device = .preop || s.device = .operational)
        && decide (10000 ≤ s.r (K.slotInputVoltage c)) then s.startAttempt c else s) s

/-- Full drive begins. -/
def State.fullDrive (s : State) (c : Nat) : State :=
  (s.setChan c .fullDrive).modSlot c (fun x => { x with hsg := true, driveAt := x.count, hsgReached := false })

/-- The output is at or above PgThreshold percent of the input (R300, R309). -/
def State.outputUp (s : State) (c : Nat) : Bool :=
  decide (s.r (K.slotInputVoltage c) * s.r (K.slotPgThreshold c) ≤ s.r (K.slotOutputVoltage c) * 100)

/-- The output is within 250 mV of the input (R301). -/
def State.outputNear (s : State) (c : Nat) : Bool :=
  decide (s.r (K.slotInputVoltage c) ≤ s.r (K.slotOutputVoltage c) + 250)

/-- PRECHARGE_COMPLETE: the output has reached PgThreshold (R300). -/
def execPrechargeComplete (slot : SlotId) (s : State) : Res :=
  effect (fun s => if s.chan slot.val = .precharge && s.outputUp slot.val then s.fullDrive slot.val else s) s

/-- PCG_TURN_OFF: 1 ms after full drive (R300). -/
def execPcgTurnOff (slot : SlotId) (s : State) : Res :=
  effect (fun s =>
    let x := s.slot slot.val
    if x.hsg && x.past x.driveAt 100 then s.modSlot slot.val (fun x => { x with pcg := false }) else s) s

/-- RAMP_COMPLETE: the output has come within 250 mV of the input (R301). -/
def execRampComplete (slot : SlotId) (s : State) : Res :=
  effect (fun s => if s.chan slot.val = .ramp && s.outputNear slot.val then s.fullDrive slot.val else s) s

/-! ## Trips, retries and damage (R300 to R306) -/

/-- Causes of Table 16-4: FAULT_TIMER. -/
def tripFaultTimer : Nat := 1
/-- FAST_TRIP. -/
def tripFast : Nat := 2
/-- PRECHARGE_TIMEOUT. -/
def tripPrecharge : Nat := 3
/-- GATE_STUCK. -/
def tripGateStuck : Nat := 4
/-- SHORTED. -/
def tripShorted : Nat := 5
/-- PRESENCE_LOST. -/
def tripPresenceLost : Nat := 6

/-- An attempt trips: gates off, counted, and a retry waits or the channel is retired (R304, R312). -/
def State.trip (s : State) (c cause k : Nat) : State :=
  let s := (s.w (K.slotLastTripCause c) cause).slotOccur c k
  let on := s.onTime c
  let limit := s.r (K.slotRetryLimit c)
  let used := s.r (K.slotRetriesUsed c)
  let s := s.bump (K.slotTripCount c) 1
  if used < limit || limit = 255 then
    let s := ((s.gatesOff c).setChan c .retryWait).w (K.slotRetriesUsed c) (min 254 (used + 1))
    s.modSlot c (fun x => { x with offTime := max (99 * on) 100000 })
  else ((s.slotOccur c 3).gatesOff c).setChan c .retired

/-- The pass path is damaged: the source retires the channel at once (R305, R306). -/
def State.damage (s : State) (c cause k : Nat) : State :=
  (((s.w (K.slotLastTripCause c) cause).slotOccur c k).gatesOff c).setChan c .retired

/-- PRECHARGE_TIMEOUT: the output has not reached PgThreshold within PrechargeTimeout (R300). -/
def execPrechargeTimeout (slot : SlotId) (s : State) : Res :=
  effect (fun s =>
    let c := slot.val
    if s.chan c = .precharge && decide (100 * s.r (K.slotPrechargeTimeout c) ≤ (s.slot c).onSamples) && !s.outputUp c then
      s.trip c tripPrecharge 1
    else s) s

/-- The time that a ramp may take, in µs: 2 × input / RampRate + 2 ms (R301). -/
def State.rampLimit (s : State) (c : Nat) : Nat :=
  20 * s.r (K.slotInputVoltage c) / max 1 (s.r (K.slotRampRate c)) + 2000

/-- RAMP_TIMEOUT: the transistor does not conduct, while the channel was not regulating (R301, R305). Log entry 30
(DEDUCED). -/
def execRampTimeout (slot : SlotId) (s : State) : Res :=
  effect (fun s =>
    let c := slot.val
    if s.chan c = .ramp && !(s.slot c).regulating && decide (s.rampLimit c ≤ s.onTime c) && !s.outputNear c then
      s.damage c tripGateStuck 4
    else s) s

/-- FAULT_TIMER_EXPIRY: the timer has reached FaultTime (R302). -/
def execFaultTimerExpiry (slot : SlotId) (s : State) : Res :=
  effect (fun s =>
    let c := slot.val
    if s.gatesOn c && decide (s.r (K.slotFaultTime c) * 10 ≤ (s.slot c).timer) then s.trip c tripFaultTimer 1 else s) s

/-- FAST_TRIP: the sense voltage exceeds FastTripMultiple × LimitThreshold, in every state with a gate on (R303). -/
def execFastTrip (slot : SlotPeak) (s : State) : Res :=
  effect (fun s =>
    let c := slot.slot.val
    if s.gatesOn c && decide (s.r (K.slotFastTripMultiple c) * s.r (K.slotLimitThreshold c) * 100 < slot.sense) then
      (s.modSlot c (fun x => { x with sense := slot.sense })).trip c tripFast 2
    else s) s

/-- RETRY_OFF_TIME_ELAPSED: the off time over, the next attempt, under the checks of R299 but StartDelay (R304, R313). -/
def execRetryOffTimeElapsed (slot : SlotId) (s : State) : Res :=
  effect (fun s =>
    let c := slot.val
    let x := s.slot c
    if s.chan c = .retryWait && decide (x.offTime ≤ 10 * (x.count - x.offAt)) && s.mayAttempt c && s.device ≠ .boot && s.device ≠ .hold
        && decide (10000 ≤ s.r (K.slotInputVoltage c)) then s.startAttempt c else s) s

/-- RETRIES_USED_RESET: power-good held for 1,000 ms (R304). -/
def execRetriesUsedReset (slot : SlotId) (s : State) : Res :=
  effect (fun s =>
    let x := s.slot slot.val
    if s.on (K.slotPowerGood slot.val) && x.past x.goodAt 100000 then s.w (K.slotRetriesUsed slot.val) 0 else s) s

/-- GATE_STUCK: HSG has not risen within 2 ms of full drive (R305). -/
def execGateStuck (slot : SlotId) (s : State) : Res :=
  effect (fun s =>
    let x := s.slot slot.val
    if s.chan slot.val = .fullDrive && x.past x.driveAt 200 && !x.hsgReached then
      s.damage slot.val tripGateStuck 4
    else s) s

/-- SHORTED_PASS_TRANSISTOR: the output has stayed up for 10 ms, watched from 100 ms after both gates turned off (R306). -/
def execShortedPassTransistor (slot : SlotId) (s : State) : Res :=
  effect (fun s =>
    let c := slot.val
    if s.gatesOn c || (s.slot c).outHigh < 1000 then s
    else (s.modSlot c (fun x => { x with shorted := true })).damage c tripShorted 5) s

/-! ## Samples and power-good (R302, R309) -/

/-- The fault timer over one sample: 10 µs up at or above the limit, 10 µs down every 16 samples below it. -/
def SlotSt.sampleTimer (x : SlotSt) (high : Bool) : SlotSt :=
  if high then { x with timer := x.timer + 1, below := 0, timerRunning := true }
  else if x.below + 1 < 16 then { x with below := x.below + 1, timerRunning := false }
  else { x with below := 0, timer := x.timer - 1, timerRunning := false }

/-- The counts of samples that R306, R308 and R310 wait for, over one sample. -/
def SlotSt.watch (x : SlotSt) (m : SlotMeas) : SlotSt :=
  { x with
    count := x.count + 1
    outHigh := if !x.gateOn && x.past x.offAt 10000 && decide (m.input * 80 ≤ m.output * 100) then x.outHigh + 1 else 0
    inLow := if m.input < 9500 then x.inLow + 1 else 0
    inOk := if m.input < 10000 then 0 else x.inOk + 1
    shortGone := if x.short then 0 else x.shortGone + 1 }

/-- Power-good in a sample (R309). -/
def State.goodNow (s : State) (c : Nat) : Bool :=
  (s.chan c = .fullDrive || s.chan c = .powered)
    && s.outputUp c && decide (4000 ≤ (s.slot c).hsgAboveOut) && !(s.slot c).timerRunning

/-- SLOT_SAMPLE: measurements are shown, the fault timer moves, and power-good is evaluated (R302, R309). -/
def execSlotSample (slot : SlotId) (m : SlotMeas) (s : State) : Res :=
  effect (fun s =>
    let c := slot.val
    let s := (s.w (K.slotInputVoltage c) (m.input % 65536)).w (K.slotOutputVoltage c) (m.output % 65536)
    let s := s.w (K.slotCurrent c) (m.sense * 10000 / max 1 (s.r (K.slotSenseResistance c)) % 2 ^ 32)
    let on := s.gatesOn c
    let high := on && decide (s.r (K.slotLimitThreshold c) * 100 ≤ m.sense)
    let limits := s.chan c = .ramp || s.chan c = .fullDrive || s.chan c = .powered
    let s := s.modSlot c (fun x =>
      { (x.watch m).sampleTimer high with
        sense := m.sense, hsgAboveOut := m.hsgAboveOut, regulating := high && limits
        hsgReached := x.hsgReached || decide (4000 ≤ m.hsgAboveOut)
        onSamples := if x.attempt then x.onSamples + 1 else x.onSamples })
    if s.goodNow c then
      if s.on (K.slotPowerGood c) then s
      else ((s.wb (K.slotPowerGood c) true).setChan c .powered).modSlot c (fun x =>
        { x with trainDue := true, goodAt := x.count })
    else s.dropGood c) s

/-! ## Feeds (R307, R308) -/

/-- FeedStatus after a feed's gate turned off or on: conducting and blocked bits (Table 16-4). Log entry 30 (DEDUCED). -/
def State.setFeed (s : State) (c feed : Nat) (blocked : Bool) : State :=
  let v := s.r (K.slotFeedStatus c)
  s.w (K.slotFeedStatus c) (setBit (setBit v (3 - feed) (!blocked)) (1 - feed) blocked)

/-- REVERSE_CURRENT: the feed's gate turns off, and its source occurs (R307). -/
def execReverseCurrent (slot : SlotId) (feed : Fin 2) (s : State) : Res :=
  effect (fun s =>
    let c := slot.val
    if s.device = .boot || s.device = .hold then s
    else
      let s := (s.setFeed c feed.val true).modSlot c (fun x =>
        if feed.val = 0 then { x with gaOff := true } else { x with gbOff := true })
      s.slotOccur c (6 + feed.val)) s

/-- FEED_RECOVERY (R307). -/
def execFeedRecovery (slot : SlotId) (feed : Fin 2) (s : State) : Res :=
  effect (fun s =>
    let c := slot.val
    if s.device = .boot || s.device = .hold then s
    else (s.setFeed c feed.val false).modSlot c (fun x =>
      if feed.val = 0 then { x with gaOff := false } else { x with gbOff := false })) s

/-- INPUT_LOW: below 9.5 V for 2 samples, a channel with a gate on turns off (R308). -/
def execInputLow (slot : SlotId) (s : State) : Res :=
  effect (fun s =>
    let c := slot.val
    if s.gatesOn c && decide (2 ≤ (s.slot c).inLow) then
      ((s.gatesOff c).setChan c .inputLow).bump (K.slotInputLowCount c) 1 else s) s

/-- INPUT_RESTORED: at least 10.0 V for 10 ms, a new attempt starts under R299 (R308). -/
def execInputRestored (slot : SlotId) (s : State) : Res :=
  effect (fun s =>
    let c := slot.val
    if s.chan c = .inputLow && decide (1000 ≤ (s.slot c).inOk) && s.mayAttempt c && (s.device = .preop || s.device = .operational)
    then s.startAttempt c else s) s

/-! ## Requests, removal and the port (R299, R310, R311) -/

/-- `.01 PowerRequest` written: ON is refused for a retired channel; OFF turns the channel off and clears RetriesUsed
(R304, R310, R312). -/
def State.setPower (s : State) (c v : Nat) : Except Nat State :=
  if v = 1 && s.chan c = .retired then .error 0x0502
  else
    let was := s.r (K.slotPowerRequest c)
    let s := s.w (K.slotPowerRequest c) v
    if v = 1 then .ok (if was = 1 then s else s.modSlot c (fun x => { x with requestAt := x.count }))
    else
      let s := s.w (K.slotRetriesUsed c) 0
      .ok (match s.chan c with
        | .empty | .seating | .ready | .retired => s
        | _ => (s.gatesOff c).setChan c (s.restChan c))

/-- A write of `.01 PowerRequest` with its checks. -/
def State.writePower (s : State) (p : Priv) (c : Nat) (data : List Byte) : Served :=
  let o : ObjInfo := ⟨0x01, 0, .enum, .rw, .owner, true, 0, .enum 2⟩
  match firstOf [s.writeRefusal p (0x7800 + c) 0x01,
      if data.headD 0 = 1 && s.chan c = .retired then some 0x0502 else none,
      if data.length = 1 then none else some 0x0601, o.valueRefusal (data.headD 0)] with
  | some code => .error code
  | none => match s.setPower c (data.headD 0) with
    | .error code => .error code
    | .ok s => .ok (s, [])

/-- POWER_REQUEST_ON: a WRITE of PowerRequest ON (R299). -/
def execPowerRequestOn (env : JdpEnv) (slot : SlotId) (s : State) : Res :=
  effectOf env (fun s =>
    s.serve env opWrite (0x7800 + slot.val) 0x01 (fun p s => s.writePower p slot.val env.payload)) s

/-- POWER_REQUEST_OFF: a WRITE of PowerRequest OFF (R310). -/
def execPowerRequestOff (env : JdpEnv) (slot : SlotId) (s : State) : Res :=
  effectOf env (fun s =>
    s.serve env opWrite (0x7800 + slot.val) 0x01 (fun p s => s.writePower p slot.val env.payload)) s

/-- PRESENCE_LOST_TURN_OFF: the short pin has been away for 2 samples (R310). -/
def execPresenceLostTurnOff (slot : SlotId) (s : State) : Res :=
  effect (fun s =>
    let c := slot.val
    if s.gatesOn c && decide (2 ≤ (s.slot c).shortGone) then
      ((s.gatesOff c).w (K.slotLastTripCause c) tripPresenceLost).setChan c (s.restChan c)
    else s) s

/-- SLOT_PORT_TRAINING_START: 100 ms after power-good the hold on the port's training ends (R311). -/
def execSlotPortTrainingStart (slot : SlotId) (s : State) : Res :=
  effect (fun s =>
    let c := slot.val
    let x := s.slot c
    if s.on (K.slotPowerGood c) && x.past x.goodAt 10000 then s.modSlot c (fun x => { x with trainDue := false }) else s) s

end Sys2Proof.Machine
end

