-- ==== Sys2Proof/Machine/Retire.lean ====
section
/-! DEFINITION. Retirement of every kind of target (Table 14-3), the entry to SAFE (R18, R281), cancels (R60 to R63), and
the commands of the fault collector (14). -/

namespace Sys2Proof.Machine

/-! ## Retire targets (R205, R269, R271) -/

/-- A Garnet way of one set is no longer allocated, and its entry is recalled (R205). -/
def State.retireWay (s : State) (h w set : Nat) : Bool × State :=
  let k := setKey h (set % 16384) + w % 16
  if s.garnet.retiredWays.contains k then (true, s)
  else (false, ({ s with garnet := { s.garnet with retiredWays := s.garnet.retiredWays ++ [k] } }).recallRetired h)

/-- The pool of a cell-buffer instance: the middles of a core die in ascending order (R6, R323). -/
def poolOf (memInst : Nat) : Nat := 2 * (memInst % 256) + (memInst / 4096 + 16 - 8) % 2

/-- A row counts as retired until the next start-up; one of the cell buffer or of the sample buffer leaves use (R271,
R323). Log entry 49 (DEDUCED). -/
def State.dropRow (s : State) (d : Report) : State :=
  let s := { s with onyx := { s.onyx with retiredRows := s.onyx.retiredRows ++ [(d.memInst, d.row)] } }
  if d.memInst / 256 % 16 = 0 && (d.memInst / 4096 = 8 || d.memInst / 4096 = 9) && d.memInst % 256 < 24 && d.row < 8192 then
    { s with core := { s.core with retiredCells := s.core.retiredCells ++ [8192 * poolOf d.memInst + d.row] } }
  else if d.memInst / 256 = 0xA5 && d.row < 65536 then
    { s with tel := { s.tel with retiredRows := s.tel.retiredRows ++ [d.row] } }
  else s

/-- A row joins the repair list, unless the list is full (R271). -/
def State.listRow (s : State) (d : Report) : State :=
  if 1024 ≤ s.store.repairs.length then s.occur (Src.device 0x17)
  else { s with store := { s.store with repairs := s.store.repairs ++ [(d.memInst, d.row, d.bit, s.beat)] } }

/-- An SRAM row is retired, unless it has been since start-up: out of use where its array can spare it, and recorded for
repair (R269, R271). -/
def State.retireRow (s : State) (d : Report) : Bool × State :=
  if s.onyx.retiredRows.contains (d.memInst, d.row) then (true, s) else (false, (s.dropRow d).listRow d)

/-- Retirement by kind of target (R269): whether the target was retired already, what is retired, and the state. -/
def retireTarget : Retirer := fun s _ tg d =>
  let as (x : Bool × State) : Bool × SrcTarget × State := (x.1, tg, x.2)
  match tg with
  | .none => (false, tg, s)
  | .lane n => s.retireLane n
  | .port p => as (s.retirePort p)
  | .slot c => as (s.retireSlot c)
  | .garnetWay h w => as (s.retireWay h w d.row)
  | .sramRow => as (s.retireRow d)
  | .engine n => if (s.engine n).retired then (true, tg, s) else (false, tg, s.retireEngine n)

/-! ## Decided commits (R60 to R64, R354) -/

/-- The number of a commit's State (R64). -/
def CommitState.num : CommitState → Nat
  | .armed => 0 | .held => 1 | .applied => 2 | .cancelled => 3 | .lateCancel => 4

/-- The number of a Reason (R64). -/
def CommitReason.num : CommitReason → Nat
  | .none => 0 | .lateArm => 1 | .validation => 2 | .fatal => 3 | .beatless => 4 | .command => 5 | .remoteCancel => 6

/-- The details of a COMMIT entry (Table 14-7). -/
def CommitRec.report (c : CommitRec) : Report := { d0 := c.tag + c.reason.num * 2 ^ 32, d1 := beatVal c.target 0 }

/-- A commit is decided: `0x1423` and `0x1424` show it (R64, R354). -/
def State.recordCommit (s : State) (c : CommitRec) : State :=
  { s with commits := ({ c with decidedBeat := s.beat, decidedTick := s.tick } :: s.commits).take 64 }

/-- A commit is CANCELLED: counted and reported (Table 3-4). -/
def State.decideCancelled (s : State) (c : CommitRec) (why : CommitReason) : State :=
  let c := { c with state := .cancelled, reason := why }
  (s.recordCommit c).missedWork 3 c.report

/-- A commit is LATE_CANCEL: counted and reported (Table 3-4). -/
def State.decideLate (s : State) (c : CommitRec) (why : CommitReason) : State :=
  let c := { c with state := .lateCancel, reason := why }
  (s.recordCommit c).missedWork 2 c.report

/-- A cancel queued as link control on every inter-switch link but one (R61, R128). -/
def State.sendCancel (s : State) (tag target : Nat) (but : Option Nat) : State :=
  let s := { s with fabric := { s.fabric with forwarded := s.fabric.forwarded ++ [(tag, target)] } }
  s.each (s.managedPorts.filter (fun p => but ≠ some p)) (fun u p => u.queueOut p (.cancel p tag target))

/-- The values of a staged command that waits return what its trigger marked STAGED (R152, R207). -/
def State.unstage (s : State) (a : StagedAct) : State :=
  match a with
  | .vmdCreate args =>
    let v := fieldAt args 0 2
    if s.vmdState v = .staged then s.setVmd v .absent else s
  | .regionCreate args => if s.r (K.regionState (rcRegion args)) = 1 then s.w (K.regionState (rcRegion args)) 0 else s
  | _ => s

/-- The staged set becomes empty (R25): VMDs and regions that it would have created are ABSENT again. -/
def State.discardStagedSet (s : State) : State :=
  ({ s with staged := [], stagedActs := [] }).each s.stagedActs State.unstage

/-- The armed set is discarded with what it has drawn (R63, R153). -/
def State.dropArmed (s : State) : State :=
  match s.armed with
  | none => s
  | some a => ((({ s with armed := none, beryl := { s.beryl with loaded := [] } }).undraw a.draws a.quotas (if a.com.state = CommitState.held then a.acts else []))).each a.acts
      State.unstage

/-- The armed commit is cancelled by this switch (R60, R62, R63); before (N - 1):1000 the cancel still stops it everywhere. -/
def State.cancelArmed (s : State) (why : CommitReason) (flood : Bool) : State :=
  match s.armed with
  | none => s
  | some a =>
    let s := if flood then s.sendCancel a.com.tag a.com.target none else s
    (s.dropArmed).decideCancelled a.com why

/-! ## SAFE (R18, R27, R281) -/

/-- PENDING commands end FAILED with ResultCode 0xFFFE (R27). Log entry 31 (DEDUCED). -/
def State.failPending (s : State) : State :=
  s.each ((s.cmds.filter (fun e => decide (e.2.state = .pending))).map (·.1)) (fun u i => u.cmdFailed i 0xFFFE)

/-- The device enters SAFE at the end of a sweep: the cancel of R18 leaves first, commands end, lanes go idle. Log
entry 31 (DEDUCED). -/
def State.enterSafe (s : State) : State :=
  let s := ((s.cancelArmed .fatal true).failPending).endCheck
  let s := { s with
    garnet := { s.garnet with recallRun := none }
    jasper := { s.jasper with cancelling := none }
    fabric := { s.fabric with assigning := none }
    startup := { s.startup with reacquire := false }
    tel := { s.tel with snapshotAt := none }
    pins := { s.pins with lanesIdle := true } }
  s.setDevice .safe

/-- ONYX_SWEEP (R272 to R274). -/
def execOnyxSweep (s : State) : Res :=
  effect (fun s => s.sweep retireTarget State.enterSafe) s

/-- The beats run: start-up has reached PREOP (R47, R330). Log entry 1 (DESIGN CHOICE). -/
def State.beatsRun (s : State) : Bool := !(s.device = .boot || s.device = .hold)

/-- NOTIFICATION_DEADLINE: tick 1,023 of the beat (R278). -/
def execNotificationDeadline (s : State) : Res :=
  if s.beatsRun then clocked s.beat 1023 (fun s => s.discardNotifies) s else effect (fun s => s) s

/-! ## Source objects (R275, R283) -/

/-- A write of one source object is admitted when the source is assigned, then by length and value. -/
def State.sourceRefusal (s : State) (p : Priv) (k sub : Nat) (data : List Byte) (bad : Nat → Option Nat) : Option Nat :=
  firstOf [s.writeRefusal p (0x6000 + k) sub,
    if (Src.info k).cls = .unused then some 0x0502 else none,
    if data.length ≠ 1 then some 0x0601 else none, bad (ofBytes data)]

/-- The latch of a source cleared (R283). -/
def State.clearLatch (s : State) (k : Nat) : State := s.wb (K.sourceLatch k) false

/-- What the unit of a source would report of an occurrence at this moment (R275): a slot channel its details (Table 16-3), a
region its number, a port its own, the commits the armed one, a beat entry the beat number, an access-control unit its LastRefusal,
and an SRAM-row source its array. Log entry 63 (DESIGN CHOICE). -/
def State.unitReport (s : State) (k : Nat) : Report :=
  let d := plainReport k
  if k = 0x05 || k = 0x07 then { d with d0 := s.beat, d1 := s.beat }
  else if 0x08 ≤ k && k ≤ 0x0A then (match s.armed with | some a => a.com.report | none => d)
  else if 0x200 ≤ k && k < 0x300 then { d with d0 := k - 0x200 }
  else if 0xA80 ≤ k && k < 0xB80 then s.slotReport ((k - 0xA80) / 8)
  else if 0xBB0 ≤ k && k < 0xC94 && (k - 0xBB0) % 4 < 2 then
    let row := s.r (K.acuLastRefusal ((k - 0xBB0) / 4))
    { d with d0 := row / 2 ^ 64, d1 := row % 2 ^ 64 }
  else d

/-- `.04 Force` written: one occurrence, logged as FORCED (R275). A port source that cannot occur is unchanged. Log
entry 35 (DEDUCED). -/
def State.writeForce (s : State) (p : Priv) (k : Nat) (data : List Byte) : Served :=
  match s.sourceRefusal p k 0x04 data (fun v => if v = 0 then some 0x0701 else if 2 < v then some 0x0702 else none) with
  | some c => .error c
  | none => .ok (s.occurWith k { s.unitReport k with forced := true, dry := decide (ofBytes data = 2) }, [])

/-- `.05 Latch` written: only FALSE (R283). -/
def State.writeLatch (s : State) (p : Priv) (k : Nat) (data : List Byte) : Served :=
  match s.sourceRefusal p k 0x05 data (fun v => if v = 0 then none else if v = 1 then some 0x0702 else some 0x0602) with
  | some c => .error c
  | none => .ok (s.clearLatch k, [])

/-- `.06 Occurrences` written: only 0 (R283). -/
def State.writeOccurrences (s : State) (p : Priv) (k : Nat) (data : List Byte) : Served :=
  match s.sourceRefusal p k 0x06 data (fun v => if v = 0 then none else some 0x0702) with
  | some c => .error c
  | none => .ok (s.w (K.sourceOccurrences k) 0, [])

/-- FORCE: a WRITE of 1 to `.04` of a source (R275). -/
def execForce (env : JdpEnv) (source : SourceId) (s : State) : Res :=
  effectOf env (fun s =>
    s.serve env opWrite (0x6000 + source.val) 0x04 (fun p s => s.writeForce p source.val env.payload)) s

/-- FORCE_DRY: a WRITE of 2 to `.04` of a source (R275). -/
def execForceDry (env : JdpEnv) (source : SourceId) (s : State) : Res :=
  effectOf env (fun s =>
    s.serve env opWrite (0x6000 + source.val) 0x04 (fun p s => s.writeForce p source.val env.payload)) s

/-- LATCH_CLEAR: a WRITE of `.05` of a source (R283). -/
def execLatchClear (env : JdpEnv) (source : SourceId) (s : State) : Res :=
  effectOf env (fun s =>
    s.serve env opWrite (0x6000 + source.val) 0x05 (fun p s => s.writeLatch p source.val env.payload)) s

/-- OCCURRENCES_CLEAR: a WRITE of `.06` of a source (R283). -/
def execOccurrencesClear (env : JdpEnv) (source : SourceId) (s : State) : Res :=
  effectOf env (fun s =>
    s.serve env opWrite (0x6000 + source.val) 0x06 (fun p s => s.writeOccurrences p source.val env.payload)) s

/-- The checks of ClearLatches (Table 14-5). -/
def clearLatchesChecks (args : List Byte) : CmdChecks :=
  let a := fieldAt args 0 2
  let b := fieldAt args 2 2
  { range := if 0xFFF < a || 0xFFF < b then some 0x0702 else if b < a then some 0x0704 else none }

/-- CLEAR_LATCHES: Latch and Occurrences of a range of sources (Table 14-5). -/
def execClearLatches (env : JdpEnv) (s : State) : Res :=
  effectOf env (fun s => s.trigger env 0x1183 (fun _ args => clearLatchesChecks args)
    (fun s args =>
      let a := fieldAt args 0 2
      let l := (upTo (fieldAt args 2 2 + 1 - a)).map (fun j => a + j)
      (s.each l (fun u k => (u.clearLatch k).w (K.sourceOccurrences k) 0)).cmdDone 0x1183 [])) s

end Sys2Proof.Machine
end

