-- ==== Sys2Proof/Machine/Apply.lean ====
section
/-! DEFINITION. What a new value of a dictionary object does when it becomes live, at a boundary or at once (R24), what
refuses its write, and what an armed set must satisfy (R23, R59). -/

namespace Sys2Proof.Machine

/-! ## Ports (R69, R73, R86, R87, Table 4-1) -/

/-- A port whose configuration has changed takes the state that the configuration gives it; lanes that leave park take
their time (R86, R87). -/
def State.configPort (s : State) (p : Nat) : State :=
  if (s.port p).retiredPort || !s.portExists p then s
  else
    let rest := s.restLink p
    if rest = .down then
      if s.linkUp p || s.link p = .down then s
      else ((s.setLink p .down).beginHold p).modPort p (fun x => { x with parkExit := true })
    else ((s.portDown p causeLinkDown).endHold p).setLink p rest

/-- A change of a port's mode, role, rate, width or IDE: an ACTIVE link goes DOWN and trains anew; a new mode or width ends the
use of its RETIRE_PENDING lanes (R88), and what was known of the neighbour is void (R230). -/
def State.rewirePort (s : State) (k v p : Nat) : State :=
  if s.r k = v then s
  else
    let s := (((s.portDown p causeLinkDown).w k v).configPort p).modPort p (fun x => { x with foreign := false })
    if k = K.portPortMode p || k = K.portMaxWidth p then s.settleLanes p else s

/-- The ports of a group. -/
def groupPorts (g : Nat) : List Nat := (upTo 4).map (fun k => 4 * g + k)

/-- The live ports that a slice carries. -/
def State.slicePorts (s : State) (sl : Nat) : List Nat :=
  (groupPorts (sl / 2)).filter (fun p => s.portExists p && (s.portLanes p).any (fun n => decide (n % 17 / 8 = sl % 2)))

/-- SliceMode changes: the ports of the slice, or of the whole group where X16 comes or goes, are laid out anew, and the slice's
RETIRE_PENDING lanes settle (R68, R69, R88). -/
def State.applySliceMode (s : State) (sl v : Nat) : State :=
  let old := s.sliceMode sl
  if old = v then s
  else
    let g := sl / 2
    let ps := if old = 2 || v = 2 then groupPorts g else [2 * sl, 2 * sl + 1]
    let s := s.each ps (fun u p => u.portDown p causeLinkDown)
    let s := s.w (K.sliceMode sl) v
    let s := s.each (groupPorts g) (fun u p => u.configPort p)
    let s := s.each ((upTo 8).map (dataLane sl)) State.settleLane
    s.each (ps.filter s.portExists) State.retireBare

/-- Park changes: TRUE disables the link and parks its lanes, FALSE starts their exit from park (R86, R87). -/
def State.applyPark (s : State) (p v : Nat) : State :=
  if s.r (K.portPark p) = v then s else ((s.w (K.portPark p) v).configPort p).settleLanes p

/-! ## Tenants (Table 8-1) -/

/-- A tenant's state after a change of TenantEnable or of its ports. -/
def State.configTenant (s : State) (t : Nat) : State :=
  if !s.on (K.tenantEnable t) then s.setTenant t .disabled
  else if s.tenantState t = .resetting then s
  else
    let p := s.r (K.tenantPrimaryPort t)
    s.setTenant t (if p < 96 && s.link p = .active then .active else .down)

/-! ## Power domains (R332, R333) -/

/-- A change of domain state, with LastChange; the bridges of its mesh links follow (R331). -/
def State.setDomain (s : State) (g : Nat) (x : DomainState) : State :=
  ((s.w (K.domainState g) x.num).w (K.domainLastChange g) s.now).settleBridges

/-- PowerDown changes at a boundary: the drain begins, or the domain powers up. Log entry 32 (DEDUCED). -/
def State.applyPower (s : State) (g v : Nat) : State :=
  let s := s.w (K.domainPowerDown g) v
  match s.domain g with
  | .on => if v = 1 then s.setDomain g .draining else s
  | .draining => if v = 0 then s.setDomain g .on else s
  | .fenced => if v = 0 then s.setDomain g .poweringUp else s
  | .off => if v = 0 then s.setDomain g .poweringUp else s
  | _ => s

/-! ## Routes, regions, shaping, outputs -/

/-- A row of the RoutingTable as the fabric manager writes it: without its RO fields and zero bits (Table 12-3). Log
entry 14 (DEDUCED). -/
def routeWritten (v : Nat) : Nat := setBits (setBits v 118 104 0) 47 0 0

/-- A row of the RoutingTable becomes live: as written, or computed again (R243). Log entry 18 (DEDUCED). -/
def State.applyRoute (s : State) (pid v : Nat) : State :=
  let k := K.fabricRoutingTable + pid
  if bit v 125 || s.r K.fabricRoutingMode = 1 then s.w k v
  else s.w k (match s.fabric.computed with | some rows => Tbl.getD rows pid 0 | none => setBit (s.r k) 125 false)

/-- Rate of a shaped member or policer: a change from 0 sets the tokens to Burst (R133). -/
def State.applyMember (s : State) (p j v : Nat) : State :=
  let k := K.egressMemberConfig p + j
  let s := if mcRate (s.r k) = 0 && mcRate v ≠ 0 then
      s.modEgress p (fun g => { g with tokens := Tbl.put g.tokens j (mcBurst v : Int) }) else s
  s.w k v

/-- PoliceRate or PoliceBurst of a port, with the tokens of R133. -/
def State.applyPolice (s : State) (p : Nat) (k v : Nat) : State :=
  let was := s.r (K.egressPoliceRate p)
  let s := s.w k v
  (if was = 0 && s.r (K.egressPoliceRate p) ≠ 0 then s.w (K.egressPoliceTokens p) (s.r (K.egressPoliceBurst p)) else s).settlePoliced p

/-- BEAT_OUT carries the beat in LOCKED and HOLDOVER while it is enabled (R52). -/
def State.driveBeatOut (s : State) : State :=
  { s with pins := { s.pins with
    beatOut := s.on K.beatBeatOutEnable && (s.beatState = .locked || s.beatState = .holdover) } }

/-- A heartbeat output that is disabled is held low (R279). -/
def State.driveHeartbeat (s : State) : State :=
  { s with pins := { s.pins with
    hbA := s.pins.hbA && s.on K.hbAEnable, hbB := s.pins.hbB && s.on K.hbBEnable } }

/-- A binding row applied at once (R24, R157). -/
def State.applyVppb (s : State) (t j v : Nat) : State :=
  if s.r (vppbKey t j) = v then s else ((s.unbindRow t j).bindRow t j v).setMembers

/-- A value as it is stored: the zero bits and RO fields of a row are not written. Log entry 14 (DEDUCED). -/
def writtenValue (k v : Nat) : Nat :=
  let i := objIndex k
  let b := objSub k
  if 0x3000 ≤ i && i < 0x3040 && b = 0x09 then vppbWritten v
  else if 0x2900 ≤ i && i < 0x2960 && b = 0x02 then setBits v 31 0 0
  else if i = 0x5002 then setBits v 29 12 0
  else if i = 0x5040 then routeWritten v
  else if i = 0x7001 then setBits v 32 0 0
  else if i = 0x7010 then setBits v 38 0 0
  else v

/-- The value v of the object of key k becomes live, with what follows from it. -/
def State.applyValue (s : State) (k v : Nat) : State :=
  let i := objIndex k
  let b := objSub k
  let j := objRow k
  if 0x2400 ≤ i && i < 0x2430 then s.applySliceMode (i - 0x2400) v
  else if 0x2500 ≤ i && i < 0x2560 then
    let p := i - 0x2500
    if b = 0x11 then s.applyPark p v
    else if b ≤ 0x04 || b = 0x0A then s.rewirePort k v p
    else s.w k v
  else if 0x2900 ≤ i && i < 0x2960 then
    let p := i - 0x2900
    if b = 0x02 then s.applyMember p j v
    else if b = 0x03 || b = 0x04 then s.applyPolice p k v
    else s.w k v
  else if 0x3000 ≤ i && i < 0x3040 then
    let t := i - 0x3000
    if b = 0x09 then s.applyVppb t j v
    else if b ≤ 0x03 then if s.r k = v then s else (s.w k v).configTenant t
    else s.w k v
  else if i = 0x3802 || i = 0x3803 then s.applyRow k v
  else if 0x4100 ≤ i && i < 0x4200 && b = 0x02 then
    let s := s.w k v
    if (s.regionSt (i - 0x4100)).quotaDrawn.isSome then s.setQuota (i - 0x4100) (some v) else s
  else if 0x4100 ≤ i && i < 0x4200 && b = 0x07 then (s.w k v).judgeThrash (i - 0x4100)
  else if i = 0x5040 then s.applyRoute j v
  else if i = 0x5002 || (i = 0x5000 && b = 0x02) || i = 0x1120 || (i = 0x1400 && b = 0x05) then (s.w k v).originate
  else if 0x5800 ≤ i && i < 0x5839 && b = 0x07 then if v = 1 then s.swapSets (i - 0x5800) else s
  else if i = 0x7001 then if s.r k = v then s else (s.accrueTimes.w k v).clearCounter j
  else if 0x7F20 ≤ i && i < 0x7F38 && b = 0x01 then s.applyPower (i - 0x7F20) v
  else if i = 0x1400 && b = 0x08 then (s.w k v).driveBeatOut
  else if i = 0x1430 then (s.w k v).driveHeartbeat
  else if 0x7800 ≤ i && i < 0x7820 && b = 0x01 then
    (match s.setPower (i - 0x7800) v with | .ok t => t | .error _ => s.w k v)
  else s.w k v

/-- Values that become live together. A policer whose rate they change from 0 has its tokens set to the burst that they
leave (R133, R137). -/
def State.applyAll (s : State) (values : Tbl Nat) : State :=
  let t := s.each values (fun u e => u.applyValue e.1 e.2)
  let fresh := values.filter (fun e => decide (0x2900 ≤ objIndex e.1) && decide (objIndex e.1 < 0x2960)
    && decide (objSub e.1 = 0x03) && decide (s.r e.1 = 0) && decide (e.2 ≠ 0))
  t.each fresh (fun u e =>
    let p := objIndex e.1 - 0x2900
    u.w (K.egressPoliceTokens p) (u.r (K.egressPoliceBurst p)))

/-! ## Conditions on a set (R59) -/

/-- A HOST port of an existing tenant, or a DEVICE port that a vPPB in force names (R23). -/
def State.portBound (s : State) (p : Nat) : Bool :=
  if s.isHost p then (s.tenantOfPort p).isSome
  else s.isDevice p && (s.bindings []).any (fun b => decide (b.2.2 = (2, p)))

/-- The tenant has a VMD or device bound. -/
def State.tenantBound (s : State) (t : Nat) : Bool := (s.bindings []).any (fun b => decide (b.1 = t))

/-- The value that a set leaves at a key. -/
def State.after (s : State) (set : Tbl Nat) (k : Nat) : Nat := (Tbl.find set k).getD (s.r k)

/-- The ports that the set gives an existing tenant: primary and auxiliary ports. -/
def State.portsAfter (s : State) (set : Tbl Nat) (t : Nat) : List Nat :=
  ((s.after set (K.tenantPrimaryPort t)) :: toBytes 3 (s.after set (K.tenantAuxPorts t))).filter (fun p => decide (p ≠ 255))

/-- No element stands twice. -/
def allApart : List Nat → Bool
  | [] => true
  | x :: t => !t.contains x && allApart t

/-- Every existing tenant has HOST ports, and no HOST port belongs to two (R141). -/
def State.tenantsOk (s : State) (set : Tbl Nat) : Bool :=
  let ts := (upTo 64).filter (fun t => decide (s.after set (K.tenantEnable t) = 1))
  let host (p : Nat) : Bool := decide (p < 96) && decide (s.after set (K.portPortRole p) = 0)
  ts.all (fun t => decide (s.after set (K.tenantPrimaryPort t) ≠ 255) && (s.portsAfter set t).all host)
    && allApart (ts.flatMap (s.portsAfter set))

/-- The set touches a tenant's ports, or the role of some port. -/
def touchesTenants (set : Tbl Nat) : Bool :=
  set.any (fun e =>
    (decide (0x3000 ≤ objIndex e.1) && decide (objIndex e.1 < 0x3040) && decide (objSub e.1 ≤ 0x03))
    || (decide (0x2500 ≤ objIndex e.1) && decide (objIndex e.1 < 0x2560) && decide (objSub e.1 = 0x02)))

/-- No group is left with one slice X16 and the other not (R69). -/
def State.groupsOk (s : State) (set : Tbl Nat) : Bool :=
  set.all (fun e =>
    let i := objIndex e.1
    if 0x2400 ≤ i && i < 0x2430 then
      let a := s.after set (K.sliceMode ((i - 0x2400) / 2 * 2))
      let b := s.after set (K.sliceMode ((i - 0x2400) / 2 * 2 + 1))
      (a = 2) = (b = 2)
    else true)

/-- No port is given a PID that another switch owns in the database (R236). -/
def State.pidsOk (s : State) (set : Tbl Nat) : Bool :=
  set.all (fun e => !(decide (objIndex e.1 = 0x5002) && bit e.2 31 && (s.otherOwner (bits e.2 11 0)).isSome))

/-- A written route names FABRIC ports that are not RETIRED, and is NONE or REMOTE (R243). -/
def State.routeOk (s : State) (set : Tbl Nat) (v : Nat) : Bool :=
  let ok (p : Nat) : Bool := decide (p < 96) && decide (s.after set (K.portPortRole p) = 2) && !(s.port p).retiredPort
  (rowKind v = 0 || rowKind v = 2) && decide (bits v 124 122 ≤ 4) && decide (bits v 121 119 ≤ 4)
    && (rowUp v ++ rowDown v).all ok

/-- The set changes which routes are written, or which ports they may name: RoutingMode or some PortRole (R243). -/
def State.rejudgesRoutes (s : State) (set : Tbl Nat) : Bool :=
  set.any (fun e => (decide (e.1 = K.fabricRoutingMode)
    || (decide (0x2500 ≤ objIndex e.1) && decide (objIndex e.1 < 0x2560) && decide (objSub e.1 = 0x02))) && decide (s.r e.1 ≠ e.2))

/-- The written routes that a set leaves: its own rows, and every row in force where it changes what a written row may be (R243). -/
def State.routesOk (s : State) (set : Tbl Nat) : Bool :=
  let mode := s.after set K.fabricRoutingMode
  let ok (e : Nat × Nat) : Bool := if objIndex e.1 = 0x5040 && (bit e.2 125 || mode = 1) then s.routeOk set e.2 else true
  set.all ok && (!s.rejudgesRoutes set || (s.regs.filter (fun e => (Tbl.find set e.1).isNone)).all ok)

/-- The counter rows of a set (R285). -/
def countersOk (set : Tbl Nat) : Bool :=
  set.all (fun e => if objIndex e.1 = 0x7001 then (counterRowRefusal e.2).isNone else true)

/-- The link state that the set leaves a port whose link is not up. -/
def State.idleAfter (s : State) (set : Tbl Nat) (p : Nat) : Bool :=
  !s.portExists p || (match s.link p with | .disabled | .parked => true | _ => false)
    && (s.after set (K.portPortMode p) = 0 || s.after set (K.portPark p) = 1 || s.portMismatch p)

/-- The domain's ports are unused, now and after the set (R332). -/
def State.domainFree (s : State) (set : Tbl Nat) (g : Nat) : Bool :=
  (groupPorts g).all (fun p => s.idleAfter set p && !s.portBound p
    && !(s.bindings set).any (fun b => decide (b.2.2 = (2, p))) && !bit (s.after set (K.fabricPortPids + p)) 31
    && !(upTo 32).any (fun c => decide (s.r (K.slotAssociatedPort c) = p)))

/-- Power domains: PowerDown TRUE only for a free domain, and no change of a port in a domain that is not ON (R332). -/
def State.domainsOk (s : State) (set : Tbl Nat) : Bool :=
  set.all (fun e =>
    let i := objIndex e.1
    if 0x7F20 ≤ i && i < 0x7F38 then e.2 = 0 || s.on (K.domainPowerDown (i - 0x7F20)) || s.domainFree set (i - 0x7F20)
    else if 0x2500 ≤ i && i < 0x2560 && (objSub e.1 = 0x01 || objSub e.1 = 0x02 || objSub e.1 = 0x11) then
      s.domain ((i - 0x2500) / 4) = .on || s.r e.1 = e.2
    else if 0x2400 ≤ i && i < 0x2430 then s.domain ((i - 0x2400) / 2) = .on || s.r e.1 = e.2
    else true)

/-- The units whose Swap the set holds TRUE. -/
def swapsIn (set : Tbl Nat) : List Nat :=
  (upTo 57).filter (fun u => decide (Tbl.find set (K.acuSwap u) = some 1))

/-- The secure core's verdict on a swap of the set (R261). -/
def State.swapVerdict (s : State) (set : Tbl Nat) (u : Nat) : Nat :=
  s.proposalVerdict u ((upTo 64).map (fun j => s.after set (K.acuProposal u + j)))

/-- The secure core checks the swaps of a set, shows each verdict, and writes accepted proposals into the inactive
sets (R261). -/
def State.checkSwaps (s : State) (set : Tbl Nat) : State :=
  s.each (swapsIn set) (fun u n =>
    let x := u.swapVerdict set n
    let u := u.w (K.acuProposalCheck n) x
    if x = 1 then u.installProposal n (fun j => u.after set (K.acuProposal n + j)) else u)

/-- The checks of an armed set that draw nothing (R59). -/
def State.setOk (s : State) (set : Tbl Nat) (acts : List StagedAct) : Bool :=
  s.berylValid set acts && s.shapesOk set && s.bindingsOk set acts && s.destructionsOk set acts
    && (!touchesTenants set || s.tenantsOk set) && s.groupsOk set && s.pidsOk set && s.routesOk set && countersOk set
    && s.domainsOk set && (swapsIn set).all (fun u => decide (s.swapVerdict set u = 1))

/-! ## Refusals of a single write (R19, R23, Table 19-1) -/

/-- The port carries routes: some row's next-hop set holds it (R69). -/
def State.carriesRoutes (s : State) (p : Nat) : Bool :=
  s.isFabric p && s.regs.any (fun e => decide (objIndex e.1 = 0x5040) && (rowUp e.2 ++ rowDown e.2).contains p)

/-- Step 10 of R28 for a write of value v: the addressed resource forbids it now (R23). -/
def State.resourceRefusal (s : State) (k v : Nat) : Option Nat :=
  let i := objIndex k
  let b := objSub k
  let bad : Bool :=
    if 0x2400 ≤ i && i < 0x2430 then (s.slicePorts (i - 0x2400)).any (fun p => s.portBound p || s.carriesRoutes p)
    else if 0x2500 ≤ i && i < 0x2560 then
      let p := i - 0x2500
      !s.portExists p || (b ≤ 0x04 && s.r k ≠ v && s.portBound p) || (b = 0x11 && v = 1 && s.portBound p)
    else if 0x2900 ≤ i && i < 0x2960 then
      !s.portExists (i - 0x2900) || ((b = 0x03 || b = 0x04) && !s.isHost (i - 0x2900))
    else if 0x3000 ≤ i && i < 0x3040 then b ≤ 0x03 && s.r k ≠ v && s.tenantBound (i - 0x3000)
    else if 0x4100 ≤ i && i < 0x4200 then
      let c := s.r (K.regionClass (i - 0x4100))
      ((b = 0x02 || b = 0x05 || b = 0x06) && c ≠ 1) || (b = 0x04 && c ≠ 2)
    else if i = 0x5002 then s.isFabric (objRow k) || !s.portExists (objRow k)
    else if 0x6000 ≤ i && i < 0x7000 then
      let c := (Src.info (i - 0x6000)).cls
      c = .unused || ((b = 0x02 || b = 0x03) && c ≠ .transient) || (b = 0x0C && c ≠ .transient && c ≠ .severe)
    else if 0x7800 ≤ i && i < 0x7820 then
      ((0x03 ≤ b && b ≤ 0x0C) || b = 0x11) &&
        (match s.chan (i - 0x7800) with | .empty | .seating | .ready | .retired => false | _ => true)
    else false
  if bad then some 0x0502 else none

/-- One auxiliary port: 0 to 95, or 0xFF for none. -/
def auxRefusal (p : Nat) : Option Nat := if p ≤ 95 || p = 255 then none else some 0x0703

/-- Step 12 of R28 for a value of a row or of a field map, and for a combination with other live values. Log entry 12
(DEDUCED). -/
def State.rangeRefusal (s : State) (k v : Nat) : Option Nat :=
  let i := objIndex k
  let b := objSub k
  let now := s.device = .preop
  let set : Tbl Nat := [(k, v)]
  if 0x2900 ≤ i && i < 0x2960 && 0x02 ≤ b && b ≤ 0x04 then
    (if b = 0x02 then s.memberRefusal (i - 0x2900) v else none) <|>
      (if now && !s.shapesOk set then some 0x0704 else none)
  else if 0x3000 ≤ i && i < 0x3040 then
    if b = 0x09 then
      if 2 < bits v 63 56 then some 0x0703
      else if bits v 63 56 = 1 && 15 < bits v 55 48 then some 0x0702
      else if bits v 63 56 = 2 && 95 < bits v 55 48 then some 0x0702
      else if now && !s.bindingsOk set [] then some 0x0704 else none
    else
      (if b = 0x03 then firstOf ((toBytes 3 v).map auxRefusal) else none) <|>
        (if now && b ≤ 0x03 && !s.tenantsOk set then some 0x0704 else none)
  else if 0x2500 ≤ i && i < 0x2560 then
    if b = 0x12 && v ≤ s.r (K.portMeasuredRoundTrip (i - 0x2500)) + 200 then some 0x0704
    else if now && b = 0x02 && !(s.tenantsOk set && s.routesOk set) then some 0x0704
    else if now && !s.domainsOk set then some 0x0704 else none
  else if 0x2400 ≤ i && i < 0x2430 then if now && !s.domainsOk set then some 0x0704 else none
  else if 0x4100 ≤ i && i < 0x4200 && b = 0x02 then
    if v % 8 ≠ 0 then some 0x0703
    else if now && (drawQuotas (s, [], []) set).isNone then some 0x0A01 else none
  else if i = 0x5002 then if now && !s.pidsOk set then some 0x0704 else none
  else if i = 0x5040 then
    if 4 < bits v 124 122 || 4 < bits v 121 119 then some 0x0702
    else if now && !s.routesOk set then some 0x0704 else none
  else if i = 0x7001 then if now then counterRowRefusal v else none
  else if i = 0x7010 then streamRowRefusal v
  else if 0x7800 ≤ i && i < 0x7820 && b = 0x0C then
    if v < 96 && (!s.isDevice v || (upTo 32).any (fun c => decide (c ≠ i - 0x7800) && decide (s.r (K.slotAssociatedPort c) = v)))
      then some 0x0704 else none
  else if 0x7F20 ≤ i && i < 0x7F38 then if now && !s.domainsOk set then some 0x0704 else none
  else if k = K.fabricRoutingMode then if now && !s.routesOk set then some 0x0704 else none
  else if k = K.beatBeatPeriod then if now && !s.shapesOk set then some 0x0704 else none
  else none

/-- A value written at once, or staged where the object is STG and the device OPERATIONAL (R24). -/
def State.storeValue (s : State) (a : Acc) (k v : Nat) : State :=
  if a = .stg && s.device = .operational then { s with staged := Tbl.put s.staged k v } else s.applyValue k v

end Sys2Proof.Machine
end

