-- ==== Sys2Proof/Machine/Beat.lean ====
section
/-! DEFINITION. The chassis beat (03): sources and their judgement, holdover and BEATLESS, the beat window with its
arming cut-off and boundary, and fabric-wide commits. -/

namespace Sys2Proof.Machine

/-! ## Sources (R48 to R54) -/

/-- What Quartz keeps of a source. -/
def State.src (s : State) (x : BeatSrc) : SrcSt :=
  match x with | .beatA => s.quartz.srcA | .beatB => s.quartz.srcB | .link => s.quartz.srcL

/-- A source's record changed. -/
def State.modSrc (s : State) (x : BeatSrc) (f : SrcSt → SrcSt) : State :=
  match x with
  | .beatA => { s with quartz := { s.quartz with srcA := f s.quartz.srcA } }
  | .beatB => { s with quartz := { s.quartz with srcB := f s.quartz.srcB } }
  | .link => { s with quartz := { s.quartz with srcL := f s.quartz.srcL } }

/-- The external input of a number. -/
def extSrc (input : Fin 2) : BeatSrc := if input.val = 0 then .beatA else .beatB

/-- Quartz follows sources: from the end of start-up on (R51). Log entry 33 (DEDUCED). -/
def State.quartzRuns (s : State) : Bool :=
  s.device ≠ .boot && s.device ≠ .hold && decide (7 ≤ s.r K.startupPhase)

/-- The check of a beat frame (R48, Table 3-1). -/
def frameGood (frame : Nat) : Bool := crc16Run 0xFFFF (toBytes 6 (bits frame 63 16)) = bits frame 15 0

/-- LINK_DELAY_MEASUREMENT: half of the round trip, in units of 0.125 ns (R54). -/
def execLinkDelayMeasurement (port : PortId) (roundTrip : Nat) (s : State) : Res :=
  effect (fun s =>
    if s.managed port.val then (s.w (K.beatLinkDelay + port.val) (roundTrip / 2 % 2 ^ 32)).originate else s) s

/-- The frame that follows the edge of beat n (R48, Table 3-1). -/
def beatFrame (n : Nat) : Nat := n % 2 ^ 48 * 65536 + crc16Run 0xFFFF (toBytes 6 n)

/-- The order of sources (R50). -/
def State.srcOrder (s : State) : List BeatSrc :=
  let ext : List BeatSrc := if s.r K.beatPreferredExternal = 0 then [.beatA, .beatB] else [.beatB, .beatA]
  match s.r K.beatSourcePolicy with
  | 0 => ext ++ [.link]
  | 1 => ext
  | _ => [.link]

/-- The number of ActiveSource that stands for a source. -/
def srcNum : BeatSrc → Nat
  | .beatA => 1 | .beatB => 2 | .link => 3

/-- The heartbeat's state while it runs: TOGGLING in LOCKED, else LOCAL (R279). -/
def State.driveHbState (s : State) : State :=
  let h := s.r K.hbState
  if h = 1 || h = 2 then s.w K.hbState (if s.beatState = .locked then 1 else 2) else s

/-- A change of BeatState with the outputs that follow it (R52, R279). -/
def State.enterBeat (s : State) (b : BeatState) : State := ((s.setBeatState b).driveBeatOut).driveHbState

/-- Quartz follows a source: LOCKED, and start-up has acquired the beat (R51, R320). Log entry 33 (DEDUCED). -/
def State.lockTo (s : State) (x : BeatSrc) : State :=
  let s : State := { s with quartz := { s.quartz with relock := none } }
  let s := ((s.enterBeat .locked).w K.beatActiveSource (srcNum x)).w K.beatPhaseError (toTwos 32 (s.src x).phase)
  if s.r K.startupPhase = 7 then s.w K.startupPhase 8 else s

/-- BEATLESS is declared: an armed set is cancelled (R55, R60). -/
def State.enterBeatless (s : State) : State :=
  let s := (s.enterBeat .beatless).w K.beatActiveSource 0
  ((s.occur (Src.device 0x04)).suspendJobs true).cancelArmed .beatless true

/-- HOLDOVER begins; a limit of 0 is reached at once (R55). -/
def State.enterHoldover (s : State) : State :=
  let s := ((s.enterBeat .holdover).w K.beatActiveSource 0).w K.beatHoldoverBeats 0
  let s := s.occur (Src.device 0x03)
  if s.r K.beatHoldoverLimit = 0 then s.enterBeatless else s

/-- An edge of a source: the first is a reference, a later one is judged against its prediction, `error` being in units of
0.125 ns (R49). An edge within the tolerance stands for its beat, whatever else comes in. The next edge of a usable source
ends HOLDOVER (R55). Log entry 33 (DEDUCED). -/
def State.edgeFrom (s : State) (x : BeatSrc) (error phase : Int) : State :=
  let tol : Int := 8 * s.r K.beatEdgeTolerance
  let good := (s.src x).seen && decide (-tol ≤ error) && decide (error ≤ tol)
  let s := s.modSrc x (fun y => { y with
    seen := true, edge := y.edge || good, phase := if good || !y.edge then phase else y.phase })
  if good && s.beatState = .holdover && s.quartz.relock = some x then s.lockTo x else s

/-- BEAT_PULSE_EDGE: `error` is the edge's time against its prediction, `phase` Quartz's edge minus this edge, both in
ns (R48, R49). -/
def execBeatPulseEdge (input : Fin 2) (error phase : Int) (s : State) : Res :=
  effect (fun s => if s.quartzRuns then s.edgeFrom (extSrc input) (8 * error) phase else s) s

/-- BEAT_FRAME: the number of an intact frame, the first of its beat (R48, R49). -/
def execBeatFrame (input : Fin 2) (frame : BitVec 64) (s : State) : Res :=
  effect (fun s =>
    if s.quartzRuns && frameGood frame.toNat then
      s.modSrc (extSrc input) (fun y => { y with number := y.number <|> some (bits frame.toNat 63 16) })
    else s) s

/-- LINK_BEAT: the beat of the link source. `arrival` is the time from the predicted edge to the arrival and `early` from
Quartz's edge to the arrival, in units of 0.125 ns; the edge lies an offset and a delay before the arrival (R53, R54). -/
def execLinkBeat (port : PortId) (number offset : Nat) (arrival early : Int) (s : State) : Res :=
  effect (fun s =>
    if s.quartzRuns && s.managed port.val && s.r K.beatSourcePort = port.val then
      let back : Int := offset + s.r (K.beatLinkDelay + port.val)
      let t := s.edgeFrom .link (arrival - back) (-((early - back).tdiv 8))
      t.modSrc .link (fun y => { y with number := y.number <|> some (number % 2 ^ 48) })
    else s) s

/-- A source is judged for the present beat: its bits of SourceHealth and its record (R49). Log entry 33 (DEDUCED). -/
def SrcSt.judge (y : SrcSt) : Nat × SrcSt :=
  let good := match y.number, y.last with
    | some n, some l => decide (n = (l.1 + l.2) % 2 ^ 48)
    | some _, none => true
    | none, _ => false
  let ok := y.edge && y.number.isSome && good
  let healthy := if ok then y.healthy + 1 else 0
  let q := decide (8 ≤ healthy)
  let last := match y.number, y.last with
    | some n, _ => some (n, 1)
    | none, some l => some (l.1, l.2 + 1)
    | none, none => none
  (ofBool y.edge + 2 * ofBool y.number.isSome + 4 * ofBool good + 8 * ofBool q,
   { y with last := last, healthy := healthy, qualified := q, edge := false, number := none })

/-- The number that a source delivered for the beat just judged. -/
def SrcSt.judged (y : SrcSt) : Nat := match y.last with | some l => (l.1 + l.2 - 1) % 2 ^ 48 | none => 0

/-- A qualified source is not used: its number differs (R50, R56). -/
def State.srcDiffers (s : State) (x : BeatSrc) : State :=
  s.occurWith (Src.device 0x05) { d0 := s.beat, d1 := (s.src x).judged }

/-- Every beat source. -/
def allSources : List BeatSrc := [.beatA, .beatB, .link]

/-- Every qualified source that is not used because of its number raises the NOTE source: one whose number differs from
Quartz's, or that from BEATLESS was not greater than the local number `old` (R50, R56). -/
def State.noteOthers (s : State) (used : Option BeatSrc) (old : Nat) (beatless : Bool) : State :=
  s.each (allSources.filter (fun x => (s.src x).qualified && decide (used ≠ some x)
    && (decide ((s.src x).judged ≠ s.beat) || (beatless && decide ((s.src x).judged ≤ old))))) (fun u x => u.srcDiffers x)

/-- The choice of the active source after the judgement of every source (R50, R51, R55, R56). -/
def State.chooseSource (s : State) : State :=
  let q := s.srcOrder.filter (fun x => (s.src x).qualified)
  match s.beatState with
  | .acquiring =>
    match q with
    | x :: _ => (({ s with beat := (s.src x).judged }).lockTo x).noteOthers (some x) s.beat false
    | [] => s.noteOthers none s.beat false
  | .beatless =>
    match q.find? (fun x => decide (s.beat < (s.src x).judged)) with
    | some x => (({ s with beat := (s.src x).judged }).lockTo x).noteOthers (some x) s.beat true
    | none => s.noteOthers none s.beat true
  | b =>
    let x := q.find? (fun x => decide ((s.src x).judged = s.beat))
    let s := s.noteOthers x s.beat false
    if b = .holdover then { s with quartz := { s.quartz with relock := x } }
    else match x with
      | some x => s.lockTo x
      | none => s.enterHoldover

/-- Every source is judged, SourceHealth shows it, and a source is chosen (R49, R50, R54). -/
def State.judgeSources (s : State) : State :=
  if s.quartzRuns && !s.quartz.judged then
    let a := s.quartz.srcA.judge
    let b := s.quartz.srcB.judge
    let l := s.quartz.srcL.judge
    let s := { s with quartz := { s.quartz with srcA := a.2, srcB := b.2, srcL := l.2, judged := true } }
    (s.w K.beatSourceHealth (a.1 + 16 * b.1 + 256 * l.1)).chooseSource
  else s

/-- The tick that lies 12 µs after the beat's edge, or the present one where it has passed (R49). -/
def State.judgeTick (s : State) : Nat := min 1023 (max s.tick ((12000 * 1024 + s.quartz.period - 1) / max 1 s.quartz.period))

/-- SOURCE_JUDGEMENT: each source is judged once for each beat, 12 µs after its edge, and the active source is chosen
(R49, R50). -/
def execSourceJudgement (s : State) : Res :=
  if s.quartzRuns && !s.quartz.judged then clocked s.judgeSources.beat s.judgeTick (fun s => s.judgeSources) s
  else effect (fun s => s) s

/-- HOLDOVER_LIMIT_REACHED (R55). -/
def execHoldoverLimitReached (s : State) : Res :=
  effect (fun s =>
    if s.beatState = .holdover && s.r K.beatHoldoverLimit ≤ s.r K.beatHoldoverBeats then s.enterBeatless else s) s

/-- The beat root of the island and this switch's link source (R53). -/
def State.judgeRoot (s : State) : State :=
  let me := Config.fabricIdentity
  let g := s.topologyNow
  let roots := ((island g me).filter (·.beatRoot)).map (·.identity)
  let root := minOf 0 roots
  let near := (allPorts.filter s.managed).filterMap (fun p =>
    match (s.port p).neighbour with
    | some n => (hops g n.1 root).map (fun d => (d, p))
    | none => none)
  let best := minOf 0 (near.map (·.1))
  let port := ((near.find? (fun x => decide (x.1 = best))).map (·.2)).getD 255
  let second := s.on K.beatBeatRoot && !roots.isEmpty && decide (root ≠ me)
  let s := if second && !s.quartz.secondRoot then s.occur (Src.device 0x06) else s
  let s := { s with quartz := { s.quartz with secondRoot := second } }
  (s.w K.beatRootIdentity (if roots.isEmpty then 0 else root)).w K.beatSourcePort
    (if roots.isEmpty || root = me then 255 else port)

/-! ## The arming cut-off (R57, R59) -/

/-- The armed set for the next beat is validated: HELD with its draws, or cancelled (R59). The spec leaves the tick at which
each check ends open within 16 ticks; every check of the model ends, with its verdict and DecidedAt, in the tick of the
arming cut-off itself. Log entry 60 (DESIGN CHOICE). -/
def State.validateArmed (s : State) : State :=
  match s.armed with
  | none => s
  | some a =>
    if a.com.target ≠ s.beat + 1 || a.com.state ≠ .armed then s
    else
      let s := s.checkSwaps a.values
      if !s.setOk a.values a.acts then s.cancelArmed .validation true
      else
        match s.drawSet a.values a.acts with
        | none => s.cancelArmed .validation true
        | some (t, draws, quotas) =>
          let com := { a.com with state := CommitState.held }
          { t with armed := some { a with com := com, draws := draws, quotas := quotas } }

/-- The work of the arming cut-off: the armed set, the routes of the next boundary, and the migration engines (R59,
R211, R212, R222, R242). Log entry 52 (DESIGN CHOICE). -/
def State.cutoffWork (s : State) : State :=
  if s.quartz.cutoffDone || !s.linksRun then s
  else
    let s := if s.beatState = .beatless then s else s.validateArmed
    let s := if s.firmwareAway || s.beatState = .beatless then s else s.computeRoutes
    let s := s.jasperCutoff
    { s with quartz := { s.quartz with cutoffDone := true } }

/-- The tick of the arming cut-off, or the present one where it has passed (R57). -/
def State.cutoffTick (s : State) : Nat := min 1023 (max s.tick s.quartz.cutoff)

/-- ARMING_CUTOFF: tick ArmingCutoff of the beat (R57). -/
def execArmingCutoff (s : State) : Res :=
  if s.beatsRun then clocked s.beat s.cutoffTick (fun s => { s with tick := s.cutoffTick }.cutoffWork) s
  else effect (fun s => s) s

/-- The patches of a set that is held for the next boundary, and the held patches of the migration engines, enter their banks'
buffers (R169, R212). -/
def State.prepare (s : State) : State :=
  let set := match s.armed with
    | some a => if a.com.target = s.beat + 1 && a.com.state = .held then patchesOf a.acts else []
    | none => []
  s.loadPatches (set ++ s.heldPatches)

/-- APPLY_PREPARATION: tick 1,000; what is held is loaded into shadow state (Table 3-2), and a cancel is late (R62). -/
def execApplyPreparation (s : State) : Res :=
  if s.beatsRun then clocked s.beat (max s.tick 1000) (fun s => s.cutoffWork.prepare) s else effect (fun s => s) s

/-! ## The boundary (R9, R24, R25) -/

/-- A held set applies: unbindings, destructions, creations, other values, bindings, and patches. Log entry 52 (DESIGN
CHOICE). -/
def State.applySet (s : State) (values : Tbl Nat) (acts : List StagedAct) (draws : List DrawnRun) : State :=
  let binds := s.changedBindings values
  let before := (upTo 256).map (fun r => s.r (K.regionMembers r))
  let s := s.each binds (fun u b => u.unbindRow b.1 b.2.1)
  let s := s.each (destroyedIn acts) (fun u v => u.destroyVmd v)
  let s := s.each (regionsDestroyedIn acts) (fun u r => u.destroyRegion r)
  let s := s.each (regionCreations acts) (fun u x => u.createRegion x draws)
  let s := s.each (vmdCreations acts) (fun u x => u.createVmd x draws)
  let s := s.applyAll (values.filter (fun e => !(decide (0x3000 ≤ objIndex e.1) && decide (objIndex e.1 < 0x3040)
    && decide (objSub e.1 = 0x09))))
  let s := s.each binds (fun u b => u.bindRow b.1 b.2.1 b.2.2)
  let s := s.setMembers
  let s := s.each (before.zipIdx) (fun u m =>
    u.each ((bitsSet 64 m.1).filter (fun t => !(u.r (K.regionMembers m.2)).testBit t)) (fun w t => w.leaveRegion t m.2))
  let s := s.loadPatches (patchesOf acts)
  ({ s with beryl := { s.beryl with loaded := [] } }).each s.beryl.loaded (fun u p => u.applyPatch p.1 p.2)

/-- The armed set at the boundary of its target (R9, R60, R62). -/
def State.applyArmed (s : State) : State :=
  match s.armed with
  | none => s
  | some a =>
    if a.com.target ≠ s.beat || a.com.state ≠ .held then s
    else
      let t := ({ s with armed := none }).applySet a.values a.acts a.draws
      let routed := a.values.any (fun e => decide (objIndex e.1 = 0x5040) && decide (t.r e.1 ≠ s.r e.1))
      let s := if routed then t.stampRoutes else t
      if a.late = .none then s.recordCommit { a.com with state := .applied } else s.decideLate a.com a.late

/-- A row of CacheStats (Table 9-8). -/
def cacheStatsRow (beat : Nat) (x : Nat × Nat × Nat) : Nat :=
  ((beat % 2 ^ 48 * 2 ^ 32 + x.1 % 2 ^ 32) * 2 ^ 32 + x.2.1 % 2 ^ 32) * 65536 + x.2.2 % 65536

/-- The extent caches' records of the beat that ended; a slice whose miss ratio exceeds MissRatioWarn raises its
cache-pressure source (R174, Table 9-8). -/
def State.cacheRecords (s : State) (ended : Nat) : State :=
  let s := s.each (upTo 48) (fun u sl =>
    let x := Tbl.getD u.beryl.cacheAcc sl (0, 0, 0)
    let u := u.w (K.berylCacheStats + sl) (cacheStatsRow ended x)
    if u.r K.berylMissRatioWarn * x.1 < 1000 * x.2.1 then u.occur (Src.slice sl 2) else u)
  { s with beryl := { s.beryl with cacheAcc := [] } }

/-- Each port's smallest round trip of the beat that ended. -/
def State.roundTrips (s : State) : State :=
  s.each (allPorts.filter s.portExists) (fun u p =>
    (u.w (K.portMeasuredRoundTrip p) ((u.port p).roundTrip.getD 0)).modPort p (fun x => { x with roundTrip := none }))

/-- The heartbeat at a beat edge: a heartbeat whose stopping latches are all clear runs again, and a running one changes
level (R279, R280). Log entry 16 (DEDUCED). -/
def State.heartbeat (s : State) : State :=
  let clear := s.onyx.stoppers.all (fun k => (Src.info k).cls ≠ .fatal && !s.on (K.sourceLatch k))
  let s := if s.r K.hbState = 3 && s.device ≠ .safe && clear then
      (({ s with onyx := { s.onyx with stoppers := [] } }).w K.hbState 2).driveHbState else s
  if s.r K.hbState = 1 || s.r K.hbState = 2 then
    { s with pins := { s.pins with hbA := s.on K.hbAEnable && !s.pins.hbA, hbB := s.on K.hbBEnable && !s.pins.hbB } }
  else s

/-- The correction that the next beat takes: one-eighth of the phase error, at most one tick (R47). -/
def State.nextCorrection (s : State) : Int :=
  let lim : Int := s.r K.beatBeatPeriod / 1024
  let c := (ofTwos 32 (s.r K.beatPhaseError)).tdiv 8
  if s.beatState = .locked then max (-lim) (min lim c) else 0

/-- Quartz's part of a boundary: the number, the length of the beat and its cut-off (R46, R47, R57). -/
def State.quartzEdge (s : State) (n : Nat) : State :=
  let c : Int := s.nextCorrection
  let q := { s.quartz with
    period := ((s.r K.beatBeatPeriod : Int) - c).toNat, correction := c, cutoff := s.r K.beatArmingCutoff, begun := true,
    cutoffDone := false, judged := false }
  let s : State := { s with beat := n % 2 ^ 48, tick := 0, quartz := q }
  let s := if s.pins.beatOut then s.emit (.beatOut (beatFrame s.beat)) else s
  let s := if s.beatState = .holdover then s.bumpTo K.beatHoldoverBeats 1 65535 else s
  s.bump K.deviceUptimeBeats 1

/-- The messages of the fabric at tick 0: on standard links the beat, and to each neighbour every 64 beats a timestamp, and
hellos, all queued as link control (R53, R54, R128, R230, R231). Log entries 18 (DEDUCED), 33 (DEDUCED). -/
def State.sendBeats (s : State) : State :=
  let s := s.each (s.managedPorts.filter (fun p => s.portMode p ≠ 3 && s.beatGoes p)) (fun u p => u.queueControl p .beat)
  let s := if s.beat % 64 = 0 then s.each s.managedPorts (fun u p => u.queueControl p (.timestamp u.beat)) else s
  let h := s.r K.fabricHelloInterval
  if h ≠ 0 && s.beat % h = 0 then
    s.each (allPorts.filter (fun p => s.portExists p && s.isFabric p && s.link p = .active && !(s.port p).foreign))
      (fun u p => u.queueOut p (.hello p (u.ownHello p)))
  else s

/-- OPERATIONAL is entered; the time since release is recorded once, a value that the model leaves free (R321). Log
entry 29 (DESIGN CHOICE). -/
def State.enterOperational (s : State) : State :=
  let s := if s.startup.autoStarted then s
    else
      let (x, t) := s.fresh
      ({ t with startup := { t.startup with autoStarted := true } }).w K.startupStartupTime (x % 2 ^ 32)
  s.setDevice .operational

/-- AutoStart (R330). Log entry 31 (DEDUCED). -/
def State.autoStart (s : State) : State :=
  if s.device = .preop && s.beatState = .locked && s.on K.startupAutoStart && !s.startup.autoStarted then s.enterOperational
  else s

/-- The staged set is frozen into the armed set (R25). Log entry 19 (DEDUCED). -/
def State.armStaged (s : State) (tag target : Nat) : State :=
  let com : CommitRec := { tag := tag, target := target, state := .armed }
  { s with armed := some { com := com, values := s.staged, acts := s.stagedActs }, staged := [], stagedActs := [] }

/-- The flood bound does not fit between the cut-off and tick 1,000 (R66). -/
def State.floodTooLong (s : State) : Bool :=
  decide (8 * (1000 - s.quartz.cutoff) * ((s.quartz.period : Int) + s.quartz.correction).toNat < s.floodScaled)

/-! ## The FM API's commits (R41, R358) -/

/-- The first beat whose arming cut-off has not yet passed (R41). -/
def State.nextTarget (s : State) : Nat := if s.afterCutoff (s.beat + 1) then s.beat + 2 else s.beat + 1

/-- The staged set armed by the FM API path, with a tag of its own: bit 31 is set, and the other bits are a free value.
Log entry 19 (DEDUCED). -/
def State.fmArm (s : State) : State :=
  let (x, s) := s.fresh
  s.armStaged (2 ^ 31 + x % 2 ^ 31) s.nextTarget

/-- An FM API binding change can be armed now: the device state, the beat and the flood bound admit it, and no armed set
exists (R41, R58, R66). -/
def State.fmCanArm (s : State) : Bool :=
  s.device = .operational && !s.firmwareAway && s.beatState ≠ .beatless && !s.floodTooLong && s.armed.isNone

/-- PowerOff of vPPB b of tenant t (Table 8-8). -/
def State.powerOff (s : State) (t b : Nat) : Bool := bit (s.r (K.tenantVppbStatus t + b)) 45

/-- A managed removal whose vPPB has PowerOff stages the unbinding and arms it, as soon as a set can be armed (R358).
Log entry 46 (DEDUCED). -/
def State.pollManaged (s : State) : State :=
  match s.mgmt.fmOp with
  | .managedRemove t b _ =>
    if s.powerOff t b && s.fmCanArm then
      let s := { s with mgmt := { s.mgmt with fmOp := .none }, staged := Tbl.put s.staged (vppbKey t b) 0 }
      s.fmArm
    else s
  | _ => s

/-- EMULATED_POWER_CONTROL_WRITE: PowerOff follows the tenant's write, the NOTE source occurs, and PowerOff ends a pending
attention event (R161); a managed removal that waits for it goes on (R358). -/
def execEmulatedPowerControlWrite (tenant : TenantId) (vppb : Fin 32) (off : Bool) (s : State) : Res :=
  effect (fun s =>
    let s := s.setVppbBit tenant.val vppb.val 45 off
    let s := if off then s.setVppbBit tenant.val vppb.val 44 false else s
    (s.occurOf (Src.device 0x13) tenant.val).pollManaged) s

/-- The policers' tokens have grown: channels that they no longer hold go on (R137). -/
def State.settlePolicers (s : State) : State :=
  s.each (s.ports.filter (fun e => !e.2.policed.isEmpty)) (fun u e => u.settlePoliced e.1)

/-- Generations that wait for tags of their next value are polled (R149). -/
def State.pollGenerations (s : State) : State :=
  let s := s.each (s.tenants.filter (fun e => decide (e.2.genWaits ≠ 0))) (fun u e => u.pollGeneration e.1)
  s.each (s.vmds.filter (fun e => decide (e.2.genWaits ≠ 0))) (fun u e => u.pollBindGeneration e.1)

/-- Beat n begins: every unit applies what is staged for it from one cell slot (R9); a beat begun by BeatReacquire
gets no refill (R133), and no notification of the beat before is carried into it (R67). The beat root and the link source are judged
here, and only here (R53). Log entries 52 (DESIGN CHOICE), 67 (DESIGN CHOICE). -/
def State.beginBeat (s : State) (n : Nat) (refill : Bool) : State :=
  let ended := s.beat
  let s := s.discardNotifies
  let runs := s.linksRun
  let s := (s.quartzEdge n).heartbeat.ageRefills
  let s := s.snapshotStep
  let s := ((s.homeRecords ended).queueRecords ended).cacheRecords ended
  let s := if !runs || s.firmwareAway then s else s.applyRoutes
  let s := if runs && s.beatState ≠ .beatless then s.applyArmed else s
  let s := s.jasperBoundary (runs && s.beatState ≠ .beatless)
  let s : State := (if refill then s.refill else s.missedWork 7 {}).settlePolicers.pollGenerations
  let s := { s with mgmt := { s.mgmt with sessions := s.mgmt.sessions.map (fun (x : Session) => { x with notified := 0 }) } }
  let s := s.roundTrips
  if runs then ((s.originate.judgeRoot.sendBeats).autoStart).pollManaged else s

/-- The number of the next beat: 0 for the first. -/
def State.nextBeat (s : State) : Nat := if s.quartz.begun then (s.beat + 1) % 2 ^ 48 else 0

/-- BEAT_BOUNDARY: Quartz generates its next edge (R9, R47, R51). -/
def execBeatBoundary (s : State) : Res :=
  if s.beatsRun then clocked s.nextBeat 0 (fun s => s.cutoffWork.beginBeat s.nextBeat true) s else effect (fun s => s) s

/-! ## Commits (R25, R58 to R64) -/

/-- The present time lies before (n - 1):1000. -/
def State.beforeLoad (s : State) (n : Nat) : Bool := decide (s.beat * 1024 + s.tick + 24 < n * 1024)

/-- The checks of CommitArm (R25, R58, R66). -/
def State.commitArmChecks (s : State) (args : List Byte) : CmdChecks :=
  let target := fieldAt args 4 8
  { resource := if s.beatState = .beatless || s.floodTooLong then some 0x0502 else none
    range := if bits target 9 0 ≠ 0 || bits target 63 58 ≠ 0 then some 0x0602
      else if (fieldAt args 0 4).testBit 31 || s.beat + 1048576 < bits target 57 10 then some 0x0702 else none
    busy := if s.armed.isSome then some 0x0802 else none }

/-- An arm after the cut-off: a cancelled commit (R58). -/
def State.lateArm (s : State) (tag target : Nat) : State :=
  let c : CommitRec := { tag := tag, target := target, state := .cancelled }
  let s := if s.beforeLoad target then s.sendCancel tag target none else s
  let d : CommitRec := { c with reason := .lateArm }
  (s.missedWork 1 d.report).decideCancelled c .lateArm

/-- COMMIT_ARM (R25, R58). -/
def execCommitArm (env : JdpEnv) (s : State) : Res :=
  effectOf env (fun s => s.trigger env 0x1420 (fun s args => s.commitArmChecks args)
    (fun s args =>
      let tag := fieldAt args 0 4
      let n := bits (fieldAt args 4 8) 57 10
      if s.afterCutoff n then (s.lateArm tag n).cmdFailed 0x1420 0x0301
      else (s.armStaged tag n).cmdDone 0x1420 [])) s

/-- STAGED_DISCARD (R25). -/
def execStagedDiscard (env : JdpEnv) (s : State) : Res :=
  effectOf env (fun s => s.trigger env 0x1421 (fun _ _ => {}) (fun s _ => s.discardStagedSet.cmdDone 0x1421 [])) s

/-- The target beat that means any target (R61). -/
def anyTarget : Nat := 2 ^ 48 - 1

/-- An applied commit is relabelled LATE_CANCEL (R62). Log entry 34 (DEDUCED). -/
def State.relabel (s : State) (tag : Nat) (target : Option Nat) (why : CommitReason) : State :=
  let p (c : CommitRec) : Bool := decide (c.tag = tag) && decide (c.state = .applied)
    && (match target with | some n => decide (c.target = n) | none => true)
  match s.commits.find? p with
  | none => s
  | some c =>
    let new : CommitRec := { c with state := .lateCancel, reason := why, decidedBeat := s.beat, decidedTick := s.tick }
    ({ s with commits := mapFirst p (fun _ => new) s.commits }).missedWork 2 new.report

/-- The armed commit meets a cancel before its boundary (R62). -/
def State.meetCancel (s : State) (a : Armed) (why : CommitReason) : State :=
  if s.beforeLoad a.com.target then s.dropArmed.decideCancelled a.com why
  else { s with armed := some { a with late := if a.late = .none then why else a.late } }

/-- A cancel that a client asks for (R60 to R62): in SAFE and in BEATLESS none is sent. Log entry 67 (DESIGN
CHOICE). -/
def State.commandCancel (s : State) (tag : Nat) : State :=
  let quiet := s.device = .safe || s.beatState = .beatless
  match s.armed with
  | some a =>
    if a.com.tag = tag then
      (if quiet then s else s.sendCancel tag a.com.target none).meetCancel a .command
    else (if quiet then s else s.sendCancel tag anyTarget none).relabel tag none .command
  | none => (if quiet then s else s.sendCancel tag anyTarget none).relabel tag none .command

/-- COMMIT_CANCEL (R60 to R62). -/
def execCommitCancel (env : JdpEnv) (s : State) : Res :=
  effectOf env (fun s => s.trigger env 0x1422 (fun _ _ => {})
    (fun s args => (s.commandCancel (fieldAt args 0 4)).cmdDone 0x1422 [])) s

/-- COMMIT_CANCEL_RECEIVE: forwarded once, and met by the commit that it names (R61, R62). -/
def execCommitCancelReceive (port : PortId) (tag target : Nat) (s : State) : Res :=
  effect (fun s =>
    if !s.managed port.val || !s.linksRun then s
    else
      let any := decide (target = anyTarget)
      let early := any || decide (s.beat < target)
      let s := if early && !s.fabric.forwarded.contains (tag, target) then s.sendCancel tag target (some port.val) else s
      match s.armed with
      | some a =>
        if a.com.tag = tag && (any || a.com.target = target) then s.meetCancel a .remoteCancel
        else if early then s else s.relabel tag (some target) .remoteCancel
      | none => if early then s else s.relabel tag (some target) .remoteCancel) s

/-! ## BeatReacquire (R56) -/

/-- The checks of BeatReacquire. -/
def State.reacquireChecks (s : State) (_ : List Byte) : CmdChecks := { busy := if s.armed.isSome then some 0x0802 else none }

/-- BEAT_REACQUIRE: PENDING until a qualified source's next edge. -/
def execBeatReacquire (env : JdpEnv) (s : State) : Res :=
  effectOf env (fun s => s.trigger env 0x1402 (fun s args => s.reacquireChecks args)
    (fun s _ => { s with startup := { s.startup with reacquire := true } })) s

/-- The adopted number begins a beat: the beat that it ends leaves its audit segments and chunks unfinished (Table 3-4), and an armed
set whose boundary is passed over is cancelled. Log entry 34 (DEDUCED). -/
def State.adopt (s : State) (x : BeatSrc) (n : Nat) : State :=
  let skipped := match s.armed with | some a => decide (a.com.target ≤ n) | none => false
  let s := if skipped then s.cancelArmed .lateArm true else s
  let s := s.occurWith (Src.device 0x07) { d0 := s.beat, d1 := n }
  let s := if s.linksRun then (upTo 48).foldl (fun u m => u.abandonSegment m) s else s
  (if s.quartz.cutoffDone then s else s.abandonChunks).beginBeat n false |>.lockTo x

/-- The number that a waiting BeatReacquire takes from a source, its first qualified one (R56). -/
def State.reacquired (s : State) (src : BeatSrc) : Option Nat :=
  match s.srcOrder.filter (fun x => (s.src x).qualified), (s.src src).last with
  | x :: _, some l => if s.startup.reacquire && x = src && s.quartzRuns then some ((l.1 + l.2) % 2 ^ 48) else none
  | _, _ => none

/-- A locked Quartz holds the number already: that of its present beat where the sources have still to be judged in it, else
that of the next, whose edge is due (R56). Log entry 34 (DEDUCED). -/
def State.holdsNumber (s : State) (n : Nat) : Bool :=
  s.beatState = .locked && decide (n = (if s.quartz.judged then s.beat + 1 else s.beat) % 2 ^ 48)

/-- BeatReacquire ends DONE with the numbers before and after. -/
def State.endReacquire (s : State) (before n : Nat) : State :=
  ({ s with startup := { s.startup with reacquire := false } }).cmdDone 0x1402 (toBytes 8 before ++ toBytes 8 n)

/-- BEAT_REACQUIRE_ADOPT: at the next edge of the first qualified source, its number is adopted; a locked Quartz that holds
the number already changes nothing. -/
def execBeatReacquireAdopt (src : BeatSrc) (s : State) : Res :=
  match s.reacquired src with
  | none => effect (fun s => s) s
  | some n =>
    if s.holdsNumber n then effect (fun s => s.endReacquire n n) s
    else clocked n 0 (fun s => (s.adopt src n).endReacquire s.beat n) s

end Sys2Proof.Machine
end

