-- ==== Sys2Proof/Machine/Startup.lean ====
section
/-! DEFINITION. Start-up and self-test, device states, supplies and temperature, firmware images and
power domains (16 of 01, 17, 18), and the persistent store (02). -/

namespace Sys2Proof.Machine

/-! ## Reset (R16, R318 to R320) -/

/-- The presence inputs of the slots are what the cards make them: a channel is EMPTY or SEATING by them (R313).
Log entry 42 (DEDUCED). -/
def State.keepPresence (s t : State) : State :=
  t.each (s.slots.map (·.1)) (fun u c =>
    let x := s.slot c
    if x.long || x.short then
      ((u.modSlot c (fun y => { y with long := x.long, short := x.short })).w (K.slotPresence c)
        (2 * ofBool x.long + ofBool x.short)).w (K.slotChannelState c) 1
    else u)

/-- The whole device but the persistent store and the flash is reset (R318). Log entry 42 (DEDUCED). -/
def State.powerReset (s : State) : State :=
  s.keepPresence { State.reset with
    pending := s.pending, store := s.store, flash := s.flash, out := s.out, freeCtr := s.freeCtr }

/-- The start-up sequence begins: ResetCount and ResetCause are recorded (R319, R320). Log entry 42 (DEDUCED). -/
def State.release (s : State) (cause : Nat) : State :=
  let (x, t) := s.fresh
  let n := s.store.resetCount + 1
  let (n, t) := if n < 2 ^ 32 then (n, s) else (x % 2 ^ 32, t)
  { t with pins := { t.pins with reset := false }, store := { t.store with resetCount := n, resetCause := cause } }

/-- PWRON_RST_N_ASSERT: lanes idle, gates off, heartbeat low (R318). -/
def execPwronRstNAssert (s : State) : Res := clocked 0 0 (fun s => s.powerReset) s

/-- PWRON_RST_N_RELEASE: start-up begins; `powerOn` says that the rails have just risen (R319, Table 17-7). -/
def execPwronRstNRelease (powerOn : Bool) (s : State) : Res :=
  effect (fun s => if s.pins.reset then s.release (if powerOn then 0 else 1) else s) s

/-- Start-up stands in a phase: released, in BOOT (R320). -/
def State.inPhase (s : State) (n : Nat) : Bool := !s.pins.reset && s.device = .boot && s.r K.startupPhase = n

/-- Start-up ends in HOLD with a cause (R320). -/
def State.hold (s : State) (cause : Nat) : State :=
  (((s.w K.startupHoldCause cause).w K.startupPhase 9).setDevice .hold).settleBridges

/-- FUSE_LOAD_COMPLETE: corrected bits are counted; LOGIC_BIST starts with the AVSBus request (R322, R343). -/
def execFuseLoadComplete (corrected : Nat) (uncorrectable : Bool) (s : State) : Res :=
  effect (fun s =>
    if !s.inPhase 0 then s
    else
      let s := s.bump K.startupFuseCorrected corrected
      if uncorrectable then s.hold 1
      else
        let s := { s with startup := { s.startup with avsWaiting := true } }
        (s.w K.startupPhase 1).emit (.avs Config.avsFused)) s

/-- AVS_ACKNOWLEDGE: the fused set point is in force (R343). -/
def execAvsAcknowledge (s : State) : Res :=
  effect (fun s =>
    if s.startup.avsWaiting then
      let s := { s with startup := { s.startup with avsWaiting := false } }
      (s.w K.suppliesAvsSetPoint Config.avsFused).wb K.suppliesAvsAcknowledged true
    else s) s

/-- AVS_TIMEOUT: VDD_CORE stays at 0.75 V (R343). -/
def execAvsTimeout (s : State) : Res :=
  effect (fun s =>
    if s.startup.avsWaiting then
      ({ s with startup := { s.startup with avsWaiting := false } }).wb K.suppliesAvsAcknowledged false
    else s) s

/-- LOGIC_BIST_COMPLETE: bit d of `failed` says that die d's signature differs (R322). -/
def execLogicBistComplete (failed : BitVec 12) (s : State) : Res :=
  effect (fun s =>
    if !s.inPhase 1 || s.startup.avsWaiting then s
    else
      let s := s.w K.startupLogicBistResult failed.toNat
      if failed.toNat = 0 then s.w K.startupPhase 2 else s.hold 2) s

/-! ## Memory BIST and repair (R323, R324) -/

/-- Spare rows of a memory instance, by its array kind (Table 17-3). -/
def spareRows (memInst : Nat) : Nat := if bits memInst 11 8 ≤ 3 then 16 else 4

/-- A failing or listed row gets the next spare of its instance, with its row of BistResults (Table 17-4): whether a spare
was left, and the state. Origin is 1 BIST or 2 LIST. -/
def State.repairRow (s : State) (memInst row bitNo origin : Nat) : Bool × State :=
  let used := Tbl.getD s.startup.spares memInst 0
  let ok := decide (used < spareRows memInst)
  let head := ((memInst % 65536) * 2 ^ 32 + row % 2 ^ 32) * 256 + bitNo % 256
  let v := ((head * 4 + origin) * 4 + (if ok then 1 else 2)) * 16 + (if ok then used else 0)
  let n := s.startup.bistRows
  let t := if n < 1024 then s.w (K.startupBistResults + n) (v * 2 ^ 64) else s
  let st := { t.startup with
    bistRows := n + 1, spares := if ok then Tbl.put t.startup.spares memInst (used + 1) else t.startup.spares }
  let t := { t with startup := st }
  (ok, if ok then t.bump K.startupRepairsApplied 1 else t)

/-- Listed rows, then the other failing rows, get their spares (R324): the first instance without one, and the state. -/
def State.repairAll (s : State) (listed : List (Nat × Nat × Nat × Nat)) (found : List BistFind) : Option Nat × State :=
  let step (a : Option Nat × State) (x : Nat × Nat × Nat × Nat) : Option Nat × State :=
    let (ok, t) := a.2.repairRow x.1 x.2.1 x.2.2.1 x.2.2.2
    (if ok then a.1 else a.1 <|> some x.1, t)
  let same (x : Nat × Nat × Nat × Nat) (f : BistFind) : Bool := decide (f.memInst = x.1) && decide (f.row = x.2.1)
  let l := listed.map (fun x => (x.1, x.2.1, ((found.find? (same x)).map (·.bit)).getD 255, 2))
  let f := (found.filter (fun f => !listed.any (fun x => same x f))).map (fun f => (f.memInst, f.row, f.bit, 1))
  let (bad, t) := (l ++ f).foldl step (none, s)
  (bad, t.bump K.startupMemoryFailures found.length)

/-- MEMORY_BIST_COMPLETE (R324). -/
def execMemoryBistComplete (found : List BistFind) (s : State) : Res :=
  effect (fun s =>
    if !s.inPhase 2 then s
    else
      match s.repairAll s.store.repairs found with
      | (none, t) => t.w K.startupPhase 3
      | (some _, t) => t.hold 3) s

/-- REPAIR_LIST_CLEAR: the repairs stay in force until the next start-up (R325). -/
def execRepairListClear (env : JdpEnv) (s : State) : Res :=
  effectOf env (fun s => s.trigger env 0x7F03 (fun _ _ => {})
    (fun s _ => ({ s with store := { s.store with repairs := [] } }).cmdDone 0x7F03 [])) s

/-! ## Firmware images (R327 to R329) -/

/-- A row of a flash slot: erased flash reads all ones. Log entry 36 (PRESUMED). -/
def State.flashRow (s : State) (slot row : Nat) : Nat := Tbl.getD s.flash (16384 * slot + row) (2 ^ 8192 - 1)

/-- A row of a flash slot changed. Log entry 36 (PRESUMED). -/
def State.putFlash (s : State) (slot row v : Nat) : State :=
  { s with flash := Tbl.putD s.flash (16384 * slot + row) v (2 ^ 8192 - 1) }

/-- The first n bytes of a slot. -/
def State.flashBytes (s : State) (slot n : Nat) : List Byte :=
  ((upTo ((n + 1023) / 1024)).flatMap (fun r => toBytes 1024 (s.flashRow slot r))).take n

/-- SlotStatus of an image in flash: 1 VALID, 2 BAD_MAGIC, 3 BAD_LENGTH, 4 BAD_CRC (Table 17-5, R327, R328). Log entry
37 (DEDUCED). -/
def State.imageStatus (s : State) (slot : Nat) : Nat :=
  let h := s.flashBytes slot 32
  let len := fieldAt h 4 4
  if fieldAt h 0 4 ≠ 0x5A4E3834 then 2
  else if crc32 (h.take 28) ≠ fieldAt h 28 4 then 4
  else if len < 1024 || 16777184 < len then 3
  else if crc32 ((s.flashBytes slot (32 + len)).drop 32) ≠ fieldAt h 8 4 then 4
  else 1

/-- The FirmwareVersion and DictionaryVersion of a slot's header. -/
def State.imageVersions (s : State) (slot : Nat) : Nat × Nat :=
  let h := s.flashBytes slot 32
  (fieldAt h 12 4, fieldAt h 16 4)

/-- A slot's SlotStatus, and its version, 0 unless VALID. -/
def State.setSlot (s : State) (slot v : Nat) : State :=
  let ver := if v = 1 then (s.imageVersions slot).1 else 0
  if slot = 0 then (s.w K.startupSlotStatusA v).w K.versionsSlotAVersion ver
  else (s.w K.startupSlotStatusB v).w K.versionsSlotBVersion ver

/-- SlotStatus of a slot. -/
def State.slotStatus (s : State) (slot : Nat) : Nat := s.r (if slot = 0 then K.startupSlotStatusA else K.startupSlotStatusB)

/-- A slot is checked in flash. -/
def State.checkSlot (s : State) (slot : Nat) : State := s.setSlot slot (s.imageStatus slot)

/-- The image of a slot runs. -/
def State.runImage (s : State) (slot : Nat) : State :=
  let (f, d) := s.imageVersions slot
  ((s.w K.startupRunningImage (slot + 1)).w K.versionsFirmwareVersion f).w K.versionsDictionaryVersion d

/-- Firmware runs: PREOP, the heartbeat on local beats of 125 µs (R279, R320, R330). -/
def State.firmwareRuns (s : State) (slot : Nat) : State :=
  let s := { s with beat := 0, tick := 0, pins := { s.pins with lanesIdle := false } }
  let s := (((s.runImage slot).w K.startupPhase 5).setDevice .preop).settleBridges
  let s := s.w K.hbState 2
  if slot = 1 then s.occur (Src.device 0x16) else s

/-- A slot is loaded: where its image is VALID, firmware runs; otherwise the sequence goes to a further step (R328). -/
def State.loadSlot (s : State) (slot : Nat) (otherwise' : State → State) : State :=
  let s := s.checkSlot slot
  if s.slotStatus slot = 1 then s.firmwareRuns slot else otherwise' s

/-- The load of slot A, and where it is not valid of slot B (R328). -/
def State.loadFirmware (s : State) : State :=
  if s.inPhase 3 then s.loadSlot 0 (fun t => t.w K.startupPhase 4)
  else if s.inPhase 4 then s.loadSlot 1 (fun t => t.hold 4)
  else s

/-- FW_LOAD_COMPLETE (R328); the local beats begin at 0:0. -/
def execFwLoadComplete (s : State) : Res :=
  if s.device = .boot && s.loadFirmware.device = .preop then clocked 0 0 (fun s => s.loadFirmware) s
  else effect (fun s => s.loadFirmware) s

/-- FW_INIT_COMPLETE (R330). -/
def execFwInitComplete (s : State) : Res :=
  effect (fun s => if s.device = .preop && s.r K.startupPhase = 5 then s.w K.startupPhase 6 else s) s

/-! ## The persistent store (R42 to R44) -/

/-- The object of a key is saved by Store. -/
def persistent (k : Nat) : Bool := ((Schema.find (objIndex k) (objSub k)).map (·.p)).getD false

/-- The live values of P objects that differ from their defaults. -/
def State.persistentValues (s : State) : Tbl Nat := s.regs.filter (fun e => persistent e.1)

/-- The record of an object's value, with its CRC-32C over the key and the value. The spec gives the records no layout.
Log entry 61 (DESIGN CHOICE). -/
def storeRec (k v : Nat) : StoreRec := { key := k, value := v, crc := crc32c (toBytes 8 k ++ toBytes 128 v) }

/-- Every record passes its CRC-32C and the closing record is present, with the generation's number and record count
(R42, R43). -/
def validGeneration (g : Generation) : Bool :=
  g.records.all (fun r => decide (r = storeRec r.key r.value)) && decide (g.closing = some (g.number, g.records.length))

/-- The values that a generation holds. -/
def generationValues (g : Generation) : Tbl Nat := g.records.map (fun r => (r.key, r.value))

/-- The newest valid generation. -/
def State.newest (s : State) : Option Generation :=
  (s.store.generations.filter validGeneration).foldl (fun (b : Option Generation) g =>
    match b with
    | none => some g
    | some x => if x.number < g.number then some g else b) none

/-- A saved value as a restore loads it: a binding of a VMD is none, since no VMD exists (R42). Log entry 37 (DEDUCED). -/
def restoredValue (k v : Nat) : Nat :=
  if 0x3000 ≤ objIndex k && objIndex k < 0x3040 && objSub k = 0x09 && bits v 63 56 = 1 then 0 else v

/-- The values of a restore that take effect: a row of VppbTable of Kind PORT that R157 does not admit at that moment is restored
as Kind NONE. -/
def State.admittedValues (s : State) (set : Tbl Nat) : Tbl Nat :=
  set.map (fun e =>
    let i := objIndex e.1
    let b := (i - 0x3000, objRow e.1, bits e.2 63 56, bits e.2 55 48)
    if 0x3000 ≤ i && i < 0x3040 && objSub e.1 = 0x09 && b.2.2.1 ≠ 0 && !s.bindingOk set [] (s.bindings set) b then (e.1, 0)
    else e)

/-- Every P object takes its saved value, or its default (R43). -/
def State.restore (s : State) : State :=
  let newest := s.newest
  let saved := match newest with | some g => generationValues g | none => []
  let stale := (s.persistentValues.filter (fun e => (Tbl.find saved e.1).isNone)).map (fun e => (e.1, defaultOf e.1))
  let s := s.applyAll stale
  let s := s.applyAll (s.admittedValues (saved.map (fun e => (e.1, restoredValue e.1 e.2))))
  let s := match newest with | some g => s.w K.storeGenerationNumber g.number | none => s
  s.w K.storeLastRestoreOutcome (if newest.isSome then 1 else 2)

/-- RESTORE_PHASE_COMPLETE: the saved values are live, the sampling registers are seeded, and Quartz is ACQUIRING (R43, R290,
R330). Log entry 49 (DEDUCED). -/
def execRestorePhaseComplete (s : State) : Res :=
  effect (fun s =>
    if s.device = .preop && s.r K.startupPhase = 6 then
      (s.restore.seedStreams.enterBeat .acquiring).w K.startupPhase 7
    else s) s

/-- Store or Restore is PENDING. -/
def State.storeBusy (s : State) : Bool := (s.cmd 0x1200).state = .pending || (s.cmd 0x1201).state = .pending

/-- The parameter area's ring in words of 8 bytes: 992 KiB. The spec gives a word no width. Log entry 61 (DESIGN
CHOICE). -/
def ringWords : Nat := 992 * 1024 / 8

/-- Word w lies in the span of m words from word `from'`. -/
def inSpan (from' m w : Nat) : Bool := decide ((w + ringWords - from') % ringWords < m)

/-- How many words of the ring, retired ones included, n good words take from a position on (R44). -/
def ringSpan (retired : List Nat) (from' n : Nat) : Nat → Nat → Nat
  | 0, m => m
  | fuel + 1, m =>
    let k := n + (retired.filter (inSpan from' m)).length
    if k = m then m else ringSpan retired from' n fuel k

/-- Two spans of the ring share a word. -/
def spansMeet (a m b n : Nat) : Bool := inSpan a m b || inSpan b n a

/-- A span of the ring holds no word of the newest valid generation, whose space is reused only after a newer one is valid
(R43). -/
def State.spanFree (s : State) (x : Nat × Nat) : Bool :=
  decide (x.2 ≤ ringWords) && (match s.newest with | some g => !spansMeet g.start g.words x.1 x.2 | none => true)

/-- The ring words that a generation of a size takes next: from the present position on, or where they would meet the newest valid
generation from its end on; none where retired words leave no room beside it (R43, R44). -/
def State.placeFor (s : State) (size : Nat) : Option (Nat × Nat) :=
  let n := (size + 7) / 8
  let span (p : Nat) : Nat × Nat := (p, ringSpan s.store.retiredWords p n (s.store.retiredWords.length + 1) n)
  let past := match s.newest with | some g => [(g.start + g.words) % ringWords] | none => []
  ((s.store.written % ringWords :: past).map span).find? s.spanFree

/-- A generation written into the ring, where it has a place: what older ones held of its words is gone, and the highest write count
of a word follows (R43, R44). Log entry 37 (DEDUCED). -/
def State.writeGeneration (s : State) (number size : Nat) (records : List StoreRec) : Option State :=
  (s.placeFor size).map (fun x =>
    let g : Generation := { number := number, records := records, size := size, start := x.1, words := x.2 }
    let kept := s.store.generations.filter (fun y => !spansMeet y.start y.words x.1 x.2)
    let written := s.store.written + (x.1 + ringWords - s.store.written % ringWords) % ringWords + x.2
    ({ s with store := { s.store with generations := kept ++ [g], written := written } }).w K.storeWearMaximum
      ((written + ringWords - 1) / ringWords % 2 ^ 32))

/-- The checks of Store and Restore: one of them at a time (R42, R43). Log entry 12 (DEDUCED). -/
def State.storeChecks (s : State) (_ : List Byte) : CmdChecks := { busy := if s.storeBusy then some 0x0803 else none }

/-- STORE: every P object's live value is snapshot in one step (R42). Neither the size of a generation is stated, nor what a Store
does that the ring has no room for beside the newest valid generation. Log entry 29 (DESIGN CHOICE). -/
def execStore (env : JdpEnv) (s : State) : Res :=
  effectOf env (fun s => s.trigger env 0x1200 (fun s args => s.storeChecks args)
    (fun s _ =>
      let (x, s) := s.fresh
      let size := x % 2 ^ 32
      let s := (s.w K.storeGenerationSize size).w K.storeLastStoreAt s.now
      if 496 * 1024 < size then s.cmdFailed 0x1200 0x0E02
      else
        let records := s.persistentValues.map (fun e => storeRec e.1 e.2)
        match s.writeGeneration (maxOf (s.store.generations.map (·.number)) + 1) size records with
        | some t => t
        | none => s.cmdFailed 0x1200 0x0E02)) s

/-- The words of a generation among those that have failed. -/
def State.failing (s : State) (g : Generation) (bad : List Nat) : List Nat :=
  bad.filter (fun w => decide (w < ringWords) && inSpan g.start g.words w && !s.store.retiredWords.contains w)

/-- Words that failed their read-back are retired from the ring (R44). -/
def State.retireWords (s : State) (l : List Nat) : State :=
  ({ s with store := { s.store with retiredWords := s.store.retiredWords ++ l } }).bump K.storeWordsRetired l.length

/-- The generation written last gets its closing record, and the Store is DONE (R42). -/
def State.closeGeneration (s : State) (g : Generation) : State :=
  let done := { g with closing := some (g.number, g.records.length) }
  let s := { s with store := { s.store with
    generations := s.store.generations.map (fun x => if x = g then done else x) } }
  (s.w K.storeGenerationNumber g.number).cmdDone 0x1200 []

/-- A generation that did not read back is dropped, and its words that failed are retired (R44). -/
def State.dropFailed (s : State) (g : Generation) (bad : List Nat) : State :=
  let s := s.retireWords (s.failing g bad)
  { s with store := { s.store with generations := s.store.generations.filter (fun x => x ≠ g) } }

/-- The Store is repeated at the next position of the ring, past the words that failed, where the ring has room (R44). -/
def State.repeatStore (s : State) (g : Generation) (bad : List Nat) : Option State :=
  (s.dropFailed g bad).writeGeneration g.number g.size g.records

/-- The repeat of a Store fails too (R44). -/
def State.repeatFailed (s : State) : State := (s.occur (Src.device 0x15)).cmdFailed 0x1200 0x0E01

/-- STORE_COMPLETE: every record has been read back; failing words are retired and the Store is repeated once at the next
position (R44). Log entry 37 (DEDUCED). -/
def execStoreComplete (badWords repeatBad : List Nat) (s : State) : Res :=
  effect (fun s =>
    match (s.cmd 0x1200).state, s.store.generations.getLast? with
    | .pending, some g =>
      if (s.failing g badWords).isEmpty then s.closeGeneration g
      else
        match s.repeatStore g badWords with
        | none => (s.dropFailed g badWords).repeatFailed
        | some t =>
          match t.store.generations.getLast? with
          | none => t
          | some h =>
            if (t.failing h repeatBad).isEmpty then t.closeGeneration h
            else (t.retireWords (t.failing h repeatBad)).repeatFailed
    | _, _ => s) s

/-- RESTORE: PENDING until the newest valid generation has been loaded (R43). -/
def execRestore (env : JdpEnv) (s : State) : Res :=
  effectOf env (fun s => s.trigger env 0x1201 (fun s args => s.storeChecks args)
    (fun s _ => s)) s

/-- RESTORE_COMPLETE (R43). -/
def execRestoreComplete (s : State) : Res :=
  effect (fun s => if (s.cmd 0x1201).state = .pending then s.restore.cmdDone 0x1201 [] else s) s

/-! ## Device states (R16, R51, Table 1-7) -/

/-- A tenant has a VMD or a device bound, or a Jasper job is active. -/
def State.stopForbidden (s : State) : Bool := !(s.bindings []).isEmpty || decide (0 < s.jobsActive)

/-- A COMMAND to `0x1004.02`: 1 START, 2 STOP, 3 RESET, each admitted in one device state (R16, R51, Table 19-6). Log
entry 12 (DEDUCED). -/
def State.askState (s : State) (e : JdpEnv) : State :=
  s.serve e opCommand 0x1004 0x02 (fun p s =>
    let args := (s.cmd 0x1004).args
    let x := ofBytes args
    let admitted := match s.device with
      | .preop => decide (x ≠ 2) && decide (x ≠ 3)
      | .operational => decide (x ≠ 1) && decide (x ≠ 3)
      | .safe => decide (x ≠ 1) && decide (x ≠ 2)
      | _ => false
    let stop := s.device = .operational && x = 2
    let checks : CmdChecks :=
      { resource := if (s.device = .preop && x = 1 && s.beatState = .acquiring) || (stop && s.stopForbidden)
          then some 0x0502 else none
        range := if x < 1 || 3 < x then some 0x0703 else none
        busy := if stop && s.armed.isSome then some 0x0802 else none }
    match s.triggerRefusal e p ⟨0x1004, .owner, true, true, true, 1, 1, []⟩ admitted checks with
    | some code => .error code
    | none =>
      let t := (s.accept e 0x1004).cmdDone 0x1004 []
      if x = 1 then .ok (t.enterOperational, [])
      else if x = 2 then .ok (t.discardStagedSet.setDevice .preop, [])
      else .ok (t.setDevice .boot, []))

/-- The request and its answer; a RESET that is accepted then resets the device (R16, R318). -/
def State.stateRequest (s : State) (e : JdpEnv) : State :=
  let t := s.askState e
  if s.device = .safe && t.device = .boot then t.powerReset.release 2 else t

/-- A COMMAND to `0x1004.02`; a reset takes Quartz back to 0:0. Log entry 42 (DEDUCED). -/
def requestState (env : JdpEnv) (s : State) : Res :=
  if env.payload.all (fun b => decide (b < 256)) && s.device = .safe && (s.stateRequest env).device = .boot
  then clocked 0 0 (fun s => s.stateRequest env) s
  else effectOf env (fun s => s.stateRequest env) s

/-- STATE_REQUEST_START: PREOP to OPERATIONAL. -/
def execStateRequestStart (env : JdpEnv) (s : State) : Res := requestState env s

/-- STATE_REQUEST_STOP: OPERATIONAL to PREOP, with the staged set discarded. -/
def execStateRequestStop (env : JdpEnv) (s : State) : Res := requestState env s

/-- STATE_REQUEST_RESET: SAFE to BOOT, as a release of PWRON_RST_N. -/
def execStateRequestReset (env : JdpEnv) (s : State) : Res := requestState env s

/-! ## Supplies and temperature (R342, R345) -/

/-- SUPPLY_OUT_OF_RANGE: the rails out of range, bits as RailsOutOfRange (R342). -/
def execSupplyOutOfRange (rails : BitVec 7) (s : State) : Res :=
  effect (fun s =>
    if s.linksRun then
      let s := s.w K.suppliesRailsOutOfRange rails.toNat
      if rails.toNat = 0 then s else s.occur (Src.device 0x02)
    else s) s

/-- The hottest of the twelve readings and the lowest die that shows it. Log entry 38 (DEDUCED). -/
def hottest (temps : List Int) : Int × Nat :=
  temps.zipIdx.foldl (fun (b : Int × Nat) x => if b.1 < x.1 then (x.1, x.2) else b) (temps.headD 0, 0)

/-- The pin and the object of THERM_ALERT_N. -/
def State.setAlert (s : State) (b : Bool) : State :=
  ({ s with pins := { s.pins with thermAlert := b } }).wb K.thermalThermAlert b

/-- TEMPERATURE_READING: the twelve dies in units of 0.1 °C, in die-number order (R345, Table 18-9). Log entry 38
(DEDUCED). -/
def execTemperatureReading (temps : List Int) (s : State) : Res :=
  effect (fun s =>
    if temps.length ≠ 12 || s.pins.reset then s
    else
      let (t, d) := hottest temps
      let peak := if s.startup.tempRead then max t (ofTwos 32 (s.r K.thermalJunctionPeak)) else t
      let warn := if 1000 ≤ t then s.startup.warnRun + 1 else 0
      let trip := if 1100 ≤ t then s.startup.tripRun + 1 else 0
      let st := { s.startup with warnRun := min 2 warn, tripRun := min 2 trip, tempRead := true }
      let s := { s with startup := st }
      let s := ((s.w K.thermalJunctionMax (toTwos 32 t)).w K.thermalHottestDie d).w K.thermalJunctionPeak (toTwos 32 peak)
      let s := s.w K.thermalDieTemperatures (temps.foldl (fun v x => v * 65536 + toTwos 16 x) 0)
      let s := if 2 ≤ warn && !s.pins.thermAlert then (s.setAlert true).occur (Src.device 0x00)
        else if t < 970 && s.pins.thermAlert then s.setAlert false else s
      if 2 ≤ trip then s.occur (Src.device 0x01) else s) s

/-! ## Replacing firmware in service (R329, R334 to R336) -/

/-- A row programmed: the first row of a sector erases it; programming clears bits only (R329). Log entry 36 (PRESUMED). -/
def State.programRow (s : State) (slot row v : Nat) : State :=
  let s := if row % 4 = 0 then (upTo 4).foldl (fun u j => u.putFlash slot (row + j) (2 ^ 8192 - 1)) s else s
  s.putFlash slot row (s.flashRow slot row &&& v)

/-- A WRITE of a flash slot (R329). -/
def State.writeFlash (s : State) (p : Priv) (slot row : Nat) (data : List Byte) : Served :=
  let i := 0x7F10 + slot
  match Schema.find i 0x01 with
  | none => .error 0x0202
  | some o =>
    match firstOf [s.writeRefusal p i 0x01, if s.slotStatus (1 - slot) ≠ 1 then some 0x0502 else none,
        o.windowRefusal row data] with
    | some c => .error c
    | none =>
      let s := s.each (rowsOf o.ty.size data).zipIdx (fun u x => u.programRow slot (row + x.2) x.1)
      .ok (s.setSlot slot 0, [])

/-- FLASH_SLOT_WRITE (R329). -/
def execFlashSlotWrite (env : JdpEnv) (slotB : Bool) (s : State) : Res :=
  effectOf env (fun s =>
    let slot := ofBool slotB
    s.serve env opWrite (0x7F10 + slot) 0x01 (fun p s => s.writeFlash p slot env.row env.payload)) s

/-- The slot argument of ImageCheck and FirmwareActivate. -/
def slotRefusal (args : List Byte) : Option Nat := if 1 < args.getD 0 0 then some 0x0702 else none

/-- The checks of ImageCheck. -/
def imageCheckChecks (args : List Byte) : CmdChecks := { range := slotRefusal args }

/-- IMAGE_CHECK (R329). -/
def execImageCheck (env : JdpEnv) (s : State) : Res :=
  effectOf env (fun s => s.trigger env 0x7F12 (fun _ args => imageCheckChecks args)
    (fun s args =>
      let slot := args.getD 0 0
      let s := s.checkSlot slot
      s.cmdDone 0x7F12 (toBytes 1 (s.slotStatus slot) ++ toBytes 4 (s.imageVersions slot).1))) s

/-- The checks of FirmwareActivate (R334). -/
def State.activateChecks (s : State) (args : List Byte) : CmdChecks :=
  let other := s.cmds.any (fun e => decide (e.2.state = .pending) && decide (e.1 ≠ 0x1200) && decide (e.1 ≠ 0x1201)
    && decide (e.1 ≠ 0x7F13))
  { resource := if other || (args.getD 0 0 ≤ 1 && s.slotStatus (args.getD 0 0) ≠ 1) then some 0x0502 else none
    range := slotRefusal args
    busy := if s.armed.isSome then some 0x0802 else if s.storeBusy then some 0x0803 else none }

/-- Every session closes, the staged set is discarded, Phase reads FW_ACTIVATING, and the routes in force stand until those computed
afterwards differ (R334, R335). -/
def State.giveUpSessions (s : State) : State :=
  let s := s.discardNotifies.discardStagedSet
  let s := { s with
    mgmt := { s.mgmt with sessions := [], challenges := [], proxies := [], proxyBlocks := [] }
    fabric := { s.fabric with computed := none, standing := true } }
  s.w K.startupPhase 10

/-- FIRMWARE_ACTIVATE: the command ends DONE and is answered; then the cores go away to load the slot (R334). -/
def execFirmwareActivate (env : JdpEnv) (s : State) : Res :=
  effectOf env (fun s =>
    let t := s.trigger env 0x7F13 (fun s args => s.activateChecks args)
      (fun s args =>
        let s := { s with startup := { s.startup with activating := some (args.getD 0 0) } }
        s.cmdDone 0x7F13 [])
    if s.startup.activating.isNone && t.startup.activating.isSome then t.giveUpSessions else t) s

/-- The cores run a slot again: the phase of start-up goes on from where the beat stands. -/
def State.coresRun (s : State) (slot : Nat) : State :=
  (s.runImage slot).w K.startupPhase (if s.beatState = .acquiring then 7 else 8)

/-- FIRMWARE_ACTIVATION_END: the new image runs, or the old one, or none (R334, R336). -/
def execFirmwareActivationEnd (s : State) : Res :=
  effect (fun s =>
    match s.startup.activating with
    | none => s
    | some slot =>
      let old := s.r K.startupRunningImage - 1
      let s := ({ s with startup := { s.startup with activating := none } }).checkSlot slot
      if s.slotStatus slot = 1 then (s.coresRun slot).occur (Src.device 0x16)
      else
        let s := s.checkSlot old
        if s.slotStatus old = 1 then s.coresRun old else s.w K.startupPhase 11) s

/-! ## Power domains (R332, R333, Table 17-6) -/

/-- The units of a domain are empty: its ports' virtual output queues, its resequencing windows, its egress buffers and its
downstream tags; and no mesh packet from or to its units is unanswered (R332). -/
def State.domainEmpty (s : State) (g : Nat) : Bool :=
  let mine (c : Cell) : Bool := decide (c.dst / 4 = g)
  let gone (t : Tbl (List Cell)) : Bool := t.all (fun e => !e.2.any mine)
  s.core.voq.all (fun q => q.2.all (fun c => !mine c.cell)) && gone s.core.flight1 && gone s.core.flight2
    && gone s.core.window
    && (groupPorts g).all (fun p => (Tbl.getD s.core.egress p {}).total = 0)
    && s.core.tags.all (fun t => decide (t.2.outPort / 4 ≠ g)) && !s.mesh.carries (16 + g)

/-- DOMAIN_DRAIN_END: fenced (R332). -/
def execDomainDrainEnd (group : GroupId) (s : State) : Res :=
  effect (fun s => if s.domain group.val = .draining && s.domainEmpty group.val then s.setDomain group.val .fenced else s) s

/-- 1,024 beats have passed since the domain's state changed last (R332). -/
def State.drainOver (s : State) (g : Nat) : Bool := decide (bits (s.r (K.domainLastChange g)) 57 10 + 1024 ≤ s.beat)

/-- DOMAIN_DRAIN_TIMEOUT: 1,024 beats have passed with something left (R332). -/
def execDomainDrainTimeout (group : GroupId) (s : State) : Res :=
  effect (fun s =>
    let g := group.val
    if s.domain g = .draining && !s.domainEmpty g && s.drainOver g then
      ((s.setDomain g .on).w (K.domainLastResult g) 2).w (K.domainPowerDown g) 0
    else s) s

/-- DOMAIN_POWER_OFF (R332). -/
def execDomainPowerOff (group : GroupId) (s : State) : Res :=
  effect (fun s =>
    let g := group.val
    if s.domain g = .fenced then (s.setDomain g .off).w (K.domainLastResult g) 1 else s) s

/-- Memory instances of a domain: the arrays of its two slices on their port die (R323). Log entry 32 (DEDUCED). -/
def inDomain (g memInst : Nat) : Bool :=
  decide (memInst / 4096 = g / 3) && [3, 4, 7, 8, 9].contains (bits memInst 11 8) && decide (memInst % 256 / 2 = g % 3)

/-- DOMAIN_POWER_UP_END: the domain's own memory BIST ends; a row without a spare leaves it off (R333). Log entry 32
(DEDUCED). -/
def execDomainPowerUpEnd (group : GroupId) (found : List BistFind) (s : State) : Res :=
  effect (fun s =>
    let g := group.val
    if s.domain g ≠ .poweringUp then s
    else
      let fresh := s.startup.spares.filter (fun (e : Nat × Nat) => !inDomain g e.1)
      let s := { s with startup := { s.startup with spares := fresh } }
      match s.repairAll (s.store.repairs.filter (fun x => inDomain g x.1)) found with
      | (none, t) => (t.setDomain g .on).w (K.domainLastResult g) 1
      | (some i, t) => ((t.setDomain g .failed).w (K.domainLastResult g) 3).w (K.domainFailedInstance g) i) s

/-! ## Check values (R353) -/

/-- The n low bits of a value in the opposite order. -/
def reflect (n v : Nat) : Nat := ofBitsSet ((upTo n).filter (fun k => v.testBit (n - 1 - k)))

/-- A check-value unit: the running value after the bytes, and the check value (R30, R48, R216, R327, Table 19-7). The
running value stands before the final reflection. Log entry 39 (DEDUCED). -/
def checkRun (alg init : Nat) (data : List Byte) : Nat × Nat :=
  match alg with
  | 0 =>
    let r := crc32cRun (reflect 32 init) data
    (reflect 32 r, r ^^^ 0xFFFFFFFF)
  | 1 => let r := crc64Run (init % 2 ^ 64) data; (r, r)
  | 2 =>
    let r := crc32Run (reflect 32 init) data
    (reflect 32 r, r ^^^ 0xFFFFFFFF)
  | _ => let r := crc16Run (init % 2 ^ 16) data; (r, r)

/-- RunningValue and CheckValue as results. Log entry 39 (DEDUCED). -/
def checkResults (x : Nat × Nat) : List Byte := toBytes 8 x.1 ++ toBytes 8 x.2

/-- The fields that both argument blocks share (Table 19-7). -/
def checkHead (args : List Byte) : Option Nat :=
  if 3 < fieldAt args 0 1 then some 0x0703 else if fieldAt args 4 4 ≠ 0 then some 0x0702 else none

/-- The checks of CheckCompute. Log entry 39 (DEDUCED). -/
def computeChecks (args : List Byte) : CmdChecks :=
  let start := fieldAt args 16 8
  let len := fieldAt args 24 8
  { range := checkHead args <|>
      (if 15 < fieldAt args 1 1 || 4095 < fieldAt args 2 2 then some 0x0702
       else if start % 64 ≠ 0 || len % 64 ≠ 0 || len < 64 || 2 ^ 40 < len then some 0x0704 else none) }

/-- The unit of the management core that serves the dictionary. -/
def State.servingUnit (s : State) : Nat := 48 + s.r K.deviceServingCore % 4

/-- CHECK_COMPUTE: PENDING until the last byte has been read (R353); from its trigger to its end it counts as one access in flight of
the serving core's unit (R260). Log entry 48 (DEDUCED). -/
def execCheckCompute (env : JdpEnv) (s : State) : Res :=
  effectOf env (fun s => s.trigger env 0x1300 (fun _ args => computeChecks args)
    (fun s args =>
      let u := s.servingUnit
      let s := s.admitAccess u
      { s with startup := { s.startup with
        checkAt := s.clock
        checkUnit := some (u, s.r (K.acuEpoch u))
        check := some (fieldAt args 0 1, fieldAt args 2 2, fieldAt args 1 1, fieldAt args 16 8, fieldAt args 24 8,
          fieldAt args 8 8) } })) s

/-- The lowest address from `a` to `last` that no rule of the list grants, walking from rule to rule. -/
def firstRefused (rows : List Nat) (x : Access) : Nat → Nat → Option Nat
  | 0, a => some a
  | n + 1, a =>
    if x.last < a then none
    else
      match rows.find? (fun r => ruleGrants r x a) with
      | none => some a
      | some r => firstRefused rows x n (max (a + 1) ((bits r 47 0 / 4096 + 1) * 4096))

/-- n bytes can have been read since the CheckCompute began, at 2 GB/s at most (R353). Log entry 4 (DESIGN CHOICE). -/
def State.readSoFar (s : State) (n : Nat) : Bool := decide (n ≤ 2 * s.nsAgo s.startup.checkAt)

/-- CHECK_COMPUTE_COMPLETE: the values over the data read, or the refusal or poison that ended the reading (R257,
R353). Log entry 39 (DEDUCED). -/
def execCheckComputeComplete (data : List Byte) (poisoned : Bool) (s : State) : Res :=
  effect (fun s =>
    match s.startup.check with
    | none => s
    | some (alg, pid, ld, start, len, init) =>
      let u := s.servingUnit
      let x : Access := { space := 0, target := pid, ld := ld, addr := start, last := start + len - 1, need := { read := true } }
      let t := s.endCheck
      match firstRefused (s.ruleRows u (s.setB u)) x 65 start with
      | some a => ((t.recordRefusal u { x with addr := a, last := a + 63 } .defaultMap).count evRefusals 1 {}).cmdFailed 0x1300 0x0003
      | none =>
        if poisoned then t.cmdFailed 0x1300 0x0004
        else if data.length ≠ len || !s.readSoFar len then s
        else t.cmdDone 0x1300 (checkResults (checkRun alg init data))) s

/-- The checks of CheckBytes. -/
def bytesChecks (args : List Byte) : CmdChecks :=
  { range := checkHead args <|> (if fieldAt args 1 3 ≠ 0 then some 0x0702 else none) }

/-- CHECK_BYTES (R353). -/
def execCheckBytes (env : JdpEnv) (s : State) : Res :=
  effectOf env (fun s => s.trigger env 0x1301 (fun _ args => bytesChecks args)
    (fun s args =>
      s.cmdDone 0x1301 (checkResults (checkRun (fieldAt args 0 1) (fieldAt args 8 8) (args.drop 16))))) s

/-! ## The debug port (R257, R326) -/

/-- DEBUG_PORT_ACCESS: an access of the IEEE 1149.1 master that ACU56 checks: a refused read returns all ones, a refused
write is discarded. What an admitted access finds outside the switch's objects is not stated. Log entries 7 (DESIGN
CHOICE), 40 (DESIGN CHOICE). -/
def execDebugPortAccess (space : Fin 5) (write : Bool) (target ld addr : Nat) (_data : Nat) (s : State) : Res :=
  effect (fun s =>
    let need : Perm := if !write then { read := true } else if space.val = 1 then { config := true } else { write := true }
    let x : Access := { space := space.val, target := target, ld := ld, addr := addr, last := addr + 7, need := need }
    match s.acuRefusal 56 x true with
    | some why =>
      let s := (s.recordRefusal 56 x why).count evRefusals 1 {}
      if write then s else s.emit (.debugData (2 ^ 64 - 1))
    | none => if write then s else s.emit (.debugData (Config.debugSpace space.val addr))) s

end Sys2Proof.Machine
end

