-- ==== Sys2Proof/Machine/Dict.lean ====
section
/-! DEFINITION. The dictionary server (02, 19): what every object reads as, generic writes, and block transfers. -/

namespace Sys2Proof.Machine

/-! ## Values that a read computes -/

/-- A row of SessionTable (R352). -/
def State.sessionRow (s : State) (j : Nat) : Nat :=
  match s.mgmt.sessions[j]? with
  | none => 0
  | some x =>
    let idle := s.nsAgo x.seen / 1000000
    ((((x.id * 256 + x.credential) * 256 + privRank x.priv) * 256 + x.lastAlive) * 256 + ofBool x.mgmtB) * 2 ^ 64
      + idle % 2 ^ 32 * 2 ^ 32

/-- A row of CredentialTable (R352). -/
def State.credentialRow (s : State) (j : Nat) : Nat :=
  match Tbl.find s.store.credentials j with
  | some (_, p) => 256 + privRank p
  | none => 0

/-- The commit that CommitStatus describes, and the row of one (R64, R354). -/
def State.commitShown (s : State) : Option CommitRec := (s.armed.map (·.com)) <|> s.commits.head?

/-- A commit in the layout of `0x1423`: sub-index b (R64). -/
def commitField (c : CommitRec) (b : Nat) : Nat :=
  let decided := if c.state = .armed || c.state = .held then 0 else beatVal c.decidedBeat c.decidedTick
  match b with
  | 1 => c.tag
  | 2 => beatVal c.target 0
  | 3 => c.state.num
  | 4 => c.reason.num
  | _ => decided

/-- A row of CommitHistory. -/
def commitRow (c : CommitRec) : Nat :=
  (((commitField c 1 * 2 ^ 64 + commitField c 2) * 256 + commitField c 3) * 256 + commitField c 4) * 2 ^ 64
    + commitField c 5

/-- A row of LatchMap: the latches of 32 sources (Table 14-5). -/
def State.latchRow (s : State) (j : Nat) : Nat :=
  ofBitsSet ((upTo 32).filter (fun b => s.on (K.sourceLatch (32 * j + b))))

/-- `.0A RetireTarget` of a source (Table 14-4). Log entry 7 (DESIGN CHOICE). -/
def retireTargetValue (k : Nat) : Nat :=
  let t := (Src.info k).target
  let n := match t with
    | .none => 0
    | .lane n => n
    | .port p => p
    | .slot c => c
    | .engine e => e
    | .sramRow => srcArray k
    | .garnetWay _ _ => srcArray k
  t.kind * 2 ^ 24 + n % 65536 * 256

/-- A row of MemberStatus (Table 7-4). -/
def State.memberStatus (s : State) (p j : Nat) : Nat :=
  let e := s.egress p
  let q := e.member j
  let tok := s.memberTokens p j
  let noTok := mcRate (s.memberConfig p j) ≠ 0 && decide (tok ≤ 0)
  let noCredit := match q with
    | [] => false
    | x :: rest => cellWhole x rest && !(s.port p).admits (s.isHost p) x.cell.begins
  let order := match q with
    | [] => false
    | x :: _ => e.orderWaits x
  let head := (toTwos 32 tok * 2 ^ 32 + Tbl.getD e.finish j 0 % 2 ^ 32) * 65536 + q.length % 65536
  ((head * 8 + (ofBool noTok * 4 + ofBool noCredit * 2 + ofBool order)) * 2 ^ 13) * 2 ^ 32
    + Tbl.getD e.sent j 0 % 2 ^ 32

/-- The switches of the topology in the order of `0x5010`: this one, then the records stored. -/
def State.topologyList (s : State) : List (Lsr × Nat) :=
  (s.fabric.own.map (fun l => (l, 1))).toList ++ s.fabric.db.map (fun d => (d.lsr, if d.reachable then 2 else 3))

/-- A row of TopologySwitches (Table 12-4). Log entry 18 (DEDUCED). -/
def State.switchRow (s : State) (j : Nat) : Nat :=
  match s.topologyList[j]? with
  | none => 0xFFFF * 2 ^ 176
  | some (l, st) =>
    let g := s.topologyNow
    let me := Config.fabricIdentity
    let near := st ≠ 3
    let level := if near then levelOf g (rootOf g me) l.identity else 0
    let dist := if near then (hops g me l.identity).getD 0 else 0
    let a := ((l.identity % 2 ^ 64 * 65536 + l.switchPid % 65536) * 256 + level % 256) * 256 + dist % 256
    let b := ((a * 256 + l.links.length % 256) * 256 + st) * 2 ^ 32 + l.sequence % 2 ^ 32
    ((b * 2 ^ 48 + l.stamp % 2 ^ 48) * 4 + (ofBool l.beatRoot * 2 + ofBool l.proxyAdmit)) * 2 ^ 62

/-- The links of a switch row, the FOREIGN ones of this switch after those of its record. -/
def State.linksOf (s : State) (j : Nat) : List (LsrLink × Bool) :=
  let own := match s.topologyList[j]? with | some (l, _) => l.links.map (fun x => (x, false)) | none => []
  if j = 0 then
    own ++ ((allPorts.filter (fun p => (s.port p).foreign)).map (fun p => (s.ownLink p, true)))
  else own

/-- A row of TopologyLinks (Table 12-5). Log entry 18 (DEDUCED). -/
def State.linkRow (s : State) (row : Nat) : Nat :=
  match (s.linksOf (row / 96))[row % 96]?, s.topologyList[row / 96]? with
  | some (x, foreign), some (l, _) =>
    let list := s.topologyList
    let peer := match x.peer with
      | some id => if foreign then 255 else (list.findIdx? (fun e => e.1.identity = id)).getD 255
      | none => 255
    let kind := if foreign then 3 else if x.weuri then 1 else 2
    let g := s.topologyNow
    let up := match x.peer with
      | some id => !foreign && hopUp g (rootOf g Config.fabricIdentity) l.identity id
      | none => false
    let a := ((x.localPort * 256 + peer) * 256 + x.peerPort % 256) * 4 + kind
    let b := ((a * 2 + ofBool up) * 32) * 2 ^ 32 + x.delay % 2 ^ 32
    ((b * 256 + x.width % 256) * 256 + x.rate % 256) * 2 ^ 48
  | _, _ => 255 * 2 ^ 112

/-- A row of the event log (Table 14-6). -/
def State.logRow (s : State) (j : Nat) : Nat :=
  match Tbl.find s.onyx.log j with | some e => e.row | none => 0

/-- A row of DeviceInventory with its counts (Table 9-7). -/
def State.inventoryView (s : State) (v : Nat) : Nat :=
  match inventoryName v with
  | none => v
  | some (pid, ld) => setBits (setBits v 87 65 (s.freeCount pid ld)) 64 42 (s.poisonedCount pid ld)

/-- A row of RepairList (R325). -/
def State.repairListRow (s : State) (j : Nat) : Nat :=
  match s.store.repairs[j]? with
  | none => 0
  | some (i, row, b, n) => (((i % 65536 * 2 ^ 32 + row % 2 ^ 32) * 256 + b % 256) * 2 ^ 48 + n % 2 ^ 48) * 2 ^ 24

/-- What an object of index i, sub-index b and row j reads as where the value follows from other state. Log entry 7
(DESIGN CHOICE). -/
def State.computed (s : State) (i b j : Nat) : Option Nat :=
  if i = 0x1101 then some (s.sessionRow j)
  else if i = 0x1111 then some (s.credentialRow j)
  else if i = 0x1180 then
    if b = 0x05 then some s.store.repairs.length else if b = 0x06 then some s.store.lastFatal else none
  else if i = 0x1181 then some (s.logRow j)
  else if i = 0x1182 then some (s.latchRow j)
  else if i = 0x1401 then if b = 0x01 then some s.now else if b = 0x07 then some s.floodBound else none
  else if i = 0x1423 then some ((s.commitShown.map (fun c => commitField c b)).getD 0)
  else if i = 0x1424 then some ((s.commits[j]?.map commitRow).getD 0)
  else if 0x2000 ≤ i && i < 0x2198 then if b = 0x01 then some (s.laneView (i - 0x2000)) else none
  else if 0x2500 ≤ i && i < 0x2560 then
    let p := i - 0x2500
    if b = 0x0B then some (s.link p).num
    else if b = 0x0D then some (s.widthNow p)
    else if b = 0x16 then some ((s.endStall p).r (K.portWindowStallTime p))
    else if b = 0x1D then some (s.heldNow p)
    else none
  else if i = 0x2801 then some (s.poolStatus j)
  else if i = 0x2802 then if b = 0x04 then some s.stuckCells else none
  else if i = 0x2803 then some (s.voqOccupancy j)
  else if i = 0x2804 then some (s.reseqStatus j)
  else if 0x2900 ≤ i && i < 0x2960 then
    let p := i - 0x2900
    if b = 0x06 then some ((s.accruePoliced p).r (K.egressPolicedTime p))
    else if b = 0x07 then some (s.memberStatus p j)
    else if b = 0x0A then some (s.egressSize p).1
    else none
  else if i = 0x3800 then
    if b = 0x07 then some s.backgroundQueue
    else if b = 0x0B then some s.largestFreeRun
    else if b = 0x0C then some ((match s.armed with | some a => (patchesOf a.acts).length | none => 0) +
        (s.jasper.jobs.filter (fun j => j.2.held)).length)
    else none
  else if i = 0x3802 then some (s.shownRow (K.berylDescriptorTable + j))
  else if i = 0x3804 then some (s.inventoryView (s.r (K.berylDeviceInventory + j)))
  else if i = 0x4000 then
    if b = 0x01 then some s.garnet.entries.length
    else if b = 0x02 then some s.entriesBusy
    else if b = 0x04 then some s.garnet.retiredWays.length
    else if b = 0x0A then some s.atomicLocks
    else none
  else if 0x4100 ≤ i && i < 0x4200 then
    if b = 0x0A then some (s.entriesHeld (i - 0x4100)) else if b = 0x0B then some (s.borrowed (i - 0x4100)) else none
  else if 0x4800 ≤ i && i < 0x4804 then
    if b = 0x01 then some (s.engineMode (i - 0x4800)) else if b = 0x0E then some (s.locksInUse (i - 0x4800)) else none
  else if i = 0x4808 then
    if b = 0x01 then some s.jobsPending else if b = 0x02 then some s.jobsActive else none
  else if i = 0x4810 then some (s.job j).row
  else if i = 0x5000 then if b = 0x08 then some s.diameter else if b = 0x09 then some s.routingRoot else none
  else if i = 0x5010 then some (s.switchRow j)
  else if i = 0x5011 then some (s.linkRow j)
  else if 0x6000 ≤ i && i < 0x7000 then if b = 0x0A then some (retireTargetValue (i - 0x6000)) else none
  else if i = 0x7002 then
    let (v, w) := Tbl.getD s.accrueTimes.tel.counters j (0, 0)
    some (counterRow v w 0)
  else if i = 0x7003 then
    let ((v, w), n) := Tbl.getD s.tel.shadow j ((0, 0), bits (s.r K.telShadowBeat) 57 10)
    some (counterRow v w n)
  else if i = 0x7011 then some (Tbl.getD s.tel.samples j {}).row
  else if i = 0x7F00 then
    if b = 0x04 then some s.store.resetCause else if b = 0x05 then some s.store.resetCount else none
  else if i = 0x7F02 then some (s.repairListRow j)
  else if i = 0x7F10 || i = 0x7F11 then some (s.flashRow (i - 0x7F10) j)
  else none

/-- What the object of a key reads as. -/
def State.view (s : State) (k : Nat) : Nat := (s.computed (objIndex k) (objSub k) (objRow k)).getD (s.r k)

/-- What it reads as with the staged-view flag (R24). -/
def State.viewAs (s : State) (staged : Bool) (k : Nat) : Nat :=
  if staged then (Tbl.find s.staged k).getD (s.view k) else s.view k

/-- The bytes of text, without leading zeros. -/
def textBytes (n v : Nat) : List Byte := (toBytes n v).dropWhile (fun b => b = 0)

/-- The bytes of a value of a type. -/
def Ty.bytes (t : Ty) (v : Nat) : List Byte :=
  match t with
  | .utf8 n => textBytes n v
  | _ => toBytes t.size v

/-- The result of a width list at position k: its offset and width. -/
def resultAt : List Nat → Nat → Nat → Option (Nat × Nat)
  | [], _, _ => none
  | w :: _, 0, off => some (off, w)
  | w :: t, k + 1, off => resultAt t k (off + w)

/-- A read of a sub-index of a command object (R27, Tables 2-4, 2-5). Log entry 12 (DEDUCED). -/
def State.readCommand (s : State) (c : CmdInfo) (sub : Nat) : Except Nat (List Byte) :=
  let x := s.cmd c.index
  if sub = 1 then .ok x.args
  else if sub = 3 then .ok x.status
  else
    match x.state with
    | .idle => .error 0x0902
    | .pending => .error 0x0901
    | _ =>
      if sub = 4 then .ok (toBytes 2 x.result)
      else
        match resultAt c.results (sub - 5) 0 with
        | some (off, w) => if off + w ≤ x.results.length then .ok ((x.results.drop off).take w) else .error 0x0202
        | none => .error 0x0202

/-- A table of that many rows holds the row. -/
def rowRefusal (rows row : Nat) : Option Nat := if rows ≠ 0 && rows ≤ row then some 0x0702 else none

/-- The whole value that a read of an object gives; of a TABLE, its n rows from `row` on. -/
def State.readValue (s : State) (staged : Bool) (i sub row n : Nat) : Except Nat (List Byte) :=
  match s.readRefusal i sub with
  | some code => .error code
  | none =>
    if sub = 0 then .ok (toBytes 1 ((Schema.highest i).getD 0))
    else
      match Schema.cmd i with
      | some c => s.readCommand c sub
      | none =>
        match Schema.find i sub with
        | none => .error 0x0202
        | some o =>
          if o.rows = 0 then .ok (o.ty.bytes (s.viewAs staged (obj i sub)))
          else
            match rowRefusal o.rows row with
            | some code => .error code
            | none => .ok ((upTo (min n (o.rows - row))).flatMap (fun k =>
                toBytes o.ty.size (s.viewAs staged (obj i sub + row + k))))

/-! ## Writes -/

/-- The values that a WRITE of an object carries, by key: rows of a TABLE, or the value. -/
def ObjInfo.valuesOf (o : ObjInfo) (i row : Nat) (data : List Byte) : List (Nat × Nat) :=
  let k := obj i o.sub
  if o.rows = 0 then [(k, ofBytes data)] else (rowsOf o.ty.size data).mapIdx (fun j v => (k + row + j, v))

/-- Length of a WRITE: the object's size, or whole rows of a TABLE (R19, R37). -/
def ObjInfo.lengthRefusal (o : ObjInfo) (row : Nat) (data : List Byte) : Option Nat :=
  if o.rows = 0 then
    match o.ty with
    | .utf8 n => if data.length ≤ n then none else some 0x0601
    | t => if data.length = t.size then none else some 0x0601
  else o.windowRefusal row data

/-- A WRITE of an object without checks of its own, in the order of R28 (R19, R22 to R24). -/
def State.writePlain (s : State) (p : Priv) (i sub row : Nat) (data : List Byte) : Served :=
  match s.writeRefusal p i sub, Schema.find i sub with
  | some code, _ => .error code
  | none, none => .error 0x0302
  | none, some o =>
    let vs := o.valuesOf i row data
    match firstOf [firstOf (vs.map (fun x => s.resourceRefusal x.1 (writtenValue x.1 x.2))), o.lengthRefusal row data,
        firstOf (vs.map (fun x => if o.rows = 0 then o.valueRefusal x.2 else none)),
        firstOf (vs.map (fun x => s.rangeRefusal x.1 (writtenValue x.1 x.2)))] with
    | some code => .error code
    | none => .ok (s.each vs (fun u x => u.storeValue o.acc x.1 (writtenValue x.1 x.2)), [])

/-- A WRITE of `.01` of a command (R27). -/
def State.writeArgs (s : State) (p : Priv) (c : CmdInfo) (sub : Nat) (data : List Byte) : Served :=
  match firstOf [s.argsRefusal p c sub, if c.argMax < data.length then some 0x0601 else none,
      if (s.cmd c.index).state = .pending then some 0x0801 else none] with
  | some code => .error code
  | none => .ok (s.modCmd c.index (fun x => { x with args := data }), [])

/-- A WRITE of any object: those with checks of their own, then the others. -/
def State.writeObject (s : State) (p : Priv) (i sub row : Nat) (data : List Byte) : Served :=
  match Schema.cmd i with
  | some c => s.writeArgs p c sub data
  | none =>
    if i = 0x3801 && sub = 0x01 then s.writeEntries p row data
    else if i = 0x3802 && sub = 0x01 then s.writeRuns p false row data
    else if i = 0x3803 && sub = 0x01 then s.writeRuns p true row data
    else if i = 0x3804 && sub = 0x01 then s.writeInventory p row data
    else if 0x5800 ≤ i && i < 0x5839 && sub = 0x07 then s.writeSwap p (i - 0x5800) data
    else if 0x6000 ≤ i && i < 0x7000 && sub = 0x04 then s.writeForce p (i - 0x6000) data
    else if 0x6000 ≤ i && i < 0x7000 && sub = 0x05 then s.writeLatch p (i - 0x6000) data
    else if 0x6000 ≤ i && i < 0x7000 && sub = 0x06 then s.writeOccurrences p (i - 0x6000) data
    else if i = 0x7000 && sub = 0x06 then s.writeTail p data
    else if 0x7800 ≤ i && i < 0x7820 && sub = 0x01 then s.writePower p (i - 0x7800) data
    else if (i = 0x7F10 || i = 0x7F11) && sub = 0x01 then s.writeFlash p (i - 0x7F10) row data
    else s.writePlain p i sub row data

/-- A plain READ or WRITE of a value longer than 1,408 bytes is refused (R35). -/
def tooLongRefusal (i sub : Nat) : Option Nat :=
  match Schema.find i sub with
  | some o => if o.rows = 0 && 1408 < o.ty.size then some 0x0601 else none
  | none => none

/-- REGISTER_WRITE: a WRITE (R19 to R24, R28, R37, R38). -/
def execRegisterWrite (env : JdpEnv) (index sub : Nat) (s : State) : Res :=
  effectOf env (fun s =>
    let i := index % 65536
    let b := sub % 256
    s.serve env opWrite i b (fun p s =>
      match tooLongRefusal i b with
      | some code => match s.writeRefusal p i b with | some c => .error c | none => .error code
      | none => s.writeObject p i b env.row env.payload)) s

/-! ## Block transfers (R35 to R37) -/

/-- The open block of the session that sent a message, and whether the last one has expired: of a session here, or of an
entry session that speaks by proxy (R35, R39). Log entry 11 (DEDUCED). -/
def State.blockOf (s : State) (e : JdpEnv) : Option Block × Bool :=
  match e.via with
  | .proxy _ => Tbl.getD s.mgmt.proxyBlocks e.session (none, false)
  | _ => match s.sessionOf e with | some x => (x.block, x.blockExpired) | none => (none, false)

/-- The session's block set, and a note of an expired one forgotten. -/
def State.setBlock (s : State) (e : JdpEnv) (b : Option Block) : State :=
  match e.via with
  | .proxy _ => { s with mgmt := { s.mgmt with
      proxyBlocks := Tbl.putD s.mgmt.proxyBlocks e.session (b, false) (none, false) } }
  | _ => s.modOwn e (fun x => { x with block := b, blockExpired := false })

/-- The bytes of segment k of a TABLE from a row on, and whether more follow; the rows are those of this step. -/
def State.tableSegment (s : State) (staged : Bool) (o : ObjInfo) (i row k : Nat) : List Byte × Bool :=
  let n := o.ty.size
  let first := 1408 * k / n
  let rows := min (1408 / n + 2) (o.rows - row - first)
  let data := (upTo rows).flatMap (fun j => toBytes n (s.viewAs staged (obj i o.sub + row + first + j)))
  ((data.drop (1408 * k - first * n)).take 1408, decide (1408 * (k + 1) < (o.rows - row) * n))

/-- The TABLE that an index holds at a sub-index. -/
def tableAt (i sub : Nat) : Option ObjInfo :=
  match Schema.find i sub with
  | some o => if o.rows ≠ 0 && sub ≠ 0 then some o else none
  | none => none

/-- The segment of an open READ_BLOCK that a message asks for: its bytes, and the block while more follow (R35, R36). -/
def State.readSegment (s : State) (e : JdpEnv) (b : Block) : ServedBlock :=
  let k := e.segment
  let (seg, more) := match tableAt b.index b.sub with
    | some o => s.tableSegment e.stagedView o b.index b.row k
    | none => ((b.data.drop (1408 * k)).take 1408, decide (1408 * (k + 1) < b.data.length))
  (s.setBlock e (if more then some { b with next := k + 1, since := s.clock } else none), .ok (seg, more))

/-- A continuation segment: what it does with the open block where it is the next of it, else its refusal, which ends the
block (R35). A continuation after the block has expired is told so once. -/
def State.continueBlock (s : State) (e : JdpEnv) (write : Bool) (i sub : Nat) (next : Block → ServedBlock) : ServedBlock :=
  match s.blockOf e with
  | (some b, _) =>
    if b.write = write && b.index = i && b.sub = sub && b.next = e.segment then next b
    else (s.setBlock e none, .error 0x0C01)
  | (none, expired) => (s.setBlock e none, .error (if expired then 0x0C04 else 0x0C03))

/-- READ_BLOCK accepted by steps 1 to 5: a segment 0 takes the place of the open block, with a copy of the whole value of
an object that is no TABLE (R35, R36). Log entry 15 (DESIGN CHOICE). -/
def State.readBlock (s : State) (e : JdpEnv) (i sub : Nat) : ServedBlock :=
  match s.readRefusal i sub <|> (if e.length ≠ 0 then some 0x0601 else none) with
  | some code => (s.setBlock e none, .error code)
  | none =>
    if e.segment = 0 then
      match s.readValue e.stagedView i sub e.row 0 with
      | .error code => (s.setBlock e none, .error code)
      | .ok data =>
        s.readSegment e { write := false, index := i, sub := sub, row := e.row, next := 0, data := data }
    else s.continueBlock e false i sub (s.readSegment e)

/-- READ_BLOCK (R35, R36). -/
def execReadBlock (env : JdpEnv) (index sub : Nat) (s : State) : Res :=
  effectOf env (fun s => s.serveBlock env opReadBlock (index % 65536) (sub % 256) (fun _ s =>
    s.readBlock env (index % 65536) (sub % 256))) s

/-- An open block has had no segment for 1 s (R35). -/
def State.blockIdle (s : State) (b : Block) : Bool := decide (1000000000 ≤ s.nsAgo b.since)

/-- A session's block idle for 1 s is discarded; the next continuation is refused (R35). -/
def Session.blockOut (x : Session) (s : State) : Session :=
  if x.block.any s.blockIdle then { x with block := none, blockExpired := true } else x

/-- A block idle for 1 s is discarded, of the session or of the entry session of that identifier (R35). -/
def execBlockIdleTimeout (session : Nat) (s : State) : Res :=
  effect (fun s =>
    let t := s.modSession session (fun x => x.blockOut s)
    match Tbl.getD s.mgmt.proxyBlocks session (none, false) with
    | (some b, _) =>
      if s.blockIdle b then
        { t with mgmt := { t.mgmt with proxyBlocks := Tbl.put t.mgmt.proxyBlocks session (none, true) } }
      else t
    | _ => t) s

/-- The size that a block of an object may have, in bytes; a command's arguments by their longest block. -/
def blockLimit (i sub row : Nat) : Nat :=
  match Schema.cmd i, Schema.find i sub with
  | some c, _ => c.argMax
  | none, some o => if o.rows = 0 then o.ty.size else (o.rows - row) * o.ty.size
  | none, none => 0

/-- The checks of a WRITE_BLOCK segment that do not depend on its data. -/
def State.blockRefusal (s : State) (p : Priv) (i sub : Nat) : Option Nat :=
  match Schema.cmd i with
  | some c => s.argsRefusal p c sub
  | none => s.writeRefusal p i sub

/-- A write with the last data of a block, or with the whole rows that have come: the block that stays open. -/
def State.writeWith (s : State) (e : JdpEnv) (p : Priv) (b : Block) (data : List Byte) (left : Option Block) :
    ServedBlock :=
  match s.writeObject p b.index b.sub b.row data with
  | .error code => (s.setBlock e none, .error code)
  | .ok (t, _) => (t.setBlock e left, .ok ([], false))

/-- Data of a WRITE_BLOCK segment taken: a TABLE's whole rows are written as they complete, another object's value
with the last segment, as one write (R35, R37). Log entries 15 (DESIGN CHOICE), 69 (DESIGN CHOICE). -/
def State.takeSegment (s : State) (e : JdpEnv) (p : Priv) (b : Block) : ServedBlock :=
  let data := b.data ++ e.payload
  let rowSize := match tableAt b.index b.sub with | some o => o.ty.size | none => 0
  let kept : Block := { b with next := e.segment + 1, data := data, since := s.clock }
  if e.more && e.payload.length ≠ 1408 then (s.setBlock e none, .error 0x0601)
  else if blockLimit b.index b.sub b.row < data.length then (s.setBlock e none, .error 0x0C02)
  else if rowSize = 0 then
    if e.more then (s.setBlock e (some kept), .ok ([], false)) else s.writeWith e p b data none
  else
    let whole := data.length / rowSize * rowSize
    if !e.more && whole ≠ data.length then (s.setBlock e none, .error 0x0601)
    else if whole = 0 then (s.setBlock e (some kept), .ok ([], false))
    else s.writeWith e p b (data.take whole)
      (if e.more then some { kept with data := data.drop whole, row := b.row + whole / rowSize } else none)

/-- WRITE_BLOCK accepted by steps 1 to 5: segment 0 opens a block in place of the open one; a refused segment ends the
block that it would have continued or replaced (R35). Log entry 15 (DESIGN CHOICE). -/
def State.writeBlock (s : State) (e : JdpEnv) (p : Priv) (i sub : Nat) : ServedBlock :=
  match s.blockRefusal p i sub with
  | some code => (s.setBlock e none, .error code)
  | none =>
    if e.segment = 0 then
      s.takeSegment e p { write := true, index := i, sub := sub, row := e.row, next := 0, data := [] }
    else s.continueBlock e true i sub (s.takeSegment e p)

/-- WRITE_BLOCK (R35). -/
def execWriteBlock (env : JdpEnv) (index sub : Nat) (s : State) : Res :=
  effectOf env (fun s => s.serveBlock env opWriteBlock (index % 65536) (sub % 256) (fun p s =>
    s.writeBlock env p (index % 65536) (sub % 256))) s

/-! ## READ (R35, R37) -/

/-- A plain READ accepted by steps 1 to 5: the value, or as many whole rows of a TABLE as fit in 1,408 bytes from Row
onwards (R35, R37). -/
def State.readPlain (s : State) (e : JdpEnv) (i sub : Nat) : Except Nat (List Byte) :=
  match s.readRefusal i sub <|> (if e.length ≠ 0 then some 0x0601 else none) with
  | some code => .error code
  | none =>
    let n := match tableAt i sub with | some o => 1408 / o.ty.size | none => 0
    match s.readValue e.stagedView i sub e.row n with
    | .error code => .error code
    | .ok data => if 1408 < data.length then .error 0x0601 else .ok data

end Sys2Proof.Machine
end

