-- ==== Sys2Proof/Machine/FmApi.lean ====
section
/-! DEFINITION. The CXL Fabric Manager API over MCTP (02, 19): every command of Table 19-9, and every other one. -/

namespace Sys2Proof.Machine

/-- The privilege with which a transport's requests act (R40). -/
def State.fmPriv (s : State) (via : FmVia) : Priv :=
  privOf (s.r (match via with | .i3c => K.fmApiI3cPrivilege | .pcie => K.fmApiPciePrivilege))

/-- A request reaches the endpoint: over I3C always, in-band on the upstream port that FmApiPciePort names. Log entry
44 (DEDUCED). -/
def State.fmReached (s : State) (via : FmVia) : Bool :=
  match via with
  | .i3c => true
  | .pcie =>
    let p := s.r K.fmApiPciePort
    decide (p < 96) && s.isHost p && s.link p = .active

/-- An answer. Log entry 43 (DESIGN CHOICE). -/
def State.fmAnswer (s : State) (via : FmVia) (code : RetCode) (payload : List Byte) : State := s.emit (.fm via code payload)

/-- A command whose answer is `f s`; in BOOT and HOLD only identity commands are answered (R40). Log entry 44 (DEDUCED). -/
def State.fmServe (s : State) (via : FmVia) (identity : Bool) (f : State → State) : State :=
  if s.fmReached via && (identity || !s.islandOnly) then f s else s

/-- The bytes that an object of an index reads as, the rows of a TABLE one after the other (R19, Table 2-1). -/
def State.objectBytes (s : State) (i : Nat) (o : ObjInfo) : List Byte :=
  if o.rows = 0 then o.ty.bytes (s.view (obj i o.sub))
  else (upTo o.rows).flatMap (fun j => toBytes o.ty.size (s.view (obj i o.sub + j)))

/-- The bytes that the objects of an index read as, of those that meet `f`, in the order of their sub-indices. Log entry 43 (DESIGN
CHOICE). -/
def State.indexBytes (s : State) (i : Nat) (f : ObjInfo → Bool) : List Byte :=
  match Schema.index i with
  | none => []
  | some d => (d.objs.filter (fun o => decide (o.acc ≠ .wo) && f o)).flatMap (s.objectBytes i)

/-- IDENTIFY: 0x1000 and 0x1001 (Table 19-9). -/
def execIdentify (via : FmVia) (s : State) : Res :=
  effect (fun s => s.fmServe via true (fun s =>
    s.fmAnswer via .success (s.indexBytes 0x1000 (fun _ => true) ++ s.indexBytes 0x1001 (fun _ => true)))) s

/-- The newest commit of the FM API path: the armed one, or the newest of CommitHistory with bit 31 of its tag set. -/
def State.fmCommit (s : State) : Option CommitRec :=
  ((s.armed.map (·.com)).filter (fun c => c.tag.testBit 31)) <|> s.commits.find? (fun c => c.tag.testBit 31)

/-- What the status of a commit reports: percentage complete and return code (Table 19-9). Log entry 44 (DEDUCED). -/
def fmProgress (c : CommitRec) : Nat × RetCode :=
  match c.state with
  | .applied => (100, .success)
  | .lateCancel => (100, .success)
  | .cancelled => (0, .retryRequired)
  | _ => (0, .backgroundStarted)

/-- BACKGROUND_OPERATION_STATUS (R357, R358): a managed removal is 0 % complete while it waits, and ends Aborted. With no
operation yet, the spec states no status: a free value. -/
def execBackgroundOperationStatus (via : FmVia) (s : State) : Res :=
  effect (fun s => s.fmServe via false (fun s =>
    match s.mgmt.fmOp with
    | .managedRemove _ _ _ => s.fmAnswer via .backgroundStarted [0]
    | .aborted => s.fmAnswer via .aborted [100]
    | .none =>
      match s.fmCommit with
      | some c => s.fmAnswer via (fmProgress c).2 [(fmProgress c).1]
      | none =>
        let (x, s) := s.fresh
        s.fmAnswer via .success [x % 101])) s

/-- GET_RESPONSE_MESSAGE_LIMIT: ResponseLimit (Table 19-9). -/
def execGetResponseMessageLimit (via : FmVia) (s : State) : Res :=
  effect (fun s => s.fmServe via false (fun s => s.fmAnswer via .success [s.r K.fmApiResponseLimit])) s

/-- SET_RESPONSE_MESSAGE_LIMIT: a WRITE of ResponseLimit (Table 19-9). -/
def execSetResponseMessageLimit (via : FmVia) (limit : Nat) (s : State) : Res :=
  effect (fun s => s.fmServe via false (fun s =>
    match s.writePlain (s.fmPriv via) 0x1130 0x06 0 [limit] with
    | .error code => s.fmAnswer via (fmCode code) []
    | .ok (t, _) => t.fmAnswer via .success [t.r K.fmApiResponseLimit])) s

/-- IDENTIFY_SWITCH_DEVICE: 0x1003, then the counts of ports, virtual switches and vPPBs, the tenants that exist and the vPPBs bound
(Table 19-9). -/
def execIdentifySwitchDevice (via : FmVia) (s : State) : Res :=
  effect (fun s => s.fmServe via true (fun s =>
    let tenants := ((upTo 64).filter (fun t => s.tenantState t ≠ .disabled)).length
    s.fmAnswer via .success (s.indexBytes 0x1003 (fun _ => true) ++ [96, 64] ++ toBytes 2 2048 ++ [tenants]
      ++ toBytes 2 (s.bindings []).length))) s

/-- GET_PHYSICAL_PORT_STATE: sub-indices 0x01, 0x02 and 0x0B to 0x0E of the ports (Table 19-9). -/
def execGetPhysicalPortState (via : FmVia) (ports : List PortId) (s : State) : Res :=
  effect (fun s => s.fmServe via false (fun s =>
    s.fmAnswer via .success (ports.flatMap (fun p =>
      p.val :: s.indexBytes (0x2500 + p.val) (fun o => [0x01, 0x02, 0x0B, 0x0C, 0x0D, 0x0E].contains o.sub))))) s

/-- PHYSICAL_PORT_CONTROL: Reset PPB (opcode 2) sends a hot reset on a DEVICE port, whose link retrains; the PERST
operations are Unsupported (R148, Table 19-9). It maps onto no dictionary object, so R40 gives it no privilege to ask for: it is
run with any. Log entries 62 (DESIGN CHOICE), 45 (PRESUMED). -/
def execPhysicalPortControl (via : FmVia) (port : PortId) (opcode : Nat) (s : State) : Res :=
  effect (fun s => s.fmServe via false (fun s =>
    let p := port.val
    if opcode ≠ 2 then s.fmAnswer via .unsupported []
    else if !s.portExists p || !s.isDevice p || !s.linksRun then s.fmAnswer via .invalidInput []
    else
      let t := if s.linkUp p then (s.emit (.hotReset p)).dropLink p else s
      t.fmAnswer via .success [])) s

/-- SEND_PPB_CXL_IO_CONFIGURATION_REQUEST: a configuration access by the serving core, which its unit checks (R257,
Table 13-6). What a read returns is the device's: a free value. It maps onto no dictionary object, so R40 gives it no privilege to
ask for: it is run with any. Log entries 62 (DESIGN CHOICE), 47 (DESIGN CHOICE). -/
def execSendPpbCxlIoConfigurationRequest (via : FmVia) (port : PortId) (routingId register : Nat) (write : Bool)
    (data : Nat) (s : State) : Res :=
  effect (fun s => s.fmServe via false (fun s =>
    let p := port.val
    let a := routingId % 65536 * 4096 + register % 4096
    let need : Perm := if write then { config := true } else { read := true }
    let x : Access := { space := 1, target := bits (s.r (K.fabricPortPids + p)) 11 0, ld := 0, addr := a, last := a, need := need }
    if !s.portExists p || !s.isDevice p then s.fmAnswer via .invalidInput []
    else
      match s.acuRefusal s.servingUnit x true with
      | some y => ((s.recordRefusal s.servingUnit x y).count evRefusals 1 {}).fmAnswer via (fmCode 0x0F01) []
      | none =>
        let s := s.emit (.cfg p (routingId % 65536) (register % 4096) write data)
        if write then s.fmAnswer via .success []
        else
          let (v, s) := s.fresh
          s.fmAnswer via .success (toBytes 4 v))) s

/-- GET_VIRTUAL_CXL_SWITCH_INFO: 0x3000 + n, VppbStatus included (Table 19-9). -/
def execGetVirtualCxlSwitchInfo (via : FmVia) (tenant : TenantId) (s : State) : Res :=
  effect (fun s => s.fmServe via false (fun s =>
    s.fmAnswer via .success (s.indexBytes (0x3000 + tenant.val) (fun _ => true)))) s

/-! ## Binding changes (R41, R358, R360) -/

/-- A set staged by `f` is armed as a background operation, unless `f` is refused, the beat or the flood bound forbids
it (R58, R66), another operation waits or an armed set exists (R41). Log entry 44 (DEDUCED). -/
def State.fmBackground (s : State) (via : FmVia) (f : Priv → State → Except RetCode State) : State :=
  let p := s.fmPriv via
  if privRank p < privRank .owner then s.fmAnswer via (fmCode 0x0401) []
  else if s.device ≠ .operational then s.fmAnswer via (fmCode 0x0501) []
  else if s.beatState = .beatless || s.floodTooLong then s.fmAnswer via (fmCode 0x0502) []
  else
    match f p s with
    | .error code => s.fmAnswer via code []
    | .ok t =>
      if s.armed.isSome then s.fmAnswer via (fmCode 0x0802) []
      else
        match s.mgmt.fmOp with
        | .managedRemove _ _ _ => s.fmAnswer via .busy []
        | _ => (({ t with mgmt := { t.mgmt with fmOp := .none } }).fmArm).fmAnswer via .backgroundStarted []

/-- A staged write of one row of VppbTable. -/
def State.fmStageRow (s : State) (p : Priv) (t b row : Nat) : Except RetCode State :=
  match s.writePlain p (0x3000 + t) 0x09 b (toBytes 8 row) with
  | .error code => .error (fmCode code)
  | .ok (u, _) => .ok u

/-- The row that Bind vPPB asks for (R358). -/
def State.fmBindRow (s : State) (port ld : Nat) : Option Nat :=
  if port = 0xFF && ld < 16 then some (2 ^ 56 + ld * 2 ^ 48)
  else if port < 96 && ld = 0xFFFF && s.portExists port && s.isDevice port then some (2 * 2 ^ 56 + port * 2 ^ 48)
  else none

/-- BIND_VPPB (R358). -/
def execBindVppb (via : FmVia) (tenant : TenantId) (vppb : Fin 32) (port ld : Nat) (s : State) : Res :=
  effect (fun s => s.fmServe via false (fun s => s.fmBackground via (fun p s =>
    match s.fmBindRow port ld with
    | none => .error .invalidInput
    | some row => s.fmStageRow p tenant.val vppb.val row))) s

/-- A managed removal waits for this vPPB (R358). -/
def State.waitsRemove (s : State) (t b : Nat) : Bool :=
  match s.mgmt.fmOp with
  | .managedRemove x y _ => decide (x = t) && decide (y = b)
  | _ => false

/-- The managed removal of a vPPB begins: the attention button, and the wait for PowerOff (R358). -/
def State.beginManaged (s : State) (via : FmVia) (t b : Nat) : State :=
  let until' := s.beat + s.r K.fmApiManagedRemoveWait
  let s := s.pressAttention t b
  let s := { s with mgmt := { s.mgmt with fmOp := .managedRemove t b until' } }
  s.pollManaged.fmAnswer via .backgroundStarted []

/-- UNBIND_VPPB: options 0 and 2 stage the unbinding at once, option 1 first waits for PowerOff (R358). -/
def execUnbindVppb (via : FmVia) (tenant : TenantId) (vppb : Fin 32) (option : Nat) (s : State) : Res :=
  effect (fun s => s.fmServe via false (fun s =>
    let t := tenant.val
    let b := vppb.val
    let ends := option = 2 && s.waitsRemove t b && s.armed.isNone
    let unwaited := if ends then { s with mgmt := { s.mgmt with fmOp := .none } } else s
    if 2 < option then s.fmAnswer via .invalidInput []
    else if option = 1 && s.armed.isNone && privRank .owner ≤ privRank (s.fmPriv via) && s.fmCanArm
        && (match s.mgmt.fmOp with | .managedRemove _ _ _ => false | _ => true) then s.beginManaged via t b
    else unwaited.fmBackground via (fun p s => s.fmStageRow p t b 0))) s

/-- MANAGED_REMOVE_TIMEOUT: PowerOff has not read 1 in time; AttentionPending clears and the operation ends Aborted
(R358). Log entry 46 (DEDUCED). -/
def execManagedRemoveTimeout (s : State) : Res :=
  effect (fun s =>
    match s.mgmt.fmOp with
    | .managedRemove t b until' =>
      if s.powerOff t b || s.beat < until' then s
      else
        let s := s.setVppbBit t b 44 false
        { s with mgmt := { s.mgmt with fmOp := .aborted } }
    | _ => s) s

/-! ## Logical devices of a VMD pool (R359, R360) -/

/-- Get LD Info: the free memory of the pool target in bytes, and the number of logical devices. -/
def State.fmLdInfo (s : State) (via : FmVia) : State :=
  let target := s.r K.fmApiPoolTarget
  if target = 0xFFFF then s.fmAnswer via .unsupported []
  else s.fmAnswer via .success (toBytes 8 (s.freeCount (target % 4096) (s.r K.fmApiPoolLd) * extentBytes) ++ toBytes 2 16)

/-- GET_LD_INFO (R359, Table 19-9). -/
def execGetLdInfo (via : FmVia) (_tenant : TenantId) (s : State) : Res :=
  effect (fun s => s.fmServe via false (fun s => s.fmLdInfo via)) s

/-- The granularity of an allocation: 256 MiB. -/
def fmGranularity : Nat := 2 ^ 28

/-- Get LD Allocations: the granularity, then the capacity of each VMD of the tenant. -/
def State.fmLdAllocations (s : State) (via : FmVia) (t : Nat) : State :=
  s.fmAnswer via .success (toBytes 8 fmGranularity ++ (upTo 16).flatMap (fun n => toBytes 8 (s.r (K.vmdCapacity (16 * t + n)))))

/-- GET_LD_ALLOCATIONS (Table 19-9). -/
def execGetLdAllocations (via : FmVia) (tenant : TenantId) (s : State) : Res :=
  effect (fun s => s.fmServe via false (fun s => s.fmLdAllocations via tenant.val)) s

/-- The argument block of the VmdCreate that an allocation stages: ZeroFill, QueueShare 1,024 and one PRIVATE window (R360). -/
def State.fmCreateArgs (s : State) (v size : Nat) : List Byte :=
  toBytes 2 v ++ [1, 1] ++ toBytes 4 1024
    ++ [1, s.r K.fmApiPoolLd] ++ toBytes 2 (s.r K.fmApiPoolTarget) ++ toBytes 4 (size / extentBytes) ++ toBytes 24 0

/-- One logical device of Set LD Allocations (R360). Log entry 44 (DEDUCED). -/
def State.fmAllocate (s : State) (v size : Nat) : Except RetCode State :=
  if size = 0 then
    if s.vmdState v = .bound then .error .invalidInput
    else
      match (s.vmdDestroyChecks (toBytes 2 v)).resource with
      | some code => .error (fmCode code)
      | none => .ok { s with stagedActs := s.stagedActs ++ [.vmdDestroy v] }
  else if size % fmGranularity ≠ 0 then .error .invalidInput
  else if s.vmdState v = .absent then
    let args := s.fmCreateArgs v size
    match (s.vmdCreateChecks args).resource <|> (s.vmdCreateChecks args).range with
    | some code => .error (fmCode code)
    | none => .ok (s.stageVmd args)
  else if size = s.r (K.vmdCapacity v) then .ok s
  else .error .invalidInput

/-- The logical devices of a request from v on, one after the other; the first refusal ends it. -/
def State.fmAllocateAll (s : State) (v : Nat) (sizes : List Nat) : Except RetCode State :=
  match sizes with
  | [] => .ok s
  | x :: rest =>
    match s.fmAllocate v x with
    | .error code => .error code
    | .ok t => t.fmAllocateAll (v + 1) rest

/-- Set LD Allocations of a tenant from a logical device on (R360). -/
def State.fmSetAllocations (s : State) (via : FmVia) (t start : Nat) (sizes : List Nat) : State :=
  s.fmBackground via (fun _ s =>
    if s.r K.fmApiPoolTarget = 0xFFFF then .error .unsupported
    else if 16 < start + sizes.length then .error .invalidInput
    else s.fmAllocateAll (16 * t + start) sizes)

/-- SET_LD_ALLOCATIONS (R360). -/
def execSetLdAllocations (via : FmVia) (tenant : TenantId) (start : Fin 16) (sizes : List Nat) (s : State) : Res :=
  effect (fun s => s.fmServe via false (fun s => s.fmSetAllocations via tenant.val start.val sizes)) s

/-- A tunnelled command for the VMD pool of a tenant, which answers 0x5400 to 0x5402 only (R359). The payload of
0x5402 is the number of logical devices, the first one, two bytes not used, and an allocation of 8 bytes for each. Log
entry 45 (PRESUMED). -/
def State.fmPool (s : State) (via : FmVia) (t opcode : Nat) (payload : List Byte) : State :=
  if opcode = 0x5400 then s.fmLdInfo via
  else if opcode = 0x5401 then s.fmLdAllocations via t
  else if opcode = 0x5402 then
    (if payload.length ≠ 4 + 8 * payload.headD 0 then s.fmAnswer via .invalidInput []
     else s.fmSetAllocations via t (payload.getD 1 0) ((pieces 8 (payload.headD 0) (payload.drop 4)).map ofBytes))
  else s.fmAnswer via .unsupported []

/-- TUNNEL_MANAGEMENT_COMMAND: a VMD pool, a local memory device, a remote switch by proxy, or Invalid Input (R39,
R359). Log entry 47 (DESIGN CHOICE). -/
def execTunnelManagementCommand (via : FmVia) (target opcode : Nat) (payload : List Byte) (s : State) : Res :=
  effect (fun s => s.fmServe via false (fun s =>
    if 0x80 ≤ target && target < 0xC0 then s.fmPool via (target - 0x80) opcode payload
    else if target < 96 && s.portExists target && s.isDevice target then s.emit (.fmRelay target opcode payload)
    else
      match s.otherOwner target with
      | none => s.fmAnswer via .invalidInput []
      | some o =>
        let n := s.mgmt.nextProxy
        let q : ProxyReq := { number := n, session := 0, op := 0, index := 0, sub := 0, echo := 0, fm := some via, since := s.clock }
        let s := { s with mgmt := { s.mgmt with proxies := s.mgmt.proxies ++ [q], nextProxy := n + 1 } }
        s.sendTowards o.identity (fun p => .fmCarry p n target (s.fmPriv via) opcode payload))) s

/-- FM_API_OTHER_COMMAND: Unsupported (R357). -/
def execFmApiOtherCommand (via : FmVia) (_opcode : Nat) (s : State) : Res :=
  effect (fun s => s.fmServe via false (fun s => s.fmAnswer via .unsupported [])) s

end Sys2Proof.Machine
end

