-- ==== Sys2Proof/Machine/Server.lean ====
section
/-! DEFINITION. The dictionary server as a whole (02): any JDP message, taken to the operation, object or command that it
names. A message with the proxy flag reaches it over PROXY_REQUEST, and so does every message whose operation has no
command of its own, such as a plain READ. -/

namespace Sys2Proof.Machine

/-- READ (R33, R35, R37). -/
def State.serveRead (s : State) (e : JdpEnv) (i sub : Nat) : State :=
  s.serve e opRead i sub (fun _ s =>
    match s.readPlain e i sub with
    | .error code => .error code
    | .ok data => .ok (s, data))

/-- COMMAND to sub-index 0x02 of a command object runs that command; any other COMMAND triggers nothing (R26). -/
def runCommand (env : JdpEnv) (i sub : Nat) (s : State) : Res :=
  match if sub = 0x02 then i else 0 with
  | 0x1004 => execStateRequestStart env s
  | 0x1110 => execCredentialInstall env s
  | 0x1183 => execClearLatches env s
  | 0x1200 => execStore env s
  | 0x1201 => execRestore env s
  | 0x1300 => execCheckCompute env s
  | 0x1301 => execCheckBytes env s
  | 0x1402 => execBeatReacquire env s
  | 0x1420 => execCommitArm env s
  | 0x1421 => execStagedDiscard env s
  | 0x1422 => execCommitCancel env s
  | 0x2560 => execIdeKeyRefresh env s
  | 0x3040 => execTenantReset env s
  | 0x3041 => execAttentionPress env s
  | 0x3500 => execVmdCreate env s
  | 0x3501 => execVmdDestroy env s
  | 0x3805 => execEntryRunWrite env s
  | 0x3806 => execEntryReplace env s
  | 0x4010 => execRegionCreate env s
  | 0x4011 => execRegionDestroy env s
  | 0x4012 => execRegionRecall env s
  | 0x4820 => execJobCreate env s
  | 0x4821 => execJobCancel env s
  | 0x5020 => execRemotePidAssign env s
  | 0x5041 => execRouteProbe env s
  | 0x7004 => execSnapshotArm env s
  | 0x7005 => execShadowRelease env s
  | 0x7F03 => execRepairListClear env s
  | 0x7F12 => execImageCheck env s
  | 0x7F13 => execFirmwareActivate env s
  | _ => effectOf env (fun s => s.serve env opCommand i sub (fun p _ => .error (commandRefusal p i sub))) s

/-- PROXY_REQUEST: a message whose proxy flag names another switch is forwarded to the owner of the target, or refused;
any other is served here by its operation (R28, R33, R39). Log entry 11 (DEDUCED). -/
def execProxyRequest (env : JdpEnv) (operation index sub : Nat) (s : State) : Res :=
  let i := index % 65536
  let b := sub % 256
  match operation % 256 with
  | 0x01 => effectOf env (fun s => s.serveRead env i b) s
  | 0x02 => execRegisterWrite env i b s
  | 0x03 => execReadBlock env i b s
  | 0x04 => execWriteBlock env i b s
  | 0x05 => runCommand env i b s
  | 0x06 => execSubscribe env s
  | 0x10 => execHello env s
  | 0x12 => execProof env s
  | 0x14 => execClose env s
  | op => effectOf env (fun s => s.serve env op i b (fun _ _ => .error 0x0101)) s

end Sys2Proof.Machine
end

