-- ==== Sys2Proof/Machine/Dispatch.lean ====
section
/-! DEFINITION. What each command does: one arm per row of spec/opcode_table.json. -/

namespace Sys2Proof.Machine

/-- The effect of a command on everything but the queue. -/
def exec (i : Instr) (s : State) : Host.Outcome State Fault Refusal :=
  match i with
  | .pwronRstNAssert => Sys2Proof.Machine.execPwronRstNAssert s
  | .pwronRstNRelease powerOn => Sys2Proof.Machine.execPwronRstNRelease powerOn s
  | .fuseLoadComplete corrected uncorrectable => Sys2Proof.Machine.execFuseLoadComplete corrected uncorrectable s
  | .logicBistComplete failed => Sys2Proof.Machine.execLogicBistComplete failed s
  | .memoryBistComplete found => Sys2Proof.Machine.execMemoryBistComplete found s
  | .fwLoadComplete => Sys2Proof.Machine.execFwLoadComplete s
  | .fwInitComplete => Sys2Proof.Machine.execFwInitComplete s
  | .restorePhaseComplete => Sys2Proof.Machine.execRestorePhaseComplete s
  | .avsAcknowledge => Sys2Proof.Machine.execAvsAcknowledge s
  | .avsTimeout => Sys2Proof.Machine.execAvsTimeout s
  | .supplyOutOfRange rails => Sys2Proof.Machine.execSupplyOutOfRange rails s
  | .temperatureReading temps => Sys2Proof.Machine.execTemperatureReading temps s
  | .stateRequestStart env => Sys2Proof.Machine.execStateRequestStart env s
  | .stateRequestStop env => Sys2Proof.Machine.execStateRequestStop env s
  | .stateRequestReset env => Sys2Proof.Machine.execStateRequestReset env s
  | .registerWrite env index sub => Sys2Proof.Machine.execRegisterWrite env index sub s
  | .readBlock env index sub => Sys2Proof.Machine.execReadBlock env index sub s
  | .writeBlock env index sub => Sys2Proof.Machine.execWriteBlock env index sub s
  | .blockIdleTimeout session => Sys2Proof.Machine.execBlockIdleTimeout session s
  | .hello env => Sys2Proof.Machine.execHello env s
  | .proof env => Sys2Proof.Machine.execProof env s
  | .challengeTimeout session => Sys2Proof.Machine.execChallengeTimeout session s
  | .close env => Sys2Proof.Machine.execClose env s
  | .sessionIdleTimeout session => Sys2Proof.Machine.execSessionIdleTimeout session s
  | .subscribe env => Sys2Proof.Machine.execSubscribe env s
  | .proxyRequest env operation index sub => Sys2Proof.Machine.execProxyRequest env operation index sub s
  | .proxyAnswer request abort payload => Sys2Proof.Machine.execProxyAnswer request abort payload s
  | .proxyTimeout request => Sys2Proof.Machine.execProxyTimeout request s
  | .credentialInstall env => Sys2Proof.Machine.execCredentialInstall env s
  | .store env => Sys2Proof.Machine.execStore env s
  | .storeComplete badWords repeatBad => Sys2Proof.Machine.execStoreComplete badWords repeatBad s
  | .restore env => Sys2Proof.Machine.execRestore env s
  | .checkCompute env => Sys2Proof.Machine.execCheckCompute env s
  | .checkComputeComplete data poisoned => Sys2Proof.Machine.execCheckComputeComplete data poisoned s
  | .checkBytes env => Sys2Proof.Machine.execCheckBytes env s
  | .identify via => Sys2Proof.Machine.execIdentify via s
  | .backgroundOperationStatus via => Sys2Proof.Machine.execBackgroundOperationStatus via s
  | .getResponseMessageLimit via => Sys2Proof.Machine.execGetResponseMessageLimit via s
  | .setResponseMessageLimit via limit => Sys2Proof.Machine.execSetResponseMessageLimit via limit s
  | .identifySwitchDevice via => Sys2Proof.Machine.execIdentifySwitchDevice via s
  | .getPhysicalPortState via ports => Sys2Proof.Machine.execGetPhysicalPortState via ports s
  | .physicalPortControl via port opcode => Sys2Proof.Machine.execPhysicalPortControl via port opcode s
  | .sendPpbCxlIoConfigurationRequest via port routingId register write data => Sys2Proof.Machine.execSendPpbCxlIoConfigurationRequest via port routingId register write data s
  | .getVirtualCxlSwitchInfo via tenant => Sys2Proof.Machine.execGetVirtualCxlSwitchInfo via tenant s
  | .bindVppb via tenant vppb port ld => Sys2Proof.Machine.execBindVppb via tenant vppb port ld s
  | .unbindVppb via tenant vppb option => Sys2Proof.Machine.execUnbindVppb via tenant vppb option s
  | .managedRemoveTimeout => Sys2Proof.Machine.execManagedRemoveTimeout s
  | .tunnelManagementCommand via target opcode payload => Sys2Proof.Machine.execTunnelManagementCommand via target opcode payload s
  | .getLdInfo via tenant => Sys2Proof.Machine.execGetLdInfo via tenant s
  | .getLdAllocations via tenant => Sys2Proof.Machine.execGetLdAllocations via tenant s
  | .setLdAllocations via tenant start sizes => Sys2Proof.Machine.execSetLdAllocations via tenant start sizes s
  | .fmApiOtherCommand via opcode => Sys2Proof.Machine.execFmApiOtherCommand via opcode s
  | .beatPulseEdge input error phase => Sys2Proof.Machine.execBeatPulseEdge input error phase s
  | .beatFrame input frame => Sys2Proof.Machine.execBeatFrame input frame s
  | .linkBeat port number offset arrival early => Sys2Proof.Machine.execLinkBeat port number offset arrival early s
  | .linkDelayMeasurement port roundTrip => Sys2Proof.Machine.execLinkDelayMeasurement port roundTrip s
  | .sourceJudgement => Sys2Proof.Machine.execSourceJudgement s
  | .holdoverLimitReached => Sys2Proof.Machine.execHoldoverLimitReached s
  | .beatBoundary => Sys2Proof.Machine.execBeatBoundary s
  | .armingCutoff => Sys2Proof.Machine.execArmingCutoff s
  | .applyPreparation => Sys2Proof.Machine.execApplyPreparation s
  | .commitArm env => Sys2Proof.Machine.execCommitArm env s
  | .stagedDiscard env => Sys2Proof.Machine.execStagedDiscard env s
  | .commitCancel env => Sys2Proof.Machine.execCommitCancel env s
  | .commitCancelReceive port tag target => Sys2Proof.Machine.execCommitCancelReceive port tag target s
  | .beatReacquire env => Sys2Proof.Machine.execBeatReacquire env s
  | .beatReacquireAdopt src => Sys2Proof.Machine.execBeatReacquireAdopt src s
  | .meshPacketReceive unit packet good => Sys2Proof.Machine.execMeshPacketReceive unit packet good s
  | .meshAgeTick router packet => Sys2Proof.Machine.execMeshAgeTick router packet s
  | .lossOfSignal lane => Sys2Proof.Machine.execLossOfSignal lane s
  | .lossOfSignalDeassert lane => Sys2Proof.Machine.execLossOfSignalDeassert lane s
  | .lossOfLock lane => Sys2Proof.Machine.execLossOfLock lane s
  | .eyeScanComplete lane marginH marginV => Sys2Proof.Machine.execEyeScanComplete lane marginH marginV s
  | .portLockLost port => Sys2Proof.Machine.execPortLockLost port s
  | .portLockRegained port => Sys2Proof.Machine.execPortLockRegained port s
  | .lockLossHoldExpiry port => Sys2Proof.Machine.execLockLossHoldExpiry port s
  | .partnerRecovery port => Sys2Proof.Machine.execPartnerRecovery port s
  | .trainingReachesL0 port rate width partnerFlit partnerLopt polarity partnerCount partnerLast partnerRetired => Sys2Proof.Machine.execTrainingReachesL0 port rate width partnerFlit partnerLopt polarity partnerCount partnerLast partnerRetired s
  | .trainingAttemptFailure port => Sys2Proof.Machine.execTrainingAttemptFailure port s
  | .detectNoReceiver port => Sys2Proof.Machine.execDetectNoReceiver port s
  | .hotReset port => Sys2Proof.Machine.execHotReset port s
  | .weuriMarkerTransmit port => Sys2Proof.Machine.execWeuriMarkerTransmit port s
  | .weuriMarkerReceive port copies => Sys2Proof.Machine.execWeuriMarkerReceive port copies s
  | .laneParkExitReady port => Sys2Proof.Machine.execLaneParkExitReady port s
  | .ideKeyRefresh env => Sys2Proof.Machine.execIdeKeyRefresh env s
  | .ideMacFailure port => Sys2Proof.Machine.execIdeMacFailure port s
  | .flitReceive port sequence crcGood payload corrected => Sys2Proof.Machine.execFlitReceive port sequence crcGood payload corrected s
  | .ackReceive port sequence => Sys2Proof.Machine.execAckReceive port sequence s
  | .nakReceive port sequence => Sys2Proof.Machine.execNakReceive port sequence s
  | .replayTimerExpiry port => Sys2Proof.Machine.execReplayTimerExpiry port s
  | .creditUpdateReceive port chan headers datas => Sys2Proof.Machine.execCreditUpdateReceive port chan headers datas s
  | .creditUpdateRepeat port => Sys2Proof.Machine.execCreditUpdateRepeat port s
  | .creditTimeout port chan => Sys2Proof.Machine.execCreditTimeout port chan s
  | .memRequestIngress port req => Sys2Proof.Machine.execMemRequestIngress port req s
  | .tlpIngress port req => Sys2Proof.Machine.execTlpIngress port req s
  | .ingressStagingEntry port chan => Sys2Proof.Machine.execIngressStagingEntry port chan s
  | .stageOneSend input slot => Sys2Proof.Machine.execStageOneSend input slot s
  | .poolCellArrival middle => Sys2Proof.Machine.execPoolCellArrival middle s
  | .stageTwoRead middle slot => Sys2Proof.Machine.execStageTwoRead middle slot s
  | .internalDestinationTake dest middle headerGood payloadGood => Sys2Proof.Machine.execInternalDestinationTake dest middle headerGood payloadGood s
  | .resequencingArrival output => Sys2Proof.Machine.execResequencingArrival output s
  | .cellRelease output headerGood payloadGood => Sys2Proof.Machine.execCellRelease output headerGood payloadGood s
  | .deliveredCellFree middle => Sys2Proof.Machine.execDeliveredCellFree middle s
  | .auditSegment middle unlinked => Sys2Proof.Machine.execAuditSegment middle unlinked s
  | .auditSegmentAbandon middle => Sys2Proof.Machine.execAuditSegmentAbandon middle s
  | .egressTransmitDecision port => Sys2Proof.Machine.execEgressTransmitDecision port s
  | .queueSample port => Sys2Proof.Machine.execQueueSample port s
  | .tenantReset env => Sys2Proof.Machine.execTenantReset env s
  | .directorySweepComplete home tenant => Sys2Proof.Machine.execDirectorySweepComplete home tenant s
  | .tenantCleanupEnd tenant => Sys2Proof.Machine.execTenantCleanupEnd tenant s
  | .completionReceive port dtag data poisoned good => Sys2Proof.Machine.execCompletionReceive port dtag data poisoned good s
  | .vmdCreate env => Sys2Proof.Machine.execVmdCreate env s
  | .vmdDestroy env => Sys2Proof.Machine.execVmdDestroy env s
  | .vmdDrainComplete vmd => Sys2Proof.Machine.execVmdDrainComplete vmd s
  | .emulatedPowerControlWrite tenant vppb off => Sys2Proof.Machine.execEmulatedPowerControlWrite tenant vppb off s
  | .emulatedAttentionAcknowledge tenant vppb => Sys2Proof.Machine.execEmulatedAttentionAcknowledge tenant vppb s
  | .attentionPress env => Sys2Proof.Machine.execAttentionPress env s
  | .hdmDecoderCommit vmd decoder => Sys2Proof.Machine.execHdmDecoderCommit vmd decoder s
  | .entryTableWrite env => Sys2Proof.Machine.execEntryTableWrite env s
  | .descriptorTableWrite env => Sys2Proof.Machine.execDescriptorTableWrite env s
  | .regionRunTableWrite env => Sys2Proof.Machine.execRegionRunTableWrite env s
  | .deviceInventoryWrite env => Sys2Proof.Machine.execDeviceInventoryWrite env s
  | .entryRunWrite env => Sys2Proof.Machine.execEntryRunWrite env s
  | .entryRunWriteComplete => Sys2Proof.Machine.execEntryRunWriteComplete s
  | .entryReplace env => Sys2Proof.Machine.execEntryReplace env s
  | .rowSettled region row => Sys2Proof.Machine.execRowSettled region row s
  | .backgroundWrite bank => Sys2Proof.Machine.execBackgroundWrite bank s
  | .extentCacheRefill slice entry eccUncorrectable eccCorrected waitNs => Sys2Proof.Machine.execExtentCacheRefill slice entry eccUncorrectable eccCorrected waitNs s
  | .poisonScrubComplete => Sys2Proof.Machine.execPoisonScrubComplete s
  | .homeAcquireArrival home => Sys2Proof.Machine.execHomeAcquireArrival home s
  | .homeAcquireStart home => Sys2Proof.Machine.execHomeAcquireStart home s
  | .homeRelease home => Sys2Proof.Machine.execHomeRelease home s
  | .biconflict port region line => Sys2Proof.Machine.execBiconflict port region line s
  | .birspArrival home region line tenant keeps => Sys2Proof.Machine.execBirspArrival home region line tenant keeps s
  | .homeMemoryCompletion home dtag data poisoned => Sys2Proof.Machine.execHomeMemoryCompletion home dtag data poisoned s
  | .snoopAge home region line tenant => Sys2Proof.Machine.execSnoopAge home region line tenant s
  | .directoryScrub home set way corrected uncorrectable => Sys2Proof.Machine.execDirectoryScrub home set way corrected uncorrectable s
  | .copyLockRequest engine line => Sys2Proof.Machine.execCopyLockRequest engine line s
  | .regionCreate env => Sys2Proof.Machine.execRegionCreate env s
  | .regionDestroy env => Sys2Proof.Machine.execRegionDestroy env s
  | .regionRecall env => Sys2Proof.Machine.execRegionRecall env s
  | .regionRecallComplete => Sys2Proof.Machine.execRegionRecallComplete s
  | .atomicEngineRequest => Sys2Proof.Machine.execAtomicEngineRequest s
  | .atomicWriteCompletion dtag => Sys2Proof.Machine.execAtomicWriteCompletion dtag s
  | .jobCreate env => Sys2Proof.Machine.execJobCreate env s
  | .jobCancel env => Sys2Proof.Machine.execJobCancel env s
  | .armSettled engine => Sys2Proof.Machine.execArmSettled engine s
  | .chunkStart engine => Sys2Proof.Machine.execChunkStart engine s
  | .copyLineReadback engine line data poisoned => Sys2Proof.Machine.execCopyLineReadback engine line data poisoned s
  | .dualWrite engine => Sys2Proof.Machine.execDualWrite engine s
  | .dualWriteCompletion engine line legA legB => Sys2Proof.Machine.execDualWriteCompletion engine line legA legB s
  | .commitSettled job => Sys2Proof.Machine.execCommitSettled job s
  | .fabricHelloReceive port hello => Sys2Proof.Machine.execFabricHelloReceive port hello s
  | .foreignNeighbour port => Sys2Proof.Machine.execForeignNeighbour port s
  | .helloLoss port => Sys2Proof.Machine.execHelloLoss port s
  | .lsrReceive port lsr => Sys2Proof.Machine.execLsrReceive port lsr s
  | .lsrRefresh => Sys2Proof.Machine.execLsrRefresh s
  | .lsrExpiry identity => Sys2Proof.Machine.execLsrExpiry identity s
  | .remotePidAssign env => Sys2Proof.Machine.execRemotePidAssign env s
  | .remotePidAssignDelivery pid => Sys2Proof.Machine.execRemotePidAssignDelivery pid s
  | .remotePidAssignConfirm admitted => Sys2Proof.Machine.execRemotePidAssignConfirm admitted s
  | .remotePidAssignTimeout => Sys2Proof.Machine.execRemotePidAssignTimeout s
  | .routeProbe env => Sys2Proof.Machine.execRouteProbe env s
  | .fabricForward port arrivedDown msg => Sys2Proof.Machine.execFabricForward port arrivedDown msg s
  | .acuSettled unit => Sys2Proof.Machine.execAcuSettled unit s
  | .swapWrite env unit => Sys2Proof.Machine.execSwapWrite env unit s
  | .onyxSweep => Sys2Proof.Machine.execOnyxSweep s
  | .notificationDeadline => Sys2Proof.Machine.execNotificationDeadline s
  | .force env source => Sys2Proof.Machine.execForce env source s
  | .forceDry env source => Sys2Proof.Machine.execForceDry env source s
  | .latchClear env source => Sys2Proof.Machine.execLatchClear env source s
  | .occurrencesClear env source => Sys2Proof.Machine.execOccurrencesClear env source s
  | .clearLatches env => Sys2Proof.Machine.execClearLatches env s
  | .counterWindowRead env => Sys2Proof.Machine.execCounterWindowRead env s
  | .snapshotArm env => Sys2Proof.Machine.execSnapshotArm env s
  | .shadowRelease env => Sys2Proof.Machine.execShadowRelease env s
  | .sampleRecordComplete record toEgress toCompletion outcome => Sys2Proof.Machine.execSampleRecordComplete record toEgress toCompletion outcome s
  | .sampleTailWrite env => Sys2Proof.Machine.execSampleTailWrite env s
  | .readCounters tenant shadow => Sys2Proof.Machine.execReadCounters tenant shadow s
  | .readSamples tenant start => Sys2Proof.Machine.execReadSamples tenant start s
  | .presenceChange slot long short => Sys2Proof.Machine.execPresenceChange slot long short s
  | .presenceSeated slot => Sys2Proof.Machine.execPresenceSeated slot s
  | .attemptStart slot => Sys2Proof.Machine.execAttemptStart slot s
  | .slotSample slot m => Sys2Proof.Machine.execSlotSample slot m s
  | .prechargeComplete slot => Sys2Proof.Machine.execPrechargeComplete slot s
  | .pcgTurnOff slot => Sys2Proof.Machine.execPcgTurnOff slot s
  | .prechargeTimeout slot => Sys2Proof.Machine.execPrechargeTimeout slot s
  | .rampComplete slot => Sys2Proof.Machine.execRampComplete slot s
  | .rampTimeout slot => Sys2Proof.Machine.execRampTimeout slot s
  | .faultTimerExpiry slot => Sys2Proof.Machine.execFaultTimerExpiry slot s
  | .fastTrip slot => Sys2Proof.Machine.execFastTrip slot s
  | .retryOffTimeElapsed slot => Sys2Proof.Machine.execRetryOffTimeElapsed slot s
  | .retriesUsedReset slot => Sys2Proof.Machine.execRetriesUsedReset slot s
  | .gateStuck slot => Sys2Proof.Machine.execGateStuck slot s
  | .shortedPassTransistor slot => Sys2Proof.Machine.execShortedPassTransistor slot s
  | .reverseCurrent slot feed => Sys2Proof.Machine.execReverseCurrent slot feed s
  | .feedRecovery slot feed => Sys2Proof.Machine.execFeedRecovery slot feed s
  | .inputLow slot => Sys2Proof.Machine.execInputLow slot s
  | .inputRestored slot => Sys2Proof.Machine.execInputRestored slot s
  | .powerRequestOn env slot => Sys2Proof.Machine.execPowerRequestOn env slot s
  | .powerRequestOff env slot => Sys2Proof.Machine.execPowerRequestOff env slot s
  | .presenceLostTurnOff slot => Sys2Proof.Machine.execPresenceLostTurnOff slot s
  | .slotPortTrainingStart slot => Sys2Proof.Machine.execSlotPortTrainingStart slot s
  | .flashSlotWrite env slotB => Sys2Proof.Machine.execFlashSlotWrite env slotB s
  | .imageCheck env => Sys2Proof.Machine.execImageCheck env s
  | .firmwareActivate env => Sys2Proof.Machine.execFirmwareActivate env s
  | .firmwareActivationEnd => Sys2Proof.Machine.execFirmwareActivationEnd s
  | .repairListClear env => Sys2Proof.Machine.execRepairListClear env s
  | .domainDrainEnd group => Sys2Proof.Machine.execDomainDrainEnd group s
  | .domainDrainTimeout group => Sys2Proof.Machine.execDomainDrainTimeout group s
  | .domainPowerOff group => Sys2Proof.Machine.execDomainPowerOff group s
  | .domainPowerUpEnd group found => Sys2Proof.Machine.execDomainPowerUpEnd group found s
  | .restoreComplete => Sys2Proof.Machine.execRestoreComplete s
  | .copyReadCompletion engine line data poisoned => Sys2Proof.Machine.execCopyReadCompletion engine line data poisoned s
  | .copyWriteCompletion engine line => Sys2Proof.Machine.execCopyWriteCompletion engine line s
  | .atomicReadCompletion dtag data poisoned => Sys2Proof.Machine.execAtomicReadCompletion dtag data poisoned s
  | .debugPortAccess space write target ld addr data => Sys2Proof.Machine.execDebugPortAccess space write target ld addr data s
  | .clearEventRecords vmd handles => Sys2Proof.Machine.execClearEventRecords vmd handles s
  | .ideKmRequest tenant port => Sys2Proof.Machine.execIdeKmRequest tenant port s

end Sys2Proof.Machine
end

