-- ==== Sys2Proof/Machine/Step.lean ====
section
/-! DEFINITION. One step: the command at the front of the queue, or one tick of an idle block. -/

namespace Sys2Proof.Machine

/-- What an idle block does: while the beats run, one tick passes, up to the last of the beat. Log entry 1 (DESIGN
CHOICE). -/
def State.idle (s : State) : State := if s.beatsRun && decide (s.tick < 1023) then { s with tick := s.tick + 1, clock := s.clock + 1 } else s

/-- The command at the front runs with the queue's rest; on an empty queue the block idles. Log entries 1 (DESIGN
CHOICE), 2 (DESIGN CHOICE). -/
def step (s : State) : Host.Outcome State Fault Refusal :=
  match s.pending with
  | [] => .next s.idle
  | c :: rest => exec c { s with pending := rest }

/-- The state with the command that a word spells put at the front of the queue; no word spells one. -/
def State.withFetchWord (s : State) (nbits w : Nat) : State :=
  match decodeTableWord nbits w with
  | some c => { s with pending := c :: s.pending }
  | none => s

end Sys2Proof.Machine
end

