-- ==== Sys2Proof/WellFormed.lean ====
section
/-! DEFINITION. Well-formed commands: every field of a command fits the width that the spec gives it on the wire. -/

namespace Sys2Proof

/-- Every item is a byte. -/
def bytesOk (l : List Byte) : Bool := l.all (fun b => decide (b < 256))

/-- The fields of a message fit their places in Table 2-7. -/
def JdpEnv.wf (e : JdpEnv) : Bool :=
  decide (e.version < 256) && decide (e.flags < 256) && decide (e.alive < 256) && decide (e.session < 2 ^ 32)
    && decide (e.segment < 65536) && decide (e.length < 65536) && decide (e.proxyTarget < 65536)
    && decide (e.row < 2 ^ 32) && bytesOk e.payload && decide (e.tag < 2 ^ 128) && decide (e.crc < 2 ^ 32)
    && decide (e.echo < 256) && decide (e.abort < 65536)

/-- The fields of a hello fit their widths (R230). -/
def Hello.wf (h : Hello) : Bool := decide (h.identity < 2 ^ 64) && decide (h.switchPid < 4096) && decide (h.port < 96)

/-- The fields of a link-state record fit their widths (R233). -/
def Lsr.wf (l : Lsr) : Bool :=
  decide (l.identity < 2 ^ 64) && decide (l.switchPid < 65536) && decide (l.links.length ≤ 96)
    && decide (l.sequence < 2 ^ 32) && decide (l.stamp < 2 ^ 48)

/-- A request's addresses fit 64 bits. -/
def MemReq.wf (r : MemReq) : Bool := decide (r.dpa < 2 ^ 64) && decide (r.hpa < 2 ^ 64)

/-- A TLP's length and routing fit their fields. -/
def TlpReq.wf (r : TlpReq) : Bool :=
  decide (r.addr < 2 ^ 64) && decide (r.routingId < 65536) && decide (r.register < 4096) && decide (r.bytes ≤ 4096)
    && decide (r.attrs < 4) && decide (r.addrType < 4)

/-- The message of a command that carries one. -/
def Instr.env (i : Instr) : Option JdpEnv :=
  match i with
  | .stateRequestStart e => some e
  | .stateRequestStop e => some e
  | .stateRequestReset e => some e
  | .registerWrite e _ _ => some e
  | .readBlock e _ _ => some e
  | .writeBlock e _ _ => some e
  | .hello e => some e
  | .proof e => some e
  | .close e => some e
  | .subscribe e => some e
  | .proxyRequest e _ _ _ => some e
  | .credentialInstall e => some e
  | .store e => some e
  | .restore e => some e
  | .checkCompute e => some e
  | .checkBytes e => some e
  | .commitArm e => some e
  | .stagedDiscard e => some e
  | .commitCancel e => some e
  | .beatReacquire e => some e
  | .ideKeyRefresh e => some e
  | .tenantReset e => some e
  | .vmdCreate e => some e
  | .vmdDestroy e => some e
  | .attentionPress e => some e
  | .entryTableWrite e => some e
  | .descriptorTableWrite e => some e
  | .regionRunTableWrite e => some e
  | .deviceInventoryWrite e => some e
  | .entryRunWrite e => some e
  | .entryReplace e => some e
  | .regionCreate e => some e
  | .regionDestroy e => some e
  | .regionRecall e => some e
  | .jobCreate e => some e
  | .jobCancel e => some e
  | .remotePidAssign e => some e
  | .routeProbe e => some e
  | .swapWrite e _ => some e
  | .force e _ => some e
  | .forceDry e _ => some e
  | .latchClear e _ => some e
  | .occurrencesClear e _ => some e
  | .clearLatches e => some e
  | .counterWindowRead e => some e
  | .snapshotArm e => some e
  | .shadowRelease e => some e
  | .sampleTailWrite e => some e
  | .powerRequestOn e _ => some e
  | .powerRequestOff e _ => some e
  | .flashSlotWrite e _ => some e
  | .imageCheck e => some e
  | .firmwareActivate e => some e
  | .repairListClear e => some e
  | .pwronRstNAssert | .pwronRstNRelease _ | .fuseLoadComplete _ _ | .logicBistComplete _
  | .memoryBistComplete _ | .fwLoadComplete | .fwInitComplete | .restorePhaseComplete | .avsAcknowledge
  | .avsTimeout | .supplyOutOfRange _ | .temperatureReading _ | .blockIdleTimeout _ | .challengeTimeout _
  | .sessionIdleTimeout _ | .proxyAnswer _ _ _ | .proxyTimeout _ | .storeComplete _ _
  | .checkComputeComplete _ _ | .identify _ | .backgroundOperationStatus _ | .getResponseMessageLimit _
  | .setResponseMessageLimit _ _ | .identifySwitchDevice _ | .getPhysicalPortState _ _
  | .physicalPortControl _ _ _ | .sendPpbCxlIoConfigurationRequest _ _ _ _ _ _ | .getVirtualCxlSwitchInfo _ _
  | .bindVppb _ _ _ _ _ | .unbindVppb _ _ _ _ | .managedRemoveTimeout | .tunnelManagementCommand _ _ _ _
  | .getLdInfo _ _ | .getLdAllocations _ _ | .setLdAllocations _ _ _ _ | .fmApiOtherCommand _ _
  | .beatPulseEdge _ _ _ | .beatFrame _ _ | .linkBeat _ _ _ _ _ | .linkDelayMeasurement _ _ | .sourceJudgement
  | .holdoverLimitReached | .beatBoundary | .armingCutoff | .applyPreparation | .commitCancelReceive _ _ _
  | .beatReacquireAdopt _ | .meshPacketReceive _ _ _ | .meshAgeTick _ _ | .lossOfSignal _
  | .lossOfSignalDeassert _ | .lossOfLock _ | .eyeScanComplete _ _ _ | .portLockLost _ | .portLockRegained _
  | .lockLossHoldExpiry _ | .partnerRecovery _ | .trainingReachesL0 _ _ _ _ _ _ _ _ _
  | .trainingAttemptFailure _ | .detectNoReceiver _ | .hotReset _ | .weuriMarkerTransmit _
  | .weuriMarkerReceive _ _ | .laneParkExitReady _ | .ideMacFailure _ | .flitReceive _ _ _ _ _ | .ackReceive _ _
  | .nakReceive _ _ | .replayTimerExpiry _ | .creditUpdateReceive _ _ _ _ | .creditUpdateRepeat _
  | .creditTimeout _ _ | .memRequestIngress _ _ | .tlpIngress _ _ | .ingressStagingEntry _ _ | .stageOneSend _ _
  | .poolCellArrival _ | .stageTwoRead _ _ | .internalDestinationTake _ _ _ _ | .resequencingArrival _
  | .cellRelease _ _ _ | .deliveredCellFree _ | .auditSegment _ _ | .auditSegmentAbandon _
  | .egressTransmitDecision _ | .queueSample _ | .directorySweepComplete _ _ | .tenantCleanupEnd _
  | .completionReceive _ _ _ _ _ | .vmdDrainComplete _ | .emulatedPowerControlWrite _ _ _
  | .emulatedAttentionAcknowledge _ _ | .hdmDecoderCommit _ _ | .entryRunWriteComplete | .rowSettled _ _
  | .backgroundWrite _ | .extentCacheRefill _ _ _ _ _ | .poisonScrubComplete | .homeAcquireArrival _
  | .homeAcquireStart _ | .homeRelease _ | .biconflict _ _ _ | .birspArrival _ _ _ _ _
  | .homeMemoryCompletion _ _ _ _ | .snoopAge _ _ _ _ | .directoryScrub _ _ _ _ _ | .copyLockRequest _ _
  | .regionRecallComplete | .atomicEngineRequest | .atomicWriteCompletion _ | .armSettled _ | .chunkStart _
  | .copyLineReadback _ _ _ _ | .dualWrite _ | .dualWriteCompletion _ _ _ _ | .commitSettled _
  | .fabricHelloReceive _ _ | .foreignNeighbour _ | .helloLoss _ | .lsrReceive _ _ | .lsrRefresh | .lsrExpiry _
  | .remotePidAssignDelivery _ | .remotePidAssignConfirm _ | .remotePidAssignTimeout | .fabricForward _ _ _
  | .acuSettled _ | .onyxSweep | .notificationDeadline | .sampleRecordComplete _ _ _ _ | .readCounters _ _
  | .readSamples _ _ | .presenceChange _ _ _ | .presenceSeated _ | .attemptStart _ | .slotSample _ _
  | .prechargeComplete _ | .pcgTurnOff _ | .prechargeTimeout _ | .rampComplete _ | .rampTimeout _
  | .faultTimerExpiry _ | .fastTrip _ | .retryOffTimeElapsed _ | .retriesUsedReset _ | .gateStuck _
  | .shortedPassTransistor _ | .reverseCurrent _ _ | .feedRecovery _ _ | .inputLow _ | .inputRestored _
  | .presenceLostTurnOff _ | .slotPortTrainingStart _ | .firmwareActivationEnd | .domainDrainEnd _
  | .domainDrainTimeout _ | .domainPowerOff _ | .domainPowerUpEnd _ _ | .restoreComplete
  | .copyReadCompletion _ _ _ _ | .copyWriteCompletion _ _ | .atomicReadCompletion _ _ _
  | .debugPortAccess _ _ _ _ _ _ | .clearEventRecords _ _ | .ideKmRequest _ _ => none

/-- A dictionary address fits its fields. -/
def addressOk (index sub : Nat) : Bool := decide (index < 65536) && decide (sub < 256)

/-- The operands that are not the message fit their widths. -/
def Instr.operandsOk (i : Instr) : Bool :=
  match i with
  | .registerWrite _ index sub => addressOk index sub
  | .readBlock _ index sub => addressOk index sub
  | .writeBlock _ index sub => addressOk index sub
  | .proxyRequest _ op index sub => decide (op < 256) && addressOk index sub
  | .proxyAnswer _ abort payload => decide (abort < 65536) && bytesOk payload.bytes
  | .checkComputeComplete data _ => bytesOk data
  | .setResponseMessageLimit _ limit => decide (limit < 256)
  | .tunnelManagementCommand _ target opcode payload =>
    decide (target < 65536) && decide (opcode < 65536) && bytesOk payload
  | .fmApiOtherCommand _ opcode => decide (opcode < 65536)
  | .linkBeat _ number offset _ _ => decide (number < 2 ^ 48) && decide (offset < 2 ^ 16)
  | .temperatureReading temps => decide (temps.length = 12)
  | .fabricHelloReceive _ h => h.wf
  | .lsrReceive _ l => l.wf
  | .memRequestIngress _ r => r.wf
  | .tlpIngress _ r => r.wf
  | .fabricForward _ _ m => decide (m.classByte < 256)
  | .pwronRstNAssert | .pwronRstNRelease _ | .fuseLoadComplete _ _ | .logicBistComplete _
  | .memoryBistComplete _ | .fwLoadComplete | .fwInitComplete | .restorePhaseComplete | .avsAcknowledge
  | .avsTimeout | .supplyOutOfRange _ | .stateRequestStart _ | .stateRequestStop _ | .stateRequestReset _
  | .blockIdleTimeout _ | .hello _ | .proof _ | .challengeTimeout _ | .close _ | .sessionIdleTimeout _
  | .subscribe _ | .proxyTimeout _ | .credentialInstall _ | .store _ | .storeComplete _ _ | .restore _
  | .checkCompute _ | .checkBytes _ | .identify _ | .backgroundOperationStatus _ | .getResponseMessageLimit _
  | .identifySwitchDevice _ | .getPhysicalPortState _ _ | .physicalPortControl _ _ _
  | .sendPpbCxlIoConfigurationRequest _ _ _ _ _ _ | .getVirtualCxlSwitchInfo _ _ | .bindVppb _ _ _ _ _
  | .unbindVppb _ _ _ _ | .managedRemoveTimeout | .getLdInfo _ _ | .getLdAllocations _ _
  | .setLdAllocations _ _ _ _ | .beatPulseEdge _ _ _ | .beatFrame _ _ | .linkDelayMeasurement _ _
  | .sourceJudgement | .holdoverLimitReached | .beatBoundary | .armingCutoff | .applyPreparation | .commitArm _
  | .stagedDiscard _ | .commitCancel _ | .commitCancelReceive _ _ _ | .beatReacquire _ | .beatReacquireAdopt _
  | .meshPacketReceive _ _ _ | .meshAgeTick _ _ | .lossOfSignal _ | .lossOfSignalDeassert _ | .lossOfLock _
  | .eyeScanComplete _ _ _ | .portLockLost _ | .portLockRegained _ | .lockLossHoldExpiry _ | .partnerRecovery _
  | .trainingReachesL0 _ _ _ _ _ _ _ _ _ | .trainingAttemptFailure _ | .detectNoReceiver _ | .hotReset _
  | .weuriMarkerTransmit _ | .weuriMarkerReceive _ _ | .laneParkExitReady _ | .ideKeyRefresh _
  | .ideMacFailure _ | .flitReceive _ _ _ _ _ | .ackReceive _ _ | .nakReceive _ _ | .replayTimerExpiry _
  | .creditUpdateReceive _ _ _ _ | .creditUpdateRepeat _ | .creditTimeout _ _ | .ingressStagingEntry _ _
  | .stageOneSend _ _ | .poolCellArrival _ | .stageTwoRead _ _ | .internalDestinationTake _ _ _ _
  | .resequencingArrival _ | .cellRelease _ _ _ | .deliveredCellFree _ | .auditSegment _ _
  | .auditSegmentAbandon _ | .egressTransmitDecision _ | .queueSample _ | .tenantReset _
  | .directorySweepComplete _ _ | .tenantCleanupEnd _ | .completionReceive _ _ _ _ _ | .vmdCreate _
  | .vmdDestroy _ | .vmdDrainComplete _ | .emulatedPowerControlWrite _ _ _ | .emulatedAttentionAcknowledge _ _
  | .attentionPress _ | .hdmDecoderCommit _ _ | .entryTableWrite _ | .descriptorTableWrite _
  | .regionRunTableWrite _ | .deviceInventoryWrite _ | .entryRunWrite _ | .entryRunWriteComplete
  | .entryReplace _ | .rowSettled _ _ | .backgroundWrite _ | .extentCacheRefill _ _ _ _ _ | .poisonScrubComplete
  | .homeAcquireArrival _ | .homeAcquireStart _ | .homeRelease _ | .biconflict _ _ _ | .birspArrival _ _ _ _ _
  | .homeMemoryCompletion _ _ _ _ | .snoopAge _ _ _ _ | .directoryScrub _ _ _ _ _ | .copyLockRequest _ _
  | .regionCreate _ | .regionDestroy _ | .regionRecall _ | .regionRecallComplete | .atomicEngineRequest
  | .atomicWriteCompletion _ | .jobCreate _ | .jobCancel _ | .armSettled _ | .chunkStart _
  | .copyLineReadback _ _ _ _ | .dualWrite _ | .dualWriteCompletion _ _ _ _ | .commitSettled _
  | .foreignNeighbour _ | .helloLoss _ | .lsrRefresh | .lsrExpiry _ | .remotePidAssign _
  | .remotePidAssignDelivery _ | .remotePidAssignConfirm _ | .remotePidAssignTimeout | .routeProbe _
  | .acuSettled _ | .swapWrite _ _ | .onyxSweep | .notificationDeadline | .force _ _ | .forceDry _ _
  | .latchClear _ _ | .occurrencesClear _ _ | .clearLatches _ | .counterWindowRead _ | .snapshotArm _
  | .shadowRelease _ | .sampleRecordComplete _ _ _ _ | .sampleTailWrite _ | .readCounters _ _ | .readSamples _ _
  | .presenceChange _ _ _ | .presenceSeated _ | .attemptStart _ | .slotSample _ _ | .prechargeComplete _
  | .pcgTurnOff _ | .prechargeTimeout _ | .rampComplete _ | .rampTimeout _ | .faultTimerExpiry _ | .fastTrip _
  | .retryOffTimeElapsed _ | .retriesUsedReset _ | .gateStuck _ | .shortedPassTransistor _ | .reverseCurrent _ _
  | .feedRecovery _ _ | .inputLow _ | .inputRestored _ | .powerRequestOn _ _ | .powerRequestOff _ _
  | .presenceLostTurnOff _ | .slotPortTrainingStart _ | .flashSlotWrite _ _ | .imageCheck _
  | .firmwareActivate _ | .firmwareActivationEnd | .repairListClear _ | .domainDrainEnd _
  | .domainDrainTimeout _ | .domainPowerOff _ | .domainPowerUpEnd _ _ | .restoreComplete
  | .copyReadCompletion _ _ _ _ | .copyWriteCompletion _ _ | .atomicReadCompletion _ _ _
  | .debugPortAccess _ _ _ _ _ _ | .clearEventRecords _ _ | .ideKmRequest _ _ => true

/-- A well-formed command. Log entry 50 (DESIGN CHOICE). -/
def Instr.wf (i : Instr) : Bool :=
  (match i.env with | some e => e.wf | none => true) && i.operandsOk

end Sys2Proof
end

