-- ==== Sys2Proof/Safety.lean ====
section
/-! DEFINITION. What counts as a safe run: the beat time stays in the beat, every command that waits is well formed, and no
step stops. -/

namespace Sys2Proof.Machine

/-- The tick lies in the beat (R46), and every waiting command is well formed. -/
def State.ok (s : State) : Prop := s.tick < 1024 ∧ ∀ c ∈ s.pending, c.wf = true

/-- The step goes on. -/
def State.goesOn (s : State) : Prop := ∃ t, step s = .next t

/-- The parts of the state: the queue, Quartz's time, and one for every other field. -/
inductive Part where
  | queue | time | out | freeCtr | regs | staged | stagedActs | armed | commits | cmds | pins
  | store | flash | mgmt | quartz | onyx | startup | mesh | core | ports | atomic | tenants | vmds
  | regions | beryl | garnet | jasper | fabric | tel | slots
  deriving DecidableEq, Repr

/-- Two states hold the same in a part. -/
def Part.same (p : Part) (s t : State) : Prop :=
  match p with
  | .queue => t.pending = s.pending
  | .time => t.beat = s.beat ∧ t.tick = s.tick ∧ t.clock = s.clock
  | .out => t.out = s.out
  | .freeCtr => t.freeCtr = s.freeCtr
  | .regs => t.regs = s.regs
  | .staged => t.staged = s.staged
  | .stagedActs => t.stagedActs = s.stagedActs
  | .armed => t.armed = s.armed
  | .commits => t.commits = s.commits
  | .cmds => t.cmds = s.cmds
  | .pins => t.pins = s.pins
  | .store => t.store = s.store
  | .flash => t.flash = s.flash
  | .mgmt => t.mgmt = s.mgmt
  | .quartz => t.quartz = s.quartz
  | .onyx => t.onyx = s.onyx
  | .startup => t.startup = s.startup
  | .mesh => t.mesh = s.mesh
  | .core => t.core = s.core
  | .ports => t.ports = s.ports
  | .atomic => t.atomic = s.atomic
  | .tenants => t.tenants = s.tenants
  | .vmds => t.vmds = s.vmds
  | .regions => t.regions = s.regions
  | .beryl => t.beryl = s.beryl
  | .garnet => t.garnet = s.garnet
  | .jasper => t.jasper = s.jasper
  | .fabric => t.fabric = s.fabric
  | .tel => t.tel = s.tel
  | .slots => t.slots = s.slots

/-- t holds what s holds, but for the parts listed. -/
def SameBut (l : List Part) (s t : State) : Prop := ∀ p, p ∉ l → p.same s t

/-- t reads every object as s does, but for the keys listed. -/
def ReadsBut (l : List Nat) (s t : State) : Prop := ∀ k, k ∉ l → t.r k = s.r k

/-- No port holds a policed channel or has a credit timer running: no time waits to be counted (R284). -/
def State.timesStand (s : State) : Prop := ∀ p ∈ s.ports, p.2.policed = [] ∧ p.2.creditTimer = []

/-- Steps 1 to 5 of R28 accept the message with privilege p; u is the state in which it is handled. -/
def Heard (s : State) (e : JdpEnv) (op i b : Nat) (p : Priv) (u : State) : Prop :=
  bytesOk e.payload = true ∧ s.front e op i b = .ok (p, u)

/-- A COMMAND for index i is accepted in s (R26 to R28): u is the state in which it runs on its argument block. -/
def Triggered (s : State) (e : JdpEnv) (i : Nat) (checks : State → List Byte → CmdChecks) (args : List Byte) (u : State) :
    Prop :=
  ∃ p c, Heard s e opCommand i 0x02 p u ∧ Schema.cmd i = some c ∧ (u.cmd i).args = args
    ∧ u.triggerRefusal e p c (c.admits u.device) (checks u args) = none

/-- An object whose value has no effect of its own when it becomes live: it is simply written. -/
def plainObject (k : Nat) : Prop :=
  (objIndex k < 0x2400 ∨ 0x5000 ≤ objIndex k) ∧ ∀ (u : State) (v : Nat), u.applyValue k v = u.w k v

/-- A restore meets plain objects alone: every object that the newest valid generation saves, each once, and every persistent
object that differs from its default. -/
def State.restoresPlain (s : State) : Prop :=
  (∀ e ∈ s.regs, persistent e.1 = true → plainObject e.1) ∧
    ∀ g, s.newest = some g → (g.records.map (·.key)).Nodup ∧ ∀ r ∈ g.records, plainObject r.key

/-- What a restore gives an object: its value of the newest valid generation, or its default (R43). -/
def State.savedValue (s : State) (k : Nat) : Nat :=
  match s.newest with
  | some g => (Tbl.find (generationValues g) k).getD (defaultOf k)
  | none => defaultOf k

end Sys2Proof.Machine
end

