-- ==== Sys2Proof/Certificates/Slice0/Obligations.lean ====
section
/-! DEFINITION. The statements for the provers. -/

open Sys2Proof Sys2Proof.Machine

/-! ## The step and the queue -/

/-- The command at the front of the queue runs on the state with the queue's rest. -/
def Obligations.StepRunsTheFrontCommand : Prop :=
  ∀ (s : State) (c : Instr) (rest : List Instr), s.pending = c :: rest → step s = exec c { s with pending := rest }

/-- MODEL'S CHOICE (log entry 1): on an empty queue one tick passes while the beats run, up to the last of the beat, and the
model's clock counts it; nothing else changes. -/
def Obligations.IdleStepPassesOneTick : Prop :=
  ∀ s : State, s.pending = [] →
    (s.device ≠ .boot ∧ s.device ≠ .hold ∧ s.tick < 1023 → step s = .next { s with tick := s.tick + 1, clock := s.clock + 1 }) ∧
    (s.device = .boot ∨ s.device = .hold ∨ 1023 ≤ s.tick → step s = .next s)

/-- From every state whose tick lies in its beat and whose waiting commands are well formed, the block goes on to such a
state: no well-formed command stops it, and no command takes or adds a waiting one. -/
def Obligations.EveryStepGoesOnAndStaysInTheBeat : Prop :=
  ∀ s : State, s.ok → ∃ t, step s = .next t ∧ t.ok

/-- Reset has a tick in its beat and nothing waiting. -/
def Obligations.ResetIsInTheBeat : Prop := State.reset.ok

/-- Only the commands of the beat, the load of firmware and a reset, which a COMMAND to StateRequest may ask for, move Quartz's
time; no command touches the queue. -/
def Obligations.OnlyTheBeatMovesTime : Prop :=
  ∀ (c : Instr) (s t : State), exec c s = .next t →
    t.pending = s.pending ∧
    ((t.beat = s.beat ∧ t.tick = s.tick ∧ t.clock = s.clock) ∨ c = .pwronRstNAssert ∨ c = .fwLoadComplete ∨ c = .sourceJudgement ∨
      c = .beatBoundary ∨ c = .armingCutoff ∨ c = .applyPreparation ∨ c = .notificationDeadline ∨
      (∃ src, c = .beatReacquireAdopt src) ∨
      (∃ e, c = .stateRequestStart e ∨ c = .stateRequestStop e ∨ c = .stateRequestReset e ∨
        ∃ op i b, c = .proxyRequest e op i b ∧ op % 256 = 0x05 ∧ i % 65536 = 0x1004))

/-! ## Event sources and Onyx (14) -/

/-- FORCE, FORCE_DRY: a WRITE of 1 or 2 to `.04` of an assigned source, by OWNER, makes one occurrence, marked forced (and
dry), and changes nothing else. LATCH_CLEAR and OCCURRENCES_CLEAR write FALSE or 0 to their object. -/
def Obligations.SourceWritesForceAndClear : Prop :=
  (∀ (s u : State) (e : JdpEnv) (k : SourceId) (p : Priv), Heard s e opWrite (0x6000 + k.val) 0x04 p u →
    u.writeRefusal p (0x6000 + k.val) 0x04 = none → s.canOccur k.val = true →
    (Tbl.getD s.onyx.pend k.val []).length < 255 →
    (e.payload = [1] → ∃ t, exec (.force e k) s = .next t ∧
      Tbl.getD t.onyx.pend k.val [] = Tbl.getD s.onyx.pend k.val [] ++ [{ s.unitReport k.val with forced := true }] ∧
      SameBut [.mgmt, .out, .onyx] s t) ∧
    (e.payload = [2] → ∃ t, exec (.forceDry e k) s = .next t ∧
      Tbl.getD t.onyx.pend k.val [] = Tbl.getD s.onyx.pend k.val [] ++ [{ s.unitReport k.val with forced := true, dry := true }] ∧
      SameBut [.mgmt, .out, .onyx] s t)) ∧
  (∀ (s u : State) (e : JdpEnv) (k : SourceId) (p : Priv), Heard s e opWrite (0x6000 + k.val) 0x05 p u →
    u.writeRefusal p (0x6000 + k.val) 0x05 = none → (Src.info k.val).cls ≠ .unused → e.payload = [0] →
    ∃ t, exec (.latchClear e k) s = .next t ∧ t.r (K.sourceLatch k.val) = 0 ∧
      (∀ j, j ≠ K.sourceLatch k.val → t.r j = s.r j) ∧
      SameBut [.regs, .mgmt, .out] s t) ∧
  (∀ (s u : State) (e : JdpEnv) (k : SourceId) (p : Priv), Heard s e opWrite (0x6000 + k.val) 0x06 p u →
    u.writeRefusal p (0x6000 + k.val) 0x06 = none → (Src.info k.val).cls ≠ .unused → e.payload = [0] →
    ∃ t, exec (.occurrencesClear e k) s = .next t ∧ t.r (K.sourceOccurrences k.val) = 0 ∧
      (∀ j, j ≠ K.sourceOccurrences k.val → t.r j = s.r j) ∧
      SameBut [.regs, .mgmt, .out] s t)

/-- CLEAR_LATCHES clears Latch and Occurrences of every source of its range, and no other object. -/
def Obligations.ClearLatchesClearsTheRange : Prop :=
  ∀ (s u : State) (e : JdpEnv) (args : List Byte), Triggered s e 0x1183 (fun _ a => clearLatchesChecks a) args u →
    ∃ t, exec (.clearLatches e) s = .next t ∧ (t.cmd 0x1183).state = .done ∧
      (∀ k, fieldAt args 0 2 ≤ k → k ≤ fieldAt args 2 2 →
        t.r (K.sourceLatch k) = 0 ∧ t.r (K.sourceOccurrences k) = 0) ∧
      (∀ j, (∀ k, fieldAt args 0 2 ≤ k → k ≤ fieldAt args 2 2 → j ≠ K.sourceLatch k ∧ j ≠ K.sourceOccurrences k) →
        t.r j = s.r j)

/-- NOTIFICATION_DEADLINE: at tick 1,023 the entries that no NOTIFY has carried are discarded. -/
def Obligations.NotificationDeadlineDiscards : Prop :=
  ∀ s : State, s.beatsRun = true → ∃ t, exec .notificationDeadline s = .next t ∧ t.tick = 1023 ∧ t.beat = s.beat ∧
    (∀ x ∈ t.mgmt.sessions, x.unsent = [] ∧ x.late = 0) ∧ t.mgmt.sessions.length = s.mgmt.sessions.length

/-- ONYX_SWEEP: the only pending source, of class NOTE, is latched, counted up to 255 and dated; a FATAL one takes the
device from OPERATIONAL or PREOP to SAFE. -/
def Obligations.SweepTakesThePendingSource : Prop :=
  (∀ (s : State) (k : Nat) (rs : List Report), s.onyx.pend = [(k, rs)] → k < 4096 →
    (Src.info k).cls = .note →
    ∃ t, exec .onyxSweep s = .next t ∧ t.onyx.pend = [] ∧ t.r (K.sourceLatch k) = 1 ∧
      t.r (K.sourceOccurrences k) = min 255 (s.r (K.sourceOccurrences k) + rs.length) ∧
      t.r (K.sourceLastAt k) = beatVal s.beat s.tick) ∧
  (∀ (s : State) (k : Nat) (d : Report) (rs : List Report), s.device = .preop ∨ s.device = .operational →
    s.onyx.pend = [(k, d :: rs)] → (Src.info k).cls = .fatal → (∀ x ∈ d :: rs, x.dry = false) →
    ∃ t, exec .onyxSweep s = .next t ∧ t.device = .safe ∧ t.pins.lanesIdle = true)

/-! ## Access control (13) -/

/-- ACU_SETTLED: with no access of the previous epoch left, the unit is SETTLED; nothing else but the unit's source changes. -/
def Obligations.AcuSettlesAfterTheLastAccess : Prop :=
  ∀ (s : State) (n : AcuId), s.r (K.acuUnitState n.val) = 1 → s.r (K.acuInFlightPrevious n.val) = 0 →
    ∃ t, exec (.acuSettled n) s = .next t ∧ t.r (K.acuUnitState n.val) = 0 ∧
      t.r (K.acuSettledAt n.val) = beatVal s.beat s.tick ∧
      (∀ j, j ≠ K.acuUnitState n.val → j ≠ K.acuSettledAt n.val → t.r j = s.r j) ∧
      SameBut [.regs, .onyx] s t

/-- SWAP_WRITE: in OPERATIONAL a Swap of TRUE or FALSE is staged and nothing else changes; in PREOP a Swap of TRUE whose
proposal passes every check changes the active set over at once. -/
def Obligations.SwapIsStagedOrTakesEffect : Prop :=
  (∀ (s u : State) (e : JdpEnv) (n : AcuId) (p : Priv) (v : Nat), Heard s e opWrite (0x5800 + n.val) 0x07 p u →
    u.writeRefusal p (0x5800 + n.val) 0x07 = none → s.device = .operational → v ≤ 1 → e.payload = [v] →
    ∃ t, exec (.swapWrite e n) s = .next t ∧ Tbl.find t.staged (K.acuSwap n.val) = some v ∧
      SameBut [.staged, .mgmt, .out] s t) ∧
  (∀ (s u : State) (e : JdpEnv) (n : AcuId) (p : Priv), Heard s e opWrite (0x5800 + n.val) 0x07 p u →
    u.writeRefusal p (0x5800 + n.val) 0x07 = none → s.device = .preop → e.payload = [1] →
    s.r (K.acuActiveSet n.val) ≤ 1 → s.r (K.acuUnitState n.val) = 0 →
    s.proposalVerdict n.val ((upTo 64).map (fun j => s.r (K.acuProposal n.val + j))) = 1 →
    ∃ t, exec (.swapWrite e n) s = .next t ∧ t.r (K.acuActiveSet n.val) = 1 - s.r (K.acuActiveSet n.val) ∧
      t.r (K.acuInFlightActive n.val) = 0 ∧ t.staged = s.staged)

/-! ## Start-up, supplies and temperature (17, 18) -/

/-- PWRON_RST_N_ASSERT: BOOT with every object at its default but the presence of the slots, whose inputs the cards hold, with
gates off, lanes idle and Quartz at 0:0; the persistent store and the flash stay. PWRON_RST_N_RELEASE begins start-up and
records the reset. -/
def Obligations.PowerOnResetKeepsTheStore : Prop :=
  (∀ s : State, ∃ t, exec .pwronRstNAssert s = .next t ∧ t.device = .boot ∧ t.pins.reset = true ∧
    t.pins.lanesIdle = true ∧ t.beat = 0 ∧ t.tick = 0 ∧ t.staged = [] ∧ t.armed = none ∧
    (∀ k, (∀ c, k ≠ K.slotPresence c ∧ k ≠ K.slotChannelState c) → t.r k = defaultOf k) ∧
    (∀ c, (t.slot c).hsg = false ∧ (t.slot c).pcg = false ∧ (t.slot c).long = (s.slot c).long ∧
      (t.slot c).short = (s.slot c).short) ∧ t.store = s.store ∧ t.flash = s.flash) ∧
  (∀ (s : State) (powerOn : Bool), s.pins.reset = true → s.store.resetCount + 1 < 2 ^ 32 →
    ∃ t, exec (.pwronRstNRelease powerOn) s = .next t ∧ t.pins.reset = false ∧
      t.store.resetCount = s.store.resetCount + 1 ∧ t.store.resetCause = (if powerOn then 0 else 1) ∧
      SameBut [.pins, .store] s t)

/-- The phases FUSE, LOGIC_BIST and MEMORY_BIST, with the AVSBus request: each ends in the next phase, or in HOLD with its
cause. -/
def Obligations.EarlyPhasesGoOnOrHold : Prop :=
  (∀ (s : State) (n : Nat), s.inPhase 0 = true →
    (∃ t, exec (.fuseLoadComplete n false) s = .next t ∧ t.r K.startupPhase = 1 ∧ t.startup.avsWaiting = true ∧
      t.out = s.out ++ [.avs Config.avsFused] ∧ SameBut [.regs, .freeCtr, .startup, .out] s t) ∧
    (∃ t, exec (.fuseLoadComplete n true) s = .next t ∧ t.device = .hold ∧ t.r K.startupPhase = 9 ∧
      t.r K.startupHoldCause = 1 ∧ SameBut [.regs, .freeCtr, .mesh] s t)) ∧
  (∀ s : State, s.startup.avsWaiting = true →
    (∃ t, exec .avsAcknowledge s = .next t ∧ t.startup.avsWaiting = false ∧ t.r K.suppliesAvsSetPoint = Config.avsFused ∧
      t.r K.suppliesAvsAcknowledged = 1 ∧ SameBut [.regs, .startup] s t) ∧
    (∃ t, exec .avsTimeout s = .next t ∧ t.startup.avsWaiting = false ∧ t.r K.suppliesAvsAcknowledged = 0 ∧
      (∀ k, k ≠ K.suppliesAvsAcknowledged → t.r k = s.r k) ∧ SameBut [.regs, .startup] s t)) ∧
  (∀ (s : State) (failed : BitVec 12), s.inPhase 1 = true → s.startup.avsWaiting = false →
    ∃ t, exec (.logicBistComplete failed) s = .next t ∧ t.r K.startupLogicBistResult = failed.toNat ∧
      (if failed.toNat = 0 then t.r K.startupPhase = 2 ∧ t.device = .boot
       else t.r K.startupPhase = 9 ∧ t.r K.startupHoldCause = 2 ∧ t.device = .hold) ∧ SameBut [.regs, .mesh] s t) ∧
  (∀ (s : State) (found : List BistFind), s.inPhase 2 = true →
    ∃ t, exec (.memoryBistComplete found) s = .next t ∧
      (if (s.repairAll s.store.repairs found).1 = none then t.r K.startupPhase = 3
       else t.r K.startupPhase = 9 ∧ t.r K.startupHoldCause = 3 ∧ t.device = .hold) ∧
      SameBut [.regs, .freeCtr, .startup, .mesh] s t)

/-- The phases FW_LOAD, FW_INIT and RESTORE: a VALID slot runs in PREOP from 0:0, slot B stands in for slot A, no valid slot
ends in HOLD with its cause. RESTORE_PHASE_COMPLETE takes Quartz to ACQUIRING with every persistent object at the value that the
newest valid generation saved for it, or at its default (where no object without such a plain value is saved or differs from its
default). -/
def Obligations.FirmwarePhasesReachPreop : Prop :=
  (∀ s : State, s.inPhase 3 = true →
    (s.imageStatus 0 = 1 → ∃ t, exec .fwLoadComplete s = .next t ∧ t.device = .preop ∧ t.r K.startupPhase = 5 ∧
      t.r K.startupRunningImage = 1 ∧ t.r K.startupSlotStatusA = 1 ∧ t.pins.lanesIdle = false ∧ t.beat = 0 ∧ t.tick = 0) ∧
    (s.imageStatus 0 ≠ 1 → ∃ t, exec .fwLoadComplete s = .next t ∧ t.device = .boot ∧ t.r K.startupPhase = 4 ∧
      t.r K.startupSlotStatusA = s.imageStatus 0 ∧ SameBut [.regs] s t)) ∧
  (∀ s : State, s.inPhase 4 = true →
    (s.imageStatus 1 = 1 → ∃ t, exec .fwLoadComplete s = .next t ∧ t.device = .preop ∧ t.r K.startupPhase = 5 ∧
      t.r K.startupRunningImage = 2 ∧ t.r K.startupSlotStatusB = 1 ∧ t.pins.lanesIdle = false ∧ t.beat = 0 ∧ t.tick = 0) ∧
    (s.imageStatus 1 ≠ 1 → ∃ t, exec .fwLoadComplete s = .next t ∧ t.device = .hold ∧ t.r K.startupPhase = 9 ∧
      t.r K.startupHoldCause = 4 ∧ t.r K.startupSlotStatusB = s.imageStatus 1 ∧ SameBut [.regs, .mesh] s t)) ∧
  (∀ s : State, s.device = .preop → s.r K.startupPhase = 5 →
    ∃ t, exec .fwInitComplete s = .next t ∧ t.r K.startupPhase = 6 ∧ (∀ k, k ≠ K.startupPhase → t.r k = s.r k) ∧
      SameBut [.regs] s t) ∧
  (∀ s : State, s.device = .preop → s.r K.startupPhase = 6 →
    ∃ t, exec .restorePhaseComplete s = .next t ∧ t.r K.startupPhase = 7 ∧ t.beatState = .acquiring ∧
      (s.restoresPlain → ∀ k, persistent k = true → t.r k = s.savedValue k))

/-- SUPPLY_OUT_OF_RANGE shows the rails, and one out of range makes one occurrence of its FATAL source. -/
def Obligations.SupplyIsWatched : Prop :=
  ∀ (s : State) (rails : BitVec 7), s.linksRun = true → (Tbl.getD s.onyx.pend (Src.device 0x02) []).length < 255 →
    ∃ t, exec (.supplyOutOfRange rails) s = .next t ∧ t.r K.suppliesRailsOutOfRange = rails.toNat ∧
      (∀ k, k ≠ K.suppliesRailsOutOfRange → t.r k = s.r k) ∧
      Tbl.getD t.onyx.pend (Src.device 0x02) [] =
        (if rails.toNat = 0 then Tbl.getD s.onyx.pend (Src.device 0x02) []
         else Tbl.getD s.onyx.pend (Src.device 0x02) [] ++ [({} : Report)]) ∧
      SameBut [.regs, .onyx] s t

/-- TEMPERATURE_READING: the hottest die is shown; THERM_ALERT_N is asserted at the second reading in a row of 100 °C or
more, and released below 97 °C. -/
def Obligations.TemperatureDrivesTheAlert : Prop :=
  ∀ (s : State) (temps : List Int), temps.length = 12 → s.pins.reset = false →
    ∃ t, exec (.temperatureReading temps) s = .next t ∧
      t.r K.thermalJunctionMax = toTwos 32 (hottest temps).1 ∧ t.r K.thermalHottestDie = (hottest temps).2 ∧
      (1000 ≤ (hottest temps).1 → 1 ≤ s.startup.warnRun → t.pins.thermAlert = true) ∧
      ((hottest temps).1 < 970 → t.pins.thermAlert = false) ∧
      (970 ≤ (hottest temps).1 → (hottest temps).1 < 1000 → t.pins.thermAlert = s.pins.thermAlert) ∧
      SameBut [.regs, .startup, .pins, .onyx] s t

/-- STATE_REQUEST_START, STATE_REQUEST_STOP and STATE_REQUEST_RESET, accepted from an OWNER, take PREOP to OPERATIONAL,
OPERATIONAL to PREOP with nothing staged, and SAFE to BOOT with every object at its default but the presence of the slots, whose
inputs the cards hold. -/
def Obligations.StateRequestsMoveTheDevice : Prop :=
  ∀ (s u : State) (e : JdpEnv) (p : Priv), Heard s e opCommand 0x1004 0x02 p u → 2 ≤ privRank p → e.payload.length = 1 →
    (s.cmd 0x1004).state ≠ .pending →
    ((s.cmd 0x1004).args = [1] → s.device = .preop → s.beatState ≠ .acquiring →
      ∃ t, exec (.stateRequestStart e) s = .next t ∧ t.device = .operational ∧ (t.cmd 0x1004).state = .done ∧
        (∀ k, k ≠ K.deviceState → k ≠ K.deviceStateSince → k ≠ K.startupStartupTime → t.r k = s.r k) ∧
        SameBut [.regs, .cmds, .mgmt, .out, .freeCtr, .startup] s t) ∧
    ((s.cmd 0x1004).args = [2] → s.device = .operational → s.stopForbidden = false → s.armed = none →
      ∃ t, exec (.stateRequestStop e) s = .next t ∧ t.device = .preop ∧ t.staged = [] ∧ t.stagedActs = [] ∧
        (t.cmd 0x1004).state = .done) ∧
    ((s.cmd 0x1004).args = [3] → s.device = .safe →
      ∃ t, exec (.stateRequestReset e) s = .next t ∧ t.device = .boot ∧ t.beat = 0 ∧ t.tick = 0 ∧ t.pins.reset = false ∧
        (∀ k, (∀ c, k ≠ K.slotPresence c ∧ k ≠ K.slotChannelState c) → t.r k = defaultOf k) ∧
        t.store.resetCause = 2 ∧ t.flash = s.flash)

/-- STORE snapshots the live value of every persistent object into a new generation, each record with its CRC-32C, and refuses
one too large for the store. STORE_COMPLETE closes the generation where every word has read back, at once or after one repeat at
the next position, and fails where a word failed again. MODEL'S CHOICE (log entries 29, 61): where the ring has no room beside the
newest valid generation, the Store is refused as one too large is, and its repeat fails. -/
def Obligations.StoreKeepsEveryPersistentValue : Prop :=
  (∀ (s u : State) (e : JdpEnv) (args : List Byte), Triggered s e 0x1200 (fun s args => s.storeChecks args) args u →
    ∃ t, exec (.store e) s = .next t ∧ t.r K.storeLastStoreAt = beatVal s.beat s.tick ∧
      (496 * 1024 < t.r K.storeGenerationSize → (t.cmd 0x1200).result = 0x0E02 ∧ t.store = s.store) ∧
      (t.r K.storeGenerationSize ≤ 496 * 1024 → s.placeFor (t.r K.storeGenerationSize) = none →
        (t.cmd 0x1200).state = .failed ∧ (t.cmd 0x1200).result = 0x0E02 ∧ t.store = s.store) ∧
      (t.r K.storeGenerationSize ≤ 496 * 1024 → s.placeFor (t.r K.storeGenerationSize) ≠ none →
        (t.cmd 0x1200).state = .pending ∧
        ∃ g, t.store.generations.getLast? = some g ∧ g.closing = none ∧ g.size = t.r K.storeGenerationSize ∧
          (∀ x ∈ s.store.generations, x.number < g.number) ∧
          (∀ x ∈ s.store.generations, spansMeet x.start x.words g.start g.words = false → x ∈ t.store.generations) ∧
          (∀ r ∈ g.records, r.crc = crc32c (toBytes 8 r.key ++ toBytes 128 r.value)) ∧
          ∀ k, Tbl.find (generationValues g) k = if persistent k then Tbl.find s.regs k else none)) ∧
  (∀ (s : State) (g : Generation) (bad again : List Nat), (s.cmd 0x1200).state = .pending →
    s.store.generations.getLast? = some g → s.failing g bad = [] →
    ∃ t, exec (.storeComplete bad again) s = .next t ∧ (t.cmd 0x1200).state = .done ∧
      { g with closing := some (g.number, g.records.length) } ∈ t.store.generations ∧
      t.store.retiredWords = s.store.retiredWords ∧ t.r K.storeGenerationNumber = g.number ∧
      SameBut [.store, .regs, .cmds, .mgmt, .out] s t) ∧
  (∀ (s : State) (g : Generation) (bad again : List Nat), (s.cmd 0x1200).state = .pending →
    s.store.generations.getLast? = some g → s.failing g bad ≠ [] → s.repeatStore g bad = none →
    ∃ t, exec (.storeComplete bad again) s = .next t ∧ (t.cmd 0x1200).state = .failed ∧ (t.cmd 0x1200).result = 0x0E01 ∧
      t.store.generations = s.store.generations.filter (fun x => x ≠ g) ∧
      t.store.retiredWords = s.store.retiredWords ++ s.failing g bad) ∧
  (∀ (s u : State) (g h : Generation) (bad again : List Nat), (s.cmd 0x1200).state = .pending →
    s.store.generations.getLast? = some g → s.failing g bad ≠ [] → s.repeatStore g bad = some u →
    u.store.generations.getLast? = some h →
    (u.failing h again = [] →
      ∃ t, exec (.storeComplete bad again) s = .next t ∧ (t.cmd 0x1200).state = .done ∧
        { h with closing := some (h.number, h.records.length) } ∈ t.store.generations ∧
        h.number = g.number ∧ h.records = g.records ∧ t.r K.storeGenerationNumber = g.number ∧
        t.store.retiredWords = s.store.retiredWords ++ s.failing g bad) ∧
    (u.failing h again ≠ [] →
      ∃ t, exec (.storeComplete bad again) s = .next t ∧ (t.cmd 0x1200).state = .failed ∧ (t.cmd 0x1200).result = 0x0E01 ∧
        t.store.generations = u.store.generations ∧
        t.store.retiredWords = s.store.retiredWords ++ s.failing g bad ++ u.failing h again))

/-- RESTORE stays PENDING and changes no object; RESTORE_COMPLETE shows the generation loaded and its outcome, and every
persistent object holds the value that the newest valid generation saved for it, or its default (where no object without such a
plain value is saved or differs from its default). -/
def Obligations.RestoreLoadsTheNewestGeneration : Prop :=
  (∀ (s u : State) (e : JdpEnv) (args : List Byte), Triggered s e 0x1201 (fun s args => s.storeChecks args) args u →
    ∃ t, exec (.restore e) s = .next t ∧ (t.cmd 0x1201).state = .pending ∧ SameBut [.cmds, .mgmt, .out] s t) ∧
  (∀ s : State, (s.cmd 0x1201).state = .pending →
    ∃ t, exec .restoreComplete s = .next t ∧
      t.r K.storeLastRestoreOutcome = (if s.newest.isSome then 1 else 2) ∧
      (∀ g, s.newest = some g → t.r K.storeGenerationNumber = g.number) ∧
      (s.restoresPlain → ∀ k, persistent k = true → t.r k = s.savedValue k))

/-- FLASH_SLOT_WRITE of one row: the row holds the data, its sector erased first where it is the sector's first row; no row
of another sector or of the other slot changes, and the slot is EMPTY until checked. IMAGE_CHECK shows the check's result. -/
def Obligations.FlashRowsAreProgrammed : Prop :=
  (∀ (s u : State) (e : JdpEnv) (b : Bool) (p : Priv), Heard s e opWrite (0x7F10 + ofBool b) 0x01 p u →
    u.writeRefusal p (0x7F10 + ofBool b) 0x01 = none → s.slotStatus (1 - ofBool b) = 1 → e.payload.length = 1024 →
    e.row < 16384 →
    ∃ t, exec (.flashSlotWrite e b) s = .next t ∧ t.slotStatus (ofBool b) = 0 ∧
      t.flashRow (ofBool b) e.row = (if e.row % 4 = 0 then ofBytes e.payload
        else s.flashRow (ofBool b) e.row &&& ofBytes e.payload) ∧
      (∀ r, r < 16384 → r / 4 ≠ e.row / 4 → t.flashRow (ofBool b) r = s.flashRow (ofBool b) r) ∧
      (∀ r, r < 16384 → t.flashRow (1 - ofBool b) r = s.flashRow (1 - ofBool b) r) ∧
      SameBut [.regs, .flash, .mgmt, .out] s t) ∧
  (∀ (s u : State) (e : JdpEnv) (args : List Byte), Triggered s e 0x7F12 (fun _ args => imageCheckChecks args) args u →
    ∃ t, exec (.imageCheck e) s = .next t ∧ (t.cmd 0x7F12).state = .done ∧
      t.slotStatus (args.getD 0 0) = s.imageStatus (args.getD 0 0) ∧ SameBut [.regs, .cmds, .mgmt, .out] s t)

/-- FIRMWARE_ACTIVATE closes every session and takes the cores away; FIRMWARE_ACTIVATION_END runs the slot where its image
is VALID, and fails where neither slot holds a VALID one. REPAIR_LIST_CLEAR empties the list. -/
def Obligations.FirmwareIsReplacedInService : Prop :=
  (∀ (s u : State) (e : JdpEnv) (args : List Byte), Triggered s e 0x7F13 (fun s args => s.activateChecks args) args u →
    s.startup.activating = none →
    ∃ t, exec (.firmwareActivate e) s = .next t ∧ t.r K.startupPhase = 10 ∧ t.mgmt.sessions = [] ∧ t.staged = [] ∧
      t.mgmt.proxies = [] ∧ t.startup.activating = some (args.getD 0 0)) ∧
  (∀ (s : State) (slot : Nat), s.startup.activating = some slot → s.imageStatus slot = 1 →
    ∃ t, exec .firmwareActivationEnd s = .next t ∧ t.startup.activating = none ∧ t.r K.startupRunningImage = slot + 1 ∧
      t.firmwareAway = false ∧ SameBut [.regs, .startup, .onyx] s t) ∧
  (∀ (s : State) (slot : Nat), s.startup.activating = some slot → s.imageStatus slot ≠ 1 →
    s.imageStatus (s.r K.startupRunningImage - 1) ≠ 1 →
    ∃ t, exec .firmwareActivationEnd s = .next t ∧ t.startup.activating = none ∧ t.r K.startupPhase = 11 ∧
      SameBut [.regs, .startup] s t) ∧
  (∀ (s u : State) (e : JdpEnv) (args : List Byte), Triggered s e 0x7F03 (fun _ _ => {}) args u →
    ∃ t, exec (.repairListClear e) s = .next t ∧ t.store.repairs = [] ∧ (t.cmd 0x7F03).state = .done ∧
      SameBut [.store, .cmds, .mgmt, .out] s t)

/-- A power domain drains, is fenced when empty or returns to ON when it cannot drain in 1,024 beats, goes off, and powers up
after its own BIST, or stays off where a failing row finds no spare. -/
def Obligations.DomainsDrainFenceAndPower : Prop :=
  (∀ (s : State) (g : GroupId), s.domain g.val = .draining →
    (s.domainEmpty g.val = true → ∃ t, exec (.domainDrainEnd g) s = .next t ∧ t.domain g.val = .fenced ∧
      t.r (K.domainLastChange g.val) = beatVal s.beat s.tick ∧ SameBut [.regs, .mesh] s t) ∧
    (s.domainEmpty g.val = false → bits (s.r (K.domainLastChange g.val)) 57 10 + 1024 ≤ s.beat →
      ∃ t, exec (.domainDrainTimeout g) s = .next t ∧ t.domain g.val = .on ∧
      t.r (K.domainLastResult g.val) = 2 ∧ t.r (K.domainPowerDown g.val) = 0 ∧ SameBut [.regs, .mesh] s t)) ∧
  (∀ (s : State) (g : GroupId), s.domain g.val = .fenced →
    ∃ t, exec (.domainPowerOff g) s = .next t ∧ t.domain g.val = .off ∧ t.r (K.domainLastResult g.val) = 1 ∧
      SameBut [.regs, .mesh] s t) ∧
  (∀ (s : State) (g : GroupId) (found : List BistFind) (v : State), s.domain g.val = .poweringUp →
    v = { s with startup := { s.startup with spares := s.startup.spares.filter (fun e => !inDomain g.val e.1) } } →
    ∃ t, exec (.domainPowerUpEnd g found) s = .next t ∧
      ((v.repairAll (s.store.repairs.filter (fun x => inDomain g.val x.1)) found).1 = none → t.domain g.val = .on ∧
        t.r (K.domainLastResult g.val) = 1) ∧
      (∀ i, (v.repairAll (s.store.repairs.filter (fun x => inDomain g.val x.1)) found).1 = some i →
        t.domain g.val = .failed ∧ t.r (K.domainLastResult g.val) = 3 ∧ t.r (K.domainFailedInstance g.val) = i) ∧
      SameBut [.regs, .freeCtr, .startup, .mesh] s t)

/-- CHECK_COMPUTE waits for its data, one access in flight of the serving core's unit; CHECK_COMPUTE_COMPLETE, once they can have been
read, ends that access, and it and CHECK_BYTES give the check values of their bytes. -/
def Obligations.CheckValuesAreComputed : Prop :=
  (∀ (s u : State) (e : JdpEnv) (args : List Byte), Triggered s e 0x1300 (fun _ args => computeChecks args) args u →
    ∃ t, exec (.checkCompute e) s = .next t ∧ (t.cmd 0x1300).state = .pending ∧ t.startup.check = some
        (fieldAt args 0 1, fieldAt args 2 2, fieldAt args 1 1, fieldAt args 16 8, fieldAt args 24 8, fieldAt args 8 8) ∧
      t.startup.checkUnit = some (s.servingUnit, s.r (K.acuEpoch s.servingUnit)) ∧
      (s.r (K.acuInFlightActive s.servingUnit) + 1 < 2 ^ Schema.width (K.acuInFlightActive s.servingUnit) →
        t.r (K.acuInFlightActive s.servingUnit) = s.r (K.acuInFlightActive s.servingUnit) + 1) ∧
      (∀ k, k ≠ K.acuInFlightActive s.servingUnit → t.r k = s.r k) ∧
      SameBut [.startup, .regs, .freeCtr, .cmds, .mgmt, .out] s t) ∧
  (∀ (s : State) (alg pid ld start init : Nat) (data : List Byte),
    s.startup.check = some (alg, pid, ld, start, data.length, init) → (s.cmd 0x1300).state = .pending →
    firstRefused (s.ruleRows s.servingUnit (s.setB s.servingUnit))
      { space := 0, target := pid, ld := ld, addr := start, last := start + data.length - 1, need := { read := true } } 65
      start = none → data.length ≤ 2 * s.nsAgo s.startup.checkAt →
    ∃ t, exec (.checkComputeComplete data false) s = .next t ∧ t.startup.check = none ∧ (t.cmd 0x1300).state = .done ∧
      (t.cmd 0x1300).results = toBytes 8 (checkRun alg init data).1 ++ toBytes 8 (checkRun alg init data).2 ∧
      (∀ k, t.r k = s.endCheck.r k) ∧ (s.startup.checkUnit = none → t.regs = s.regs) ∧
      SameBut [.startup, .regs, .cmds, .mgmt, .out] s t) ∧
  (∀ (s u : State) (e : JdpEnv) (args : List Byte), Triggered s e 0x1301 (fun _ args => bytesChecks args) args u →
    ∃ t, exec (.checkBytes e) s = .next t ∧ (t.cmd 0x1301).state = .done ∧
      (t.cmd 0x1301).results = toBytes 8 (checkRun (fieldAt args 0 1) (fieldAt args 8 8) (args.drop 16)).1
        ++ toBytes 8 (checkRun (fieldAt args 0 1) (fieldAt args 8 8) (args.drop 16)).2 ∧
      SameBut [.cmds, .mgmt, .out] s t)

/-- DEBUG_PORT_ACCESS: a refused read shows all ones, and a refused write changes nothing beyond the record of the refusal;
an admitted read answers. MESH_PACKET_RECEIVE: a packet whose check fails is asked for again, but not after its fourth
failure. MESH_AGE_TICK ages a packet that waits in the router, or that comes to it, up to 255, and no other packet. -/
def Obligations.DebugAndMeshReachTheirUnits : Prop :=
  (∀ (s : State) (space : Fin 5) (target ld addr data : Nat) (x : Access),
    x = { space := space.val, target := target, ld := ld, addr := addr, last := addr + 7, need := { read := true } } →
    ∃ t, exec (.debugPortAccess space false target ld addr data) s = .next t ∧
      (∃ v, t.out = s.out ++ [.debugData v] ∧ ((s.acuRefusal 56 x true).isSome = true → v = 2 ^ 64 - 1)) ∧
      SameBut [.out, .regs, .freeCtr, .onyx, .tel] s t) ∧
  (∀ (s : State) (space : Fin 5) (target ld addr data : Nat),
    ∃ t, exec (.debugPortAccess space true target ld addr data) s = .next t ∧ t.out = s.out ∧
      SameBut [.regs, .freeCtr, .onyx, .tel] s t) ∧
  (∀ (s : State) (unit : MeshUnit) (packet : MeshPacket), s.mesh.mayLeave packet = true → s.isolated unit = false →
    (∃ t, exec (.meshPacketReceive unit packet true) s = .next t ∧ t.mesh.failures unit packet.id = 0 ∧
      t.mesh.place packet = none ∧ SameBut [.mesh] s t) ∧
    (s.mesh.failures unit packet.id < 3 →
      ∃ t, exec (.meshPacketReceive unit packet false) s = .next t ∧
        t.out = s.out ++ [.meshRetry packet.sender packet.id] ∧
        t.mesh.failures unit packet.id = s.mesh.failures unit packet.id + 1 ∧ SameBut [.mesh, .onyx, .out] s t) ∧
    (3 ≤ s.mesh.failures unit packet.id →
      ∃ t, exec (.meshPacketReceive unit packet false) s = .next t ∧ t.mesh.failures unit packet.id = 0 ∧
        SameBut [.mesh, .onyx] s t)) ∧
  (∀ (s : State) (router : Nat) (packet : MeshPacket),
    s.mesh.mayLeave packet = true ∨ (s.mesh.place packet).any (fun w => w.router = router) = true →
    ∃ t, exec (.meshAgeTick router packet) s = .next t ∧
      t.mesh.place packet = some ⟨router, packet, min 255 (((s.mesh.place packet).map (·.age)).getD 0 + 1)⟩ ∧
      (∀ q : MeshPacket, q.id ≠ packet.id → t.mesh.place q = s.mesh.place q) ∧ SameBut [.mesh] s t)

/-! ## The dictionary (02, 19) -/

/-- REGISTER_WRITE: a WRITE that fails steps 6 to 9 of the checks is answered with that check's code, and changes no
object. -/
def Obligations.RefusedWritesChangeNothing : Prop :=
  ∀ (s u : State) (e : JdpEnv) (i b code : Nat) (p : Priv), Heard s e opWrite (i % 65536) (b % 256) p u →
    Schema.cmd (i % 65536) = none → u.writeRefusal p (i % 65536) (b % 256) = some code →
    ∃ t, exec (.registerWrite e i b) s = .next t ∧
      t.out = s.out ++ [.jdp (u.answered e opWrite (i % 65536) (b % 256) code [])] ∧
      SameBut [.mgmt, .out] s t

/-- REGISTER_WRITE in OPERATIONAL: a value that passes every check is staged where the object is STG, and no live value
changes; a management object is written at once, and no other object changes. -/
def Obligations.WritesAreStagedOrTakenAtOnce : Prop :=
  ∀ (s u : State) (e : JdpEnv) (i b v : Nat) (p : Priv) (o : ObjInfo), Heard s e opWrite i b p u →
    i < 65536 → b < 256 → Schema.cmd i = none → Schema.find i b = some o → o.rows = 0 → o.ty.size ≤ 1408 →
    u.writeRefusal p i b = none → v = writtenValue (obj i o.sub) (ofBytes e.payload) →
    u.resourceRefusal (obj i o.sub) v = none → o.lengthRefusal e.row e.payload = none →
    o.valueRefusal (ofBytes e.payload) = none → u.rangeRefusal (obj i o.sub) v = none →
    (s.device = .operational → o.acc = .stg → i < 0x3800 ∨ (0x4000 ≤ i ∧ i < 0x5800) →
      ∃ t, exec (.registerWrite e i b) s = .next t ∧ Tbl.find t.staged (obj i o.sub) = some v ∧
        SameBut [.staged, .mgmt, .out] s t) ∧
    (o.acc = .rw → i < 0x1120 →
      ∃ t, exec (.registerWrite e i b) s = .next t ∧ t.r (obj i o.sub) = v ∧
        (∀ k, k ≠ obj i o.sub → t.r k = s.r k) ∧ SameBut [.regs, .mgmt, .out] s t)

/-- A COMMAND is refused by its first failed check: privilege, then device state, then length, then a PENDING command of the
same index; the refusal changes no object. Stated of STAGED_DISCARD. -/
def Obligations.TriggersAreRefusedInOrder : Prop :=
  ∀ (s u : State) (e : JdpEnv) (p : Priv) (c : CmdInfo), Heard s e opCommand 0x1421 0x02 p u → Schema.cmd 0x1421 = some c →
    ∀ code, code = (if privRank p < privRank c.priv then 0x0401
      else if c.admits s.device = false then 0x0501
      else if e.payload.length ≠ 1 ∨ (s.cmd 0x1421).args.length < c.argMin ∨ c.argMax < (s.cmd 0x1421).args.length then 0x0601
      else if (s.cmd 0x1421).state = .pending then 0x0801 else 0) → code ≠ 0 →
    ∃ t, exec (.stagedDiscard e) s = .next t ∧
      t.out = s.out ++ [.jdp (u.answered e opCommand 0x1421 0x02 code [])] ∧ SameBut [.mgmt, .out] s t

/-- Blocks: READ_BLOCK of a value that fits one segment answers it whole; WRITE_BLOCK of one segment writes as a WRITE does;
BLOCK_IDLE_TIMEOUT discards the session's block once it has been idle for 1 s, and notes that it expired. -/
def Obligations.BlocksOfOneSegment : Prop :=
  (∀ (s u : State) (e : JdpEnv) (i b : Nat) (p : Priv) (o : ObjInfo) (data : List Byte),
    Heard s e opReadBlock (i % 65536) (b % 256) p u → e.segment = 0 → e.length = 0 →
    u.readValue e.stagedView (i % 65536) (b % 256) e.row 0 = .ok data → Schema.find (i % 65536) (b % 256) = some o →
    o.rows = 0 → data.length ≤ 1408 →
    ∃ t, exec (.readBlock e i b) s = .next t ∧
      t.out = s.out ++ [.jdp (u.answered e opReadBlock (i % 65536) (b % 256) 0 data)] ∧
      SameBut [.mgmt, .out] s t) ∧
  (∀ (s u v : State) (e : JdpEnv) (i b : Nat) (p : Priv) (o : ObjInfo),
    Heard s e opWriteBlock (i % 65536) (b % 256) p u → e.segment = 0 → e.more = false →
    Schema.cmd (i % 65536) = none → Schema.find (i % 65536) (b % 256) = some o → o.rows = 0 →
    u.writeRefusal p (i % 65536) (b % 256) = none → e.payload.length ≤ o.ty.size →
    u.writeObject p (i % 65536) (b % 256) e.row e.payload = .ok (v, []) →
    ∃ t, exec (.writeBlock e i b) s = .next t ∧ SameBut [.mgmt, .out, .queue, .time] v t) ∧
  (∀ (s : State) (n : Nat) (x : Session) (b : Block), x ∈ s.mgmt.sessions → x.id = n → x.block = some b →
    1000000000 ≤ s.nsAgo b.since →
    ∃ t, exec (.blockIdleTimeout n) s = .next t ∧ { x with block := none, blockExpired := true } ∈ t.mgmt.sessions ∧
      (∀ y ∈ s.mgmt.sessions, y.id ≠ n → y ∈ t.mgmt.sessions) ∧ SameBut [.mgmt] s t)

/-- HELLO is answered with a CHALLENGE; a PROOF computed with the credential's secret opens a session with the lower of the
two privileges, and the ACCEPT is its first signed message; CHALLENGE_TIMEOUT forgets the CHALLENGE after 2 s. -/
def Obligations.SessionsOpenWithAProof : Prop :=
  (∀ (s : State) (e : JdpEnv), bytesOk e.payload = true → e.fragmented = false → e.crcGood opHello 0 0 = true → e.session = 0 →
    s.islandOnly = false → e.tag = 0 → e.version = 1 → e.payload.length = 18 → e.payload.getD 0 0 ≤ 15 →
    e.payload.getD 1 0 ≤ 2 → s.mgmt.sessions.length < 16 →
    ∃ t id nonce, exec (.hello e) s = .next t ∧
      t.out = s.out ++ [.jdp (({ via := e.via, op := opChallenge, session := id, payload := nonce ++ toBytes 8 Config.fabricIdentity } :
        JdpSent).sealed none)] ∧
      t.mgmt.challenges = s.mgmt.challenges ++ [{ id := id, slot := e.payload.getD 0 0,
                                                  asked := privOf (e.payload.getD 1 0),
                                                  clientNonce := e.payload.drop 2, deviceNonce := nonce, since := s.clock }] ∧
      SameBut [.mgmt, .out, .freeCtr] s t) ∧
  (∀ (s : State) (e : JdpEnv) (c : Challenge) (secret : List Byte) (p : Priv), bytesOk e.payload = true →
    e.fragmented = false → e.crcGood opProof 0 0 = true → s.mgmt.challenges.find? (fun c => c.id = e.session) = some c → e.tag = 0 →
    e.version = 1 → Tbl.find s.store.credentials c.slot = some (secret, p) → e.payload.length = 32 → e.alive = 0 →
    e.payload = hmac secret c.proofBytes → s.mgmt.sessions.length < 16 →
    ∃ t x, exec (.proof e) s = .next t ∧ t.mgmt.sessions = s.mgmt.sessions ++ [x] ∧ x.id = c.id ∧
      x.priv = privMin c.asked p ∧ x.key = hmac secret c.keyBytes ∧ x.tx = 0 ∧
      t.out = s.out ++ [.jdp (({ via := e.via, op := opAccept, session := c.id, payload := [privRank x.priv] } :
        JdpSent).sealed (some x.key))] ∧
      (∀ y ∈ t.mgmt.challenges, y.id ≠ c.id) ∧ SameBut [.mgmt, .out] s t) ∧
  (∀ (s : State) (c : Challenge), c ∈ s.mgmt.challenges → 2000000000 ≤ s.nsAgo c.since →
    ∃ t, exec (.challengeTimeout c.id) s = .next t ∧ (∀ y ∈ t.mgmt.challenges, y.id ≠ c.id) ∧
      (∀ y ∈ s.mgmt.challenges, y.id ≠ c.id → y ∈ t.mgmt.challenges) ∧ t.mgmt.sessions = s.mgmt.sessions ∧
      SameBut [.mgmt] s t)

/-- CLOSE ends the session, and so does SESSION_IDLE_TIMEOUT once no message has been accepted for that long; SUBSCRIBE adds one subscription to it; a session's requests change no
object. -/
def Obligations.SessionsEndAndSubscribe : Prop :=
  (∀ (s u : State) (e : JdpEnv) (p : Priv), Heard s e opClose 0 0 p u → e.via = .mgmtA →
    ∃ t, exec (.close e) s = .next t ∧ (∀ x ∈ t.mgmt.sessions, x.id ≠ e.session) ∧ SameBut [.mgmt, .out] s t) ∧
  (∀ (s : State) (n : Nat) (x : Session), s.session n = some x →
    (s.r K.mgmtSessionIdleTimeout * 1000000000 ≤ s.nsAgo x.seen →
      ∃ t, exec (.sessionIdleTimeout n) s = .next t ∧
        t.mgmt.sessions = s.mgmt.sessions.filter (fun x => x.id ≠ n) ∧ SameBut [.mgmt] s t) ∧
    (s.nsAgo x.seen < s.r K.mgmtSessionIdleTimeout * 1000000000 → exec (.sessionIdleTimeout n) s = .next s)) ∧
  (∀ (s u : State) (e : JdpEnv) (p : Priv) (x : Session) (b : Sub), Heard s e opSubscribe 0 0 p u →
    e.via.isPort = true → u.session e.session = some x → x.subs.length < 16 → subOf e.payload = .ok b →
    ∃ t y, exec (.subscribe e) s = .next t ∧ t.session e.session = some y ∧ y.subs = x.subs ++ [b] ∧
      SameBut [.mgmt, .out] s t)

/-- A proxied request for a target of another switch is forwarded on the link that begins the way to it, with the privilege of its
session; its answer, or 0x0D02 after 10 ms without one, goes back in the entry session. CREDENTIAL_INSTALL writes the credential's slot. -/
def Obligations.ProxiedRequestsAreRelayed : Prop :=
  (∀ (s : State) (e : JdpEnv) (op i b : Nat) (x : Session) (l : Lsr), e.via = .mgmtA → bytesOk e.payload = true →
    1 ≤ op % 256 → op % 256 ≤ 5 → e.fragmented = false →
    e.crcGood (op % 256) (i % 65536) (b % 256) = true → e.session ≠ 0 → s.session e.session = some x →
    e.tag = e.goodTag (op % 256) (i % 65536) (b % 256) x.key → (e.alive + 256 - x.lastAlive) % 256 ≠ 0 →
    (e.alive + 256 - x.lastAlive) % 256 ≤ 16 → e.version = 1 → e.proxied = true →
    s.ownsPid (e.proxyTarget % 4096) = false → s.otherOwner (e.proxyTarget % 4096) = some l →
    ∃ t, exec (.proxyRequest e op i b) s = .next t ∧
      (∀ p, s.towards l.identity = some p → Ctl.carry (.forwarded p s.mgmt.nextProxy (e.proxyTarget % 4096) x.priv e.flags
        e.session e.segment e.row (op % 256) (i % 65536) (b % 256) e.payload) ∈ (t.egress p).control) ∧
      (∃ q ∈ t.mgmt.proxies, q.number = s.mgmt.nextProxy ∧ q.session = e.session ∧ q.since = s.clock) ∧
      SameBut [.mgmt, .core] s t) ∧
  (∀ (s : State) (n abort : Nat) (data : Segment) (q : ProxyReq) (x : Session),
    s.mgmt.proxies.find? (fun q => q.number = n) = some q → q.fm = none → s.session q.session = some x →
    (∃ t, exec (.proxyAnswer n abort data) s = .next t ∧
      t.out = s.out ++ [.jdp (x.sends {
        via := x.via, op := q.op, index := q.index, sub := q.sub, echo := q.echo, segment := q.segment, row := q.row
        flags := 0x80 + (if abort = 0 then 0 else 0x40) + (if data.more then 0x20 else 0), abort := abort
        payload := data.bytes })] ∧
      (∀ y ∈ t.mgmt.proxies, y.number ≠ n) ∧ SameBut [.mgmt, .out] s t) ∧
    (10000000 ≤ s.nsAgo q.since → ∃ t, exec (.proxyTimeout n) s = .next t ∧
      t.out = s.out ++ [.jdp (x.sends {
        via := x.via, op := q.op, index := q.index, sub := q.sub, echo := q.echo, segment := q.segment, row := q.row
        flags := 0xC0, abort := 0x0D02 })] ∧
      (s.r K.jdpProxyTimeouts + 1 < 2 ^ Schema.width K.jdpProxyTimeouts →
        t.r K.jdpProxyTimeouts = s.r K.jdpProxyTimeouts + 1) ∧
      (∀ y ∈ t.mgmt.proxies, y.number ≠ n) ∧ SameBut [.mgmt, .out, .regs, .freeCtr] s t)) ∧
  (∀ (s u : State) (e : JdpEnv) (args : List Byte), Triggered s e 0x1110 (fun _ args => credentialChecks args) args u →
    ∃ t, exec (.credentialInstall e) s = .next t ∧ (t.cmd 0x1110).state = .done ∧
      Tbl.find t.store.credentials (args.getD 0 0) = some (args.drop 2, privOf (args.getD 1 0)) ∧
      SameBut [.store, .cmds, .mgmt, .out] s t)

/-! ## The Fabric Manager API (02, 19) -/

/-- Every FM API command that only reads is answered with one message, which holds what it reads, and changes nothing; a
command outside the table is answered Unsupported. -/
def Obligations.FmReadsAnswerAndChangeNothing : Prop :=
  ∀ (s : State) (via : FmVia), s.fmReached via = true →
    (∃ t, exec (.identify via) s = .next t ∧
      t.out = s.out ++ [.fm via .success (s.indexBytes 0x1000 (fun _ => true) ++ s.indexBytes 0x1001 (fun _ => true))] ∧ SameBut [.out] s t) ∧
    (∃ t, exec (.identifySwitchDevice via) s = .next t ∧ t.out = s.out ++ [.fm via .success (s.indexBytes 0x1003 (fun _ => true) ++ [96, 64] ++ toBytes 2 2048 ++
        [((upTo 64).filter (fun n => s.tenantState n ≠ .disabled)).length] ++ toBytes 2 (s.bindings []).length)] ∧
      SameBut [.out] s t) ∧
    (s.islandOnly = false →
      (∃ t, exec (.getResponseMessageLimit via) s = .next t ∧
        t.out = s.out ++ [.fm via .success [s.r K.fmApiResponseLimit]] ∧ SameBut [.out] s t) ∧
      (∀ ports : List PortId, ∃ t, exec (.getPhysicalPortState via ports) s = .next t ∧
        t.out = s.out ++ [.fm via .success (ports.flatMap (fun p =>
          p.val :: s.indexBytes (0x2500 + p.val) (fun o => [0x01, 0x02, 0x0B, 0x0C, 0x0D, 0x0E].contains o.sub)))] ∧
        SameBut [.out] s t) ∧
      (∀ n : TenantId, ∃ t, exec (.getVirtualCxlSwitchInfo via n) s = .next t ∧
        t.out = s.out ++ [.fm via .success (s.indexBytes (0x3000 + n.val) (fun _ => true))] ∧ SameBut [.out] s t) ∧
      (∀ n : TenantId, s.r K.fmApiPoolTarget ≠ 0xFFFF → ∃ t, exec (.getLdInfo via n) s = .next t ∧
        t.out = s.out ++ [.fm via .success
          (toBytes 8 (s.freeCount (s.r K.fmApiPoolTarget % 4096) (s.r K.fmApiPoolLd) * extentBytes) ++ toBytes 2 16)] ∧
        SameBut [.out] s t) ∧
      (∀ n : TenantId, ∃ t, exec (.getLdAllocations via n) s = .next t ∧
        t.out = s.out ++ [.fm via .success
          (toBytes 8 (2 ^ 28) ++ (upTo 16).flatMap (fun k => toBytes 8 (s.r (K.vmdCapacity (16 * n.val + k)))))] ∧
        SameBut [.out] s t) ∧
      (∀ opcode : Nat, ∃ t, exec (.fmApiOtherCommand via opcode) s = .next t ∧
        t.out = s.out ++ [.fm via .unsupported []] ∧ SameBut [.out] s t))

/-- The response limit is written as a dictionary WRITE would be; Background Operation Status reports the newest FM API
commit; a hot reset is sent on a DEVICE port alone; an admitted configuration write goes out once; a tunnelled command
reaches a VMD pool or a local device. -/
def Obligations.FmCommandsReachTheirTargets : Prop :=
  ∀ (s : State) (via : FmVia), s.fmReached via = true → s.islandOnly = false →
    (∀ n : Nat, s.writeRefusal (s.fmPriv via) 0x1130 0x06 = none → 8 ≤ n → n ≤ 12 →
      ∃ t, exec (.setResponseMessageLimit via n) s = .next t ∧ t.r K.fmApiResponseLimit = n ∧
        t.out = s.out ++ [.fm via .success [n]] ∧ SameBut [.regs, .out] s t) ∧
    (∀ (n code : Nat), s.writeRefusal (s.fmPriv via) 0x1130 0x06 = some code →
      ∃ t, exec (.setResponseMessageLimit via n) s = .next t ∧ t.out = s.out ++ [.fm via (fmCode code) []] ∧
        SameBut [.out] s t) ∧
    (∀ a : Armed, s.mgmt.fmOp = .none → s.armed = some a → a.com.tag.testBit 31 = true → a.com.state = .armed →
      ∃ t, exec (.backgroundOperationStatus via) s = .next t ∧ t.out = s.out ++ [.fm via .backgroundStarted [0]] ∧
        SameBut [.out] s t) ∧
    (∀ p : PortId, s.portExists p.val = true → s.isDevice p.val = true → s.linksRun = true → s.linkUp p.val = true →
      ∃ t, exec (.physicalPortControl via p 2) s = .next t ∧
        SameBut [.out, .queue, .time] ((s.emit (.hotReset p.val)).dropLink p.val) t ∧
        t.out = ((s.emit (.hotReset p.val)).dropLink p.val).out ++ [.fm via .success []]) ∧
    (∀ p : PortId, s.isDevice p.val = false →
      ∃ t, exec (.physicalPortControl via p 2) s = .next t ∧ t.out = s.out ++ [.fm via .invalidInput []] ∧
        SameBut [.out] s t) ∧
    (∀ (p : PortId) (bdf reg data : Nat) (x : Access), s.portExists p.val = true → s.isDevice p.val = true → x.space = 1 →
      x.target = bits (s.r (K.fabricPortPids + p.val)) 11 0 → x.ld = 0 → x.addr = bdf % 65536 * 4096 + reg % 4096 →
      x.last = x.addr → x.need = { config := true } → s.acuRefusal s.servingUnit x true = none →
      ∃ t, exec (.sendPpbCxlIoConfigurationRequest via p bdf reg true data) s = .next t ∧
        t.out = s.out ++ [.cfg p.val (bdf % 65536) (reg % 4096) true data, .fm via .success []] ∧ SameBut [.out] s t) ∧
    (∀ (n opcode : Nat) (data : List Byte), n < 96 → s.portExists n = true → s.isDevice n = true →
      ∃ t, exec (.tunnelManagementCommand via n opcode data) s = .next t ∧ t.out = s.out ++ [.fmRelay n opcode data] ∧
        SameBut [.out] s t) ∧
    (∀ (n opcode : Nat) (data : List Byte), n < 64 → opcode < 0x5400 ∨ 0x5402 < opcode →
      ∃ t, exec (.tunnelManagementCommand via (0x80 + n) opcode data) s = .next t ∧
        t.out = s.out ++ [.fm via .unsupported []] ∧ SameBut [.out] s t)

/-- BIND_VPPB, UNBIND_VPPB and SET_LD_ALLOCATIONS by an OWNER in OPERATIONAL: what they stage is armed for the next beat that
can still be armed, as a background operation, and no live value changes. UNBIND_VPPB with option 1 waits for PowerOff, and
MANAGED_REMOVE_TIMEOUT ends the wait. -/
def Obligations.FmBindingChangesAreArmed : Prop :=
  (∀ (s u : State) (via : FmVia) (n : TenantId) (b : Fin 32) (port ld row : Nat), s.fmReached via = true →
    s.fmCanArm = true → s.mgmt.fmOp = .none → privRank (s.fmPriv via) = 2 →
    (s.fmBindRow port ld = some row → s.fmStageRow (s.fmPriv via) n.val b.val row = .ok u →
      ∃ t a, exec (.bindVppb via n b port ld) s = .next t ∧ t.armed = some a ∧ a.com.target = s.nextTarget ∧
        a.com.tag.testBit 31 = true ∧ a.com.state = .armed ∧ a.values = u.staged ∧ a.acts = u.stagedActs ∧
        t.staged = [] ∧ t.out = u.out ++ [.fm via .backgroundStarted []] ∧ t.regs = u.regs) ∧
    (s.fmStageRow (s.fmPriv via) n.val b.val 0 = .ok u →
      ∃ t a, exec (.unbindVppb via n b 0) s = .next t ∧ t.armed = some a ∧ a.com.target = s.nextTarget ∧
        a.values = u.staged ∧ t.staged = [] ∧ t.out = u.out ++ [.fm via .backgroundStarted []] ∧ t.regs = u.regs) ∧
    (s.powerOff n.val b.val = false →
      ∃ t, exec (.unbindVppb via n b 1) s = .next t ∧ t.armed = none ∧ t.staged = s.staged ∧
        t.mgmt.fmOp = .managedRemove n.val b.val (s.beat + s.r K.fmApiManagedRemoveWait) ∧
        .fm via .backgroundStarted [] ∈ t.out)) ∧
  (∀ (s u : State) (via : FmVia) (n : TenantId) (start : Fin 16) (sizes : List Nat), s.fmReached via = true →
    s.fmCanArm = true → s.mgmt.fmOp = .none → privRank (s.fmPriv via) = 2 → s.r K.fmApiPoolTarget ≠ 0xFFFF →
    start.val + sizes.length ≤ 16 → s.fmAllocateAll (16 * n.val + start.val) sizes = .ok u →
    ∃ t a, exec (.setLdAllocations via n start sizes) s = .next t ∧ t.armed = some a ∧ a.com.target = s.nextTarget ∧
      a.values = u.staged ∧ a.acts = u.stagedActs ∧ t.staged = [] ∧ t.stagedActs = []) ∧
  (∀ (s : State) (n b until' : Nat), s.mgmt.fmOp = .managedRemove n b until' → s.powerOff n b = false → until' ≤ s.beat →
    ∃ t, exec .managedRemoveTimeout s = .next t ∧ t.mgmt.fmOp = .aborted ∧
      (t.r (K.tenantVppbStatus n + b)).testBit 44 = false ∧ SameBut [.regs, .mgmt] s t)

/-! ## The chassis beat and commits (03) -/

/-- An edge is judged against its prediction once a reference has been seen, and a good one stands for its beat; a frame gives
its number where its check is good, the first of its beat; a link beat is followed on the source port alone, its edge lying an
offset and a delay before its arrival; a link's delay is half of its round trip. The next good edge of a usable source ends
HOLDOVER. -/
def Obligations.SourcesAreRecorded : Prop :=
  (∀ (s : State) (error phase : Int), s.quartzRuns = true →
    (s.beatState ≠ .holdover ∨ s.quartz.relock ≠ some .beatA →
      ∃ t, exec (.beatPulseEdge 0 error phase) s = .next t ∧ t.quartz.srcA.seen = true ∧
        (t.quartz.srcA.edge = true ↔ s.quartz.srcA.edge = true ∨
          s.quartz.srcA.seen = true ∧ error.natAbs ≤ s.r K.beatEdgeTolerance) ∧
        (s.quartz.srcA.edge = false → t.quartz.srcA.phase = phase) ∧ t.quartz.srcA.number = s.quartz.srcA.number ∧
        t.quartz.srcB = s.quartz.srcB ∧ t.quartz.srcL = s.quartz.srcL ∧ SameBut [.quartz] s t) ∧
    (s.beatState = .holdover → s.quartz.relock = some .beatA → s.quartz.srcA.seen = true →
      error.natAbs ≤ s.r K.beatEdgeTolerance →
      ∃ t, exec (.beatPulseEdge 0 error phase) s = .next t ∧ t.beatState = .locked ∧ t.r K.beatActiveSource = 1 ∧
        t.r K.beatPhaseError = toTwos 32 phase ∧ SameBut [.quartz, .regs, .pins] s t)) ∧
  (∀ (s : State) (frame : BitVec 64), s.quartzRuns = true →
    ∃ t, exec (.beatFrame 1 frame) s = .next t ∧
      t.quartz.srcB.number = (if frameGood frame.toNat = true ∧ s.quartz.srcB.number = none
        then some (bits frame.toNat 63 16) else s.quartz.srcB.number) ∧
      t.quartz.srcB.edge = s.quartz.srcB.edge ∧ t.quartz.srcA = s.quartz.srcA ∧ t.quartz.srcL = s.quartz.srcL ∧
      SameBut [.quartz] s t) ∧
  (∀ (s : State) (p : PortId) (n off : Nat) (arrival early : Int), s.quartzRuns = true → s.managed p.val = true →
    s.beatState ≠ .holdover →
    (s.r K.beatSourcePort = p.val → ∃ t, exec (.linkBeat p n off arrival early) s = .next t ∧
      (s.quartz.srcL.number = none → t.quartz.srcL.number = some (n % 2 ^ 48)) ∧ t.quartz.srcL.seen = true ∧
      (t.quartz.srcL.edge = true ↔ s.quartz.srcL.edge = true ∨ s.quartz.srcL.seen = true ∧
        (arrival - (off + s.r (K.beatLinkDelay + p.val) : Nat)).natAbs ≤ 8 * s.r K.beatEdgeTolerance) ∧
      t.quartz.srcA = s.quartz.srcA ∧ t.quartz.srcB = s.quartz.srcB ∧ SameBut [.quartz] s t) ∧
    (s.r K.beatSourcePort ≠ p.val → ∃ t, exec (.linkBeat p n off arrival early) s = .next t ∧ SameBut [] s t)) ∧
  (∀ (s : State) (p : PortId) (trip : Nat), s.managed p.val = true → trip < 2 ^ 32 →
    ∃ t, exec (.linkDelayMeasurement p trip) s = .next t ∧ t.r (K.beatLinkDelay + p.val) = trip / 2 ∧
      (∀ k, k ≠ K.beatLinkDelay + p.val → t.r k = s.r k) ∧ SameBut [.regs, .fabric, .core] s t)

/-- SOURCE_JUDGEMENT judges once for each beat: in ACQUIRING it adopts the number of the first qualified source of the order and
locks to it, and in LOCKED without a qualified source HOLDOVER begins; HOLDOVER_LIMIT_REACHED makes the block BEATLESS, without
a source; BEAT_REACQUIRE waits, and its adoption takes Quartz to the source's number at tick 0, or ends at once where a locked
Quartz holds the number. -/
def Obligations.QuartzLocksAndLosesSources : Prop :=
  (∀ s : State, s.quartzRuns = true → s.quartz.judged = false → s.beatState = .acquiring → s.r K.beatSourcePolicy = 0 →
    s.r K.beatPreferredExternal = 0 → s.quartz.srcA.judge.2.qualified = true →
    ∃ t, exec .sourceJudgement s = .next t ∧ t.beatState = .locked ∧ t.r K.beatActiveSource = 1 ∧
      t.quartz.judged = true ∧ (s.r K.startupPhase = 7 → t.r K.startupPhase = 8) ∧
      t.beat = s.quartz.srcA.judge.2.judged ∧ t.tick = s.judgeTick ∧ SameBut [.regs, .time, .quartz, .pins, .onyx] s t) ∧
  (∀ s : State, s.quartzRuns = true → s.quartz.judged = false → s.beatState = .locked →
    s.quartz.srcA.judge.2.qualified = false → s.quartz.srcB.judge.2.qualified = false →
    s.quartz.srcL.judge.2.qualified = false → s.r K.beatHoldoverLimit ≠ 0 →
    ∃ t, exec .sourceJudgement s = .next t ∧ t.beatState = .holdover ∧ t.r K.beatActiveSource = 0 ∧
      t.r K.beatHoldoverBeats = 0 ∧ t.beat = s.beat ∧ SameBut [.regs, .time, .quartz, .pins, .onyx] s t) ∧
  (∀ s : State, s.quartz.judged = true → ∃ t, exec .sourceJudgement s = .next t ∧ SameBut [] s t) ∧
  (∀ s : State, s.beatState = .holdover → s.r K.beatHoldoverLimit ≤ s.r K.beatHoldoverBeats → s.armed = none →
    ∃ t, exec .holdoverLimitReached s = .next t ∧ t.beatState = .beatless ∧ t.r K.beatActiveSource = 0 ∧
      SameBut [.regs, .pins, .onyx, .jasper] s t) ∧
  (∀ (s u : State) (e : JdpEnv) (args : List Byte), Triggered s e 0x1402 (fun s args => s.reacquireChecks args) args u →
    ∃ t, exec (.beatReacquire e) s = .next t ∧ (t.cmd 0x1402).state = .pending ∧ t.startup.reacquire = true ∧
      SameBut [.startup, .cmds, .mgmt, .out] s t) ∧
  (∀ (s : State) (src : BeatSrc) (n : Nat), s.reacquired src = some n → (s.cmd 0x1402).state = .pending →
    (s.holdsNumber n = true → ∃ t, exec (.beatReacquireAdopt src) s = .next t ∧ t.startup.reacquire = false ∧
      (t.cmd 0x1402).state = .done ∧ t.beat = s.beat ∧ SameBut [.startup, .cmds, .mgmt, .out] s t) ∧
    (s.holdsNumber n = false → ∃ t, exec (.beatReacquireAdopt src) s = .next t ∧ t.startup.reacquire = false ∧
      t.beatState = .locked ∧ t.r K.beatActiveSource = srcNum src ∧ t.beat = n ∧ t.tick = 0))

/-- The beat: ARMING_CUTOFF and APPLY_PREPARATION bring Quartz to their tick with the work of the cut-off done once, and
BEAT_BOUNDARY to tick 0 of the next beat, where the beats run; the preparation loads the patches held for the boundary, none where
none is held; in BOOT and HOLD, where they do not, each of the three changes
nothing. -/
def Obligations.TheBeatHasItsTicks : Prop :=
  (∀ s : State, s.beatsRun = true →
    ∃ t, exec .armingCutoff s = .next t ∧ t.tick = min 1023 (max s.tick s.quartz.cutoff) ∧ t.beat = s.beat ∧
      (s.linksRun = true → t.quartz.cutoffDone = true) ∧ (s.quartz.cutoffDone = true → SameBut [.time] s t)) ∧
  (∀ s : State, s.beatsRun = true →
    ∃ t, exec .applyPreparation s = .next t ∧ t.tick = max s.tick 1000 ∧ t.beat = s.beat ∧
      (s.linksRun = true → t.quartz.cutoffDone = true) ∧ (s.quartz.cutoffDone = true → SameBut [.time, .beryl] s t) ∧
      (s.quartz.cutoffDone = true → s.armed = none → s.heldPatches = [] →
        t.beryl = { s.beryl with loaded := [] } ∧ SameBut [.time, .beryl] s t)) ∧
  (∀ s : State, s.beatsRun = true → ∃ t, exec .beatBoundary s = .next t ∧ t.tick = 0 ∧
    (s.quartz.begun = false → t.beat = 0) ∧ (s.quartz.begun = true → t.beat = (s.beat + 1) % 2 ^ 48) ∧
    (∀ x ∈ t.mgmt.sessions, x.notified = 0)) ∧
  (∀ s : State, s.beatsRun = false ↔ s.device = .boot ∨ s.device = .hold) ∧
  (∀ s : State, s.beatsRun = false →
    (∃ t, exec .armingCutoff s = .next t ∧ SameBut [] s t) ∧ (∃ t, exec .applyPreparation s = .next t ∧ SameBut [] s t) ∧
    (∃ t, exec .beatBoundary s = .next t ∧ SameBut [] s t))

/-- COMMIT_ARM freezes the staged set for its target beat; after the cut-off it fails with 0x0301 and the staged set stays.
STAGED_DISCARD empties it. COMMIT_CANCEL and COMMIT_CANCEL_RECEIVE discard the armed set that they name in time, and the
staged set stays; the cancel is queued on every managed link. That none is sent in SAFE and BEATLESS is the model's choice (log entry
67). -/
def Obligations.CommitsAreArmedAndCancelled : Prop :=
  (∀ (s u : State) (e : JdpEnv) (args : List Byte) (n : Nat), Triggered s e 0x1420 (fun s args => s.commitArmChecks args) args u →
    n = bits (fieldAt args 4 8) 57 10 →
    (s.afterCutoff n = false → ∃ t a, exec (.commitArm e) s = .next t ∧ t.armed = some a ∧
      a.com.tag = fieldAt args 0 4 ∧ a.com.target = n ∧ a.com.state = .armed ∧ a.values = s.staged ∧
      a.acts = s.stagedActs ∧ t.staged = [] ∧ t.stagedActs = [] ∧ (t.cmd 0x1420).state = .done ∧
      SameBut [.armed, .staged, .stagedActs, .cmds, .mgmt, .out] s t) ∧
    (s.afterCutoff n = true → ∃ t, exec (.commitArm e) s = .next t ∧ (t.cmd 0x1420).state = .failed ∧
      (t.cmd 0x1420).result = 0x0301 ∧ t.armed = s.armed ∧ t.staged = s.staged ∧
      (∃ c, t.commits.head? = some c ∧ c.tag = fieldAt args 0 4 ∧ c.state = .cancelled ∧ c.reason = .lateArm))) ∧
  (∀ (s u : State) (e : JdpEnv) (args : List Byte), Triggered s e 0x1421 (fun _ _ => {}) args u →
    ∃ t, exec (.stagedDiscard e) s = .next t ∧ t.staged = [] ∧ t.stagedActs = [] ∧ (t.cmd 0x1421).state = .done ∧
      t.armed = s.armed) ∧
  (∀ (s u : State) (e : JdpEnv) (args : List Byte) (a : Armed), Triggered s e 0x1422 (fun _ _ => {}) args u →
    s.armed = some a → a.com.tag = fieldAt args 0 4 → s.beforeLoad a.com.target = true →
    ∃ t, exec (.commitCancel e) s = .next t ∧ t.armed = none ∧ t.staged = s.staged ∧ t.stagedActs = s.stagedActs ∧
      (t.cmd 0x1422).state = .done ∧
      (s.device ≠ .safe → s.beatState ≠ .beatless → ∀ q : PortId, s.managed q.val = true →
        Ctl.carry (.cancel q.val a.com.tag a.com.target) ∈ (t.egress q.val).control) ∧
      (∃ c, t.commits.head? = some c ∧ c.tag = a.com.tag ∧ c.state = .cancelled ∧ c.reason = .command)) ∧
  (∀ (s : State) (p : PortId) (a : Armed), s.managed p.val = true → s.linksRun = true → s.armed = some a →
    s.beforeLoad a.com.target = true →
    ∃ t, exec (.commitCancelReceive p a.com.tag a.com.target) s = .next t ∧ t.armed = none ∧
      t.staged = s.staged ∧ t.stagedActs = s.stagedActs ∧
      (∃ c, t.commits.head? = some c ∧ c.tag = a.com.tag ∧ c.state = .cancelled ∧ c.reason = .remoteCancel))

/-! ## Lanes, links and their reliability (04, 05) -/

/-- A loss of signal or lock on a lane that is not in electrical idle is counted, and reported where the port is ACTIVE; on one
that is, nothing happens; an eye scan of a lane of an ACTIVE link shows its margins; a lane out of park lets its port train. -/
def Obligations.LanesReportLossAndMargins : Prop :=
  (∀ (s : State) (n : LaneId), s.laneQuiet n.val = false → ∃ t, exec (.lossOfSignal n) s = .next t ∧
    n.val ∈ (t.port (s.laneport n.val)).lostLanes ∧
    (s.r (K.laneLosCount n.val) + 1 < 2 ^ Schema.width (K.laneLosCount n.val) →
      t.r (K.laneLosCount n.val) = s.r (K.laneLosCount n.val) + 1) ∧
    (s.link (s.laneport n.val) ≠ .active → t.onyx = s.onyx) ∧ SameBut [.regs, .freeCtr, .ports, .onyx] s t) ∧
  (∀ (s : State) (n : LaneId), s.laneQuiet n.val = true → (∃ t, exec (.lossOfSignal n) s = .next t ∧ SameBut [] s t) ∧
    (∃ t, exec (.lossOfLock n) s = .next t ∧ SameBut [] s t)) ∧
  (∀ (s : State) (n : LaneId), ∃ t, exec (.lossOfSignalDeassert n) s = .next t ∧
    n.val ∉ (t.port (s.laneport n.val)).lostLanes ∧ SameBut [.ports] s t) ∧
  (∀ (s : State) (n : LaneId), s.link (s.laneport n.val) = .active → s.laneQuiet n.val = false →
    s.canOccur (Src.lane n.val 1) = true → (Tbl.getD s.onyx.pend (Src.lane n.val 1) []).length < 255 →
    ∃ t, exec (.lossOfLock n) s = .next t ∧
      Tbl.getD t.onyx.pend (Src.lane n.val 1) []
        = Tbl.getD s.onyx.pend (Src.lane n.val 1) [] ++ [plainReport (Src.lane n.val 1)] ∧
      (s.r (K.laneLolCount n.val) + 1 < 2 ^ Schema.width (K.laneLolCount n.val) →
        t.r (K.laneLolCount n.val) = s.r (K.laneLolCount n.val) + 1) ∧
      (∀ k, k ≠ K.laneLolCount n.val → t.r k = s.r k) ∧ SameBut [.regs, .freeCtr, .onyx] s t) ∧
  (∀ (s : State) (n : LaneId) (h v : Nat), h < 65536 → v < 65536 →
    (s.link (s.laneport n.val) = .active → s.laneQuiet n.val = false →
      ∃ t, exec (.eyeScanComplete n h v) s = .next t ∧
      t.r (K.laneMarginH n.val) = h ∧ t.r (K.laneMarginV n.val) = v ∧
      t.r (K.laneScanTime n.val) = beatVal s.beat s.tick ∧
      (s.r (K.portMarginThresholdH (s.laneport n.val)) ≤ h → s.r (K.portMarginThresholdV (s.laneport n.val)) ≤ v →
        t.onyx = s.onyx) ∧ SameBut [.regs, .onyx] s t) ∧
    (s.link (s.laneport n.val) ≠ .active ∨ s.laneQuiet n.val = true →
      ∃ t, exec (.eyeScanComplete n h v) s = .next t ∧ SameBut [] s t)) ∧
  (∀ (s : State) (p : PortId), ∃ t, exec (.laneParkExitReady p) s = .next t ∧ (t.port p.val).parkExit = false ∧
    SameBut [.ports] s t)

/-- The link states: lock lost stalls an ACTIVE port; lock regained within LockLossHold restores it, and what it held leaves; a
hold that has lasted so long, or the partner, starts Recovery; a training that reaches L0 makes the port ACTIVE at its rate and
width; a HOT_RESET takes a HOST port with its link up down, with reset cause 2, and so does an integrity failure under IDE, whose keys
are set over IDE_KM; a failed attempt of a DOWN port is reported. -/
def Obligations.LinksStallRetrainAndTrain : Prop :=
  (∀ (s : State) (p : PortId), s.link p.val = .active → ∃ t, exec (.portLockLost p) s = .next t ∧ t.link p.val = .stalled ∧
    (t.port p.val).lockLostAt = s.clock ∧
    (∀ k, k ≠ K.portLinkState p.val → k ≠ K.portHeldSince p.val → t.r k = s.r k) ∧ SameBut [.regs, .ports] s t) ∧
  (∀ (s : State) (p : PortId), s.link p.val = .stalled →
    (s.lanesLost p.val = false → s.nsAgo (s.port p.val).lockLostAt ≤ s.r (K.portLockLossHold p.val) →
      ∃ t, exec (.portLockRegained p) s = .next t ∧ t.link p.val = .active ∧ t.r (K.portHeldSince p.val) = 0 ∧
        SameBut [.regs, .ports, .tel] s t) ∧
    (s.r (K.portLockLossHold p.val) < s.nsAgo (s.port p.val).lockLostAt →
      ∃ t, exec (.portLockRegained p) s = .next t ∧ SameBut [] s t) ∧
    (s.r (K.portLockLossHold p.val) ≤ s.nsAgo (s.port p.val).lockLostAt →
      ∃ t, exec (.lockLossHoldExpiry p) s = .next t ∧ t.link p.val = .retraining ∧
        SameBut [.regs, .freeCtr, .ports, .onyx] s t)) ∧
  (∀ (s : State) (p : PortId), s.link p.val = .active ∨ s.link p.val = .stalled →
    ∃ t, exec (.partnerRecovery p) s = .next t ∧ t.link p.val = .retraining ∧
      (s.r (K.portRetrainCount p.val) + 1 < 2 ^ Schema.width (K.portRetrainCount p.val) →
        t.r (K.portRetrainCount p.val) = s.r (K.portRetrainCount p.val) + 1) ∧ SameBut [.regs, .freeCtr, .ports] s t) ∧
  (∀ (s : State) (p : PortId) (rate width : Nat) (flit lopt : Bool) (lanes : LaneTraining) (count last : Nat)
    (partner : List Nat), s.link p.val = .retraining → s.trains p.val = true →
    s.canReach p.val rate width flit lanes.reversed partner = true → (s.port p.val).outstanding = [] →
    ∃ t, exec (.trainingReachesL0 p rate width flit lopt lanes count last partner) s = .next t ∧
      t.link p.val = .active ∧ t.r (K.portNegotiatedRate p.val) = rate ∧ t.r (K.portNegotiatedWidth p.val) = width ∧
      t.r (K.portFlitFormat p.val) = flitFormat (s.portMode p.val) rate flit lopt ∧
      t.r (K.portHeldSince p.val) = 0 ∧ SameBut [.regs, .ports, .freeCtr, .tel, .fabric, .core] s t) ∧
  (∀ (s : State) (p : PortId), s.isHost p.val = true →
    (s.linkUp p.val = true → ∃ t, exec (.hotReset p) s = .next t ∧ SameBut [.queue, .time] (s.portDown p.val causeHotReset) t) ∧
    (s.linkUp p.val = false → ∃ t, exec (.hotReset p) s = .next t ∧ SameBut [] s t)) ∧
  (∀ (s : State) (p : PortId), s.isHost p.val = false → ∃ t, exec (.hotReset p) s = .next t ∧ SameBut [] s t) ∧
  (∀ (s : State) (p : PortId), s.on (K.portIdeEnable p.val) = true → s.link p.val = .active →
    ∃ t, exec (.ideMacFailure p) s = .next t ∧
      SameBut [.queue, .time] ((s.portDown p.val causeLinkDown).occur (Src.port p.val 4)) t) ∧
  (∀ (s : State) (p : PortId), s.on (K.portIdeEnable p.val) = false ∨ s.link p.val ≠ .active →
    ∃ t, exec (.ideMacFailure p) s = .next t ∧ SameBut [] s t) ∧
  (∀ (s u : State) (e : JdpEnv) (args : List Byte), Triggered s e 0x2560 (fun s args => s.ideChecks args) args u →
    ∃ t, exec (.ideKeyRefresh e) s = .next t ∧ (t.port (fieldAt args 0 1)).ideKeys.isSome = true ∧
      SameBut [.ports, .freeCtr, .cmds, .mgmt, .out] s t) ∧
  (∀ (s : State) (n : TenantId) (p : PortId), s.tenantOfPort p.val = some n.val → s.on (K.portIdeEnable p.val) = true →
    s.link p.val = .active → ∃ t, exec (.ideKmRequest n p) s = .next t ∧ (t.port p.val).ideKeys.isSome = true ∧
      SameBut [.ports, .freeCtr, .out] s t) ∧
  (∀ (s : State) (p : PortId), s.link p.val = .down → s.trains p.val = true → s.canOccur (Src.port p.val 1) = true →
    (Tbl.getD s.onyx.pend (Src.port p.val 1) []).length < 255 →
    (∃ t, exec (.trainingAttemptFailure p) s = .next t ∧ Tbl.getD t.onyx.pend (Src.port p.val 1) []
        = Tbl.getD s.onyx.pend (Src.port p.val 1) [] ++ [plainReport (Src.port p.val 1)] ∧ SameBut [.onyx] s t) ∧
    (∃ t, exec (.detectNoReceiver p) s = .next t ∧ Tbl.getD t.onyx.pend (Src.port p.val 1) []
        = Tbl.getD s.onyx.pend (Src.port p.val 1) [] ++ [plainReport (Src.port p.val 1)] ∧ SameBut [.onyx] s t))

/-- A HOT_RESET takes a HOST port's link down and resets its tenant with cause 2; an integrity failure under IDE takes the
port down; IDE keys are set over IDE_KM in either role; the lanes of a Weuri link send a marker when one is due, the first after
each edge with the beat; a received marker without a good copy, or whose copies disagree, starts Recovery, one without SUB changes
nothing, and one with SUB is taken. That a marker's offset is taken modulo 65,536 and that the receiver takes the lane of a SUB from the
spare whatever lane our transmitter substitutes are the model's choices (log entry 68). -/
def Obligations.HotResetsMarkersAndIde : Prop :=
  (∀ (s : State) (p : PortId), s.isHost p.val = true →
    ∃ t, exec (.hotReset p) s = .next t ∧ SameBut [.queue, .time] (s.portDown p.val causeHotReset) t) ∧
  (∀ (s : State) (p : PortId), s.on (K.portIdeEnable p.val) = true → s.link p.val = .active →
    ∃ t, exec (.ideMacFailure p) s = .next t ∧
      SameBut [.queue, .time] ((s.portDown p.val causeLinkDown).occur (Src.port p.val 4)) t) ∧
  (∀ (s u : State) (e : JdpEnv) (args : List Byte), Triggered s e 0x2560 (fun s args => s.ideChecks args) args u →
    ∃ t, exec (.ideKeyRefresh e) s = .next t ∧ (t.port (fieldAt args 0 1)).ideKeys.isSome = true ∧
      .ideKm (fieldAt args 0 1) ∈ t.out ∧ (t.cmd 0x2560).state = .done ∧
      SameBut [.ports, .freeCtr, .cmds, .mgmt, .out] s t) ∧
  (∀ (s : State) (n : TenantId) (p : PortId), s.tenantOfPort p.val = some n.val → s.on (K.portIdeEnable p.val) = true →
    s.link p.val = .active →
    ∃ t, exec (.ideKmRequest n p) s = .next t ∧ (t.port p.val).ideKeys.isSome = true ∧ t.out = s.out ++ [.ideKm p.val] ∧
      SameBut [.ports, .freeCtr, .out] s t) ∧
  (∀ (s : State) (n : TenantId) (p : PortId), s.tenantOfPort p.val ≠ some n.val ∨ s.on (K.portIdeEnable p.val) = false ∨
    s.link p.val ≠ .active → ∃ t, exec (.ideKmRequest n p) s = .next t ∧ SameBut [] s t) ∧
  (∀ (s : State) (p : PortId), s.portMode p.val = 3 →
    (s.linksRun = true → s.carries p.val = true → 4096 ≤ (s.port p.val).flits →
      ∃ t, exec (.weuriMarkerTransmit p) s = .next t ∧
        t.out = s.out ++ (s.markerLanes p.val).map (fun k => .marker p.val k (markerWord k (s.port p.val).marker
          (s.port p.val).txSub (if s.beatGoes p.val = true ∧ (s.port p.val).markBeat ≠ some s.beat
            then some (s.beat, s.edgeOffset.1) else none))) ∧
        (t.port p.val).marker = ((s.port p.val).marker + 1) % 65536 ∧ (t.port p.val).flits = 0 ∧
        (s.beatGoes p.val = true → (t.port p.val).markBeat = some s.beat) ∧
        (∀ k, (s.port p.val).txSub = some k → t.r (K.portSubstitutedLane p.val) = k) ∧
        (∀ k, k ≠ K.portSubstitutedLane p.val → t.r k = s.r k) ∧ SameBut [.regs, .freeCtr, .ports, .out] s t) ∧
    (s.linksRun = false ∨ s.carries p.val = false ∨ (s.port p.val).flits < 4096 →
      ∃ t, exec (.weuriMarkerTransmit p) s = .next t ∧ SameBut [] s t) ∧
    (s.link p.val = .active → ∀ copies : List MarkerCopy,
      (s.goodCopies p.val copies = [] ∨
        (∃ c ∈ s.goodCopies p.val copies, ∃ d ∈ s.goodCopies p.val copies, markerKey c ≠ markerKey d) →
        ∃ t, exec (.weuriMarkerReceive p copies) s = .next t ∧ t.link p.val = .retraining ∧
          SameBut [.regs, .freeCtr, .ports, .onyx] s t) ∧
      (s.goodCopies p.val copies ≠ [] → (∀ c ∈ s.goodCopies p.val copies, bit (markerBits c) 87 = false) →
        (∀ c ∈ s.goodCopies p.val copies, ∀ d ∈ s.goodCopies p.val copies, markerKey c = markerKey d) →
        ∃ t, exec (.weuriMarkerReceive p copies) s = .next t ∧ SameBut [] s t) ∧
      (∀ c rest, s.goodCopies p.val copies = c :: rest → (∀ d ∈ rest, markerKey d = markerKey c) →
        bit (markerBits c) 87 = true → bits (markerBits c) 84 80 < 16 →
        ∃ t, exec (.weuriMarkerReceive p copies) s = .next t ∧
          SameBut [.queue, .time] (s.takeSub p.val (bits (markerBits c) 84 80)) t)))

/-- FLIT_RECEIVE on an ACTIVE port with 256-byte flits: the flit expected is accepted, one of the 511 before it is a duplicate,
one of the 510 after it is NAKed once, any other starts Recovery; a flit whose check fails is discarded, and on a link without
256-byte flits asked for again at once. A Weuri marker that is due leaves before the next flit, and one received without a good copy starts
Recovery. -/
def Obligations.FlitsAreTakenInSequence : Prop :=
  (∀ (s : State) (p : PortId) (q : Fin 4096) (data fixed d : Nat), s.link p.val = .active → 2 ≤ s.format p.val →
    d = (q.val % 1024 + 1024 - (s.port p.val).expect) % 1024 → (s.port p.val).expect < 1024 →
    (d = 0 → ∃ t, exec (.flitReceive p q true data fixed) s = .next t ∧
      (t.port p.val).expect = ((s.port p.val).expect + 1) % 1024 ∧ (t.port p.val).nakInForce = false ∧
      (t.port p.val).ackDue = true ∧ SameBut [.regs, .freeCtr, .tel, .ports] s t) ∧
    (513 ≤ d → ∃ t, exec (.flitReceive p q true data fixed) s = .next t ∧
      (t.port p.val).expect = (s.port p.val).expect ∧ (t.port p.val).ackDue = true ∧
      (s.r (K.portDuplicatesDiscarded p.val) + 1 < 2 ^ Schema.width (K.portDuplicatesDiscarded p.val) →
        t.r (K.portDuplicatesDiscarded p.val) = s.r (K.portDuplicatesDiscarded p.val) + 1) ∧
      SameBut [.regs, .freeCtr, .tel, .ports] s t) ∧
    (s.linksRun = true → 1 ≤ d → d ≤ 510 → (s.port p.val).nakInForce = false → ∃ t, exec (.flitReceive p q true data fixed) s = .next t ∧
      t.out = s.out ++ [.nak p.val (((s.port p.val).expect + 1023) % 1024)] ∧ (t.port p.val).nakInForce = true ∧
      (t.port p.val).expect = (s.port p.val).expect ∧ SameBut [.regs, .freeCtr, .tel, .ports, .out] s t) ∧
    (1 ≤ d → d ≤ 510 → (s.port p.val).nakInForce = true → ∃ t, exec (.flitReceive p q true data fixed) s = .next t ∧
      SameBut [.regs, .freeCtr, .tel] s t) ∧
    (d = 511 ∨ d = 512 → ∃ t, exec (.flitReceive p q true data fixed) s = .next t ∧ t.link p.val = .retraining ∧
      (s.r (K.portSequenceErrors p.val) + 1 < 2 ^ Schema.width (K.portSequenceErrors p.val) →
        t.r (K.portSequenceErrors p.val) = s.r (K.portSequenceErrors p.val) + 1) ∧
      SameBut [.regs, .freeCtr, .tel, .ports, .onyx] s t) ∧
    (∃ t, exec (.flitReceive p q false data fixed) s = .next t ∧ t.ports = s.ports ∧ SameBut [.regs, .freeCtr, .tel] s t)) ∧
  (∀ (s : State) (p : PortId), s.linksRun = true → s.carries p.val = true → s.markerDue p.val = true →
    ∃ t, exec (.weuriMarkerTransmit p) s = .next t ∧ (t.port p.val).flits = 0 ∧
      (t.port p.val).marker = ((s.port p.val).marker + 1) % 65536 ∧ SameBut [.regs, .freeCtr, .ports, .out] s t) ∧
  (∀ (s : State) (p : PortId) (copies : List MarkerCopy), s.portMode p.val = 3 → s.link p.val = .active →
    s.goodCopies p.val copies = [] → ∃ t, exec (.weuriMarkerReceive p copies) s = .next t ∧ t.link p.val = .retraining ∧
      SameBut [.regs, .freeCtr, .ports, .onyx] s t) ∧
  (∀ (s : State) (p : PortId) (q : Fin 4096) (data fixed m : Nat), s.linksRun = true → s.link p.val = .active → s.format p.val ≤ 1 →
    m = seqMod (s.format p.val) → (s.port p.val).nakInForce = false →
    ∃ t, exec (.flitReceive p q false data fixed) s = .next t ∧
      t.out = s.out ++ [.nak p.val (((s.port p.val).expect + m - 1) % m)] ∧ (t.port p.val).nakInForce = true ∧
      (t.port p.val).expect = (s.port p.val).expect ∧ SameBut [.regs, .freeCtr, .tel, .ports, .out] s t)

/-- Acknowledgements release the flits up to theirs; after a NAK the rest wait to be replayed, or the first of them alone where
PCIe's selective NAK asks for it, and after the timer all of them; the fourth replay of one flit starts Recovery; credits grow
to the partner's counts, and a channel without credits for too long starts Recovery. -/
def Obligations.ReplayAndCredits : Prop :=
  (∀ (s : State) (p : PortId) (q : Fin 4096) (n : Nat) (one : Bool), s.link p.val = .active →
    (s.port p.val).place (seqMod (s.format p.val)) q.val = .held n →
    (∃ t, exec (.ackReceive p q) s = .next t ∧ (t.port p.val).outstanding = (s.port p.val).outstanding.drop n ∧
      (t.port p.val).replays = 0 ∧ SameBut [.regs, .freeCtr, .ports] s t) ∧
    (∃ t, exec (.nakReceive p ⟨q, one⟩) s = .next t ∧ (t.port p.val).outstanding = (s.port p.val).outstanding.drop n ∧
      (t.port p.val).resend = (if one = true ∧ s.portMode p.val = 1 ∧ s.format p.val = 2
        then ((s.port p.val).outstanding.drop n).take 1 else (s.port p.val).outstanding.drop n).map (·.sequence) ∧
      t.link p.val = .active ∧ SameBut [.regs, .freeCtr, .ports] s t)) ∧
  (∀ (s : State) (p : PortId) (q : Fin 4096) (one : Bool), s.link p.val = .active →
    (s.port p.val).place (seqMod (s.format p.val)) q.val = .unsent →
    (∃ t, exec (.ackReceive p q) s = .next t ∧ t.link p.val = .retraining ∧ SameBut [.regs, .freeCtr, .ports, .onyx] s t) ∧
    (∃ t, exec (.nakReceive p ⟨q, one⟩) s = .next t ∧ t.link p.val = .retraining ∧
      SameBut [.regs, .freeCtr, .ports, .onyx] s t)) ∧
  (∀ (s : State) (p : PortId), s.linksRun = true → s.link p.val = .active → s.replayDue p.val = true →
    ∃ t, exec (.replayTimerExpiry p) s = .next t ∧ (t.port p.val).outstanding = (s.port p.val).outstanding ∧
      ((s.port p.val).replays ≠ 3 → t.link p.val = .active ∧ (t.port p.val).replays = (s.port p.val).replays + 1 ∧
        (t.port p.val).resend = (s.port p.val).outstanding.map (·.sequence)) ∧
      ((s.port p.val).replays = 3 → t.link p.val = .retraining) ∧
      SameBut [.regs, .freeCtr, .ports, .onyx] s t) ∧
  (∀ (s : State) (p : PortId), s.replayDue p.val = false →
    ∃ t, exec (.replayTimerExpiry p) s = .next t ∧ SameBut [] s t) ∧
  (∀ (s : State) (p : PortId) (c : Chan) (h d : Credits), s.link p.val = .active →
    ∃ t, exec (.creditUpdateReceive p c h d) s = .next t ∧ Tbl.getD (t.port p.val).credits (chanNum c) (0, 0) =
        (max (Tbl.getD (s.port p.val).credits (chanNum c) (0, 0)).1 h.dedicated,
         max (Tbl.getD (s.port p.val).credits (chanNum c) (0, 0)).2 d.dedicated) ∧
      Tbl.getD (t.port p.val).shared (chanNum c) (0, 0) =
        (max (Tbl.getD (s.port p.val).shared (chanNum c) (0, 0)).1 h.shared,
         max (Tbl.getD (s.port p.val).shared (chanNum c) (0, 0)).2 d.shared) ∧ SameBut [.ports, .tel] s t) ∧
  (∀ (s : State) (p : PortId), s.linksRun = true → s.link p.val = .active → ∃ t, exec (.creditUpdateRepeat p) s = .next t ∧
    t.out = s.out ++ (s.port p.val).granted.map (fun g => .creditUpdate p.val g.1 g.2.1 g.2.2) ∧ SameBut [.out] s t) ∧
  (∀ (s : State) (p : PortId) (c : Chan) (n k : Nat), s.link p.val = .active →
    Tbl.find (s.port p.val).creditTimer (chanNum c) = some (n, k) → Tbl.find (s.port p.val).lastTimeout (chanNum c) = none →
    (n + s.r (K.portCreditTimeout p.val)) * 1024 + k ≤ s.beat * 1024 + s.tick →
    ∃ t, exec (.creditTimeout p c) s = .next t ∧ t.link p.val = .retraining ∧
      Tbl.find (t.port p.val).creditTimer (chanNum c) = none ∧ SameBut [.regs, .freeCtr, .ports, .onyx, .tel] s t)

/-! ## Ingress, the core and egress (06, 07, 09) -/

/-- MEM_REQUEST_INGRESS: a BIRsp enters its receive buffer towards the home of its line; a request waits while its tenant is not
ACTIVE; at the head of its channel it is looked up, and goes on with what the lookup found, or waits for the entry that it missed; one
that no stream samples is answered without a device where its tenant cannot reach its VMD, and issues a refill where its slice holds
no line of its entry. -/
def Obligations.RequestsAreTranslatedInTurn : Prop :=
  ∀ (s : State) (p : PortId) (q : MemReq) (key n : Nat), s.linksRun = true → s.carries p.val = true →
    s.isHost p.val = true → s.portMode p.val ≠ 1 → s.tenantOfPort p.val = some n →
    key = 16 * p.val + chanNum (memOpChan q.op) →
    (∀ (r : Fin 256) (line : Nat) (keeps : BiState), q.op = .biRsp r line keeps →
      ∃ t m, exec (.memRequestIngress p q) s = .next t ∧ Tbl.getD t.core.rxq key [] = Tbl.getD s.core.rxq key [] ++ [m] ∧
        m.kind = .biRsp r.val line keeps ∧ m.cls = .bi ∧ m.tenant = n ∧ m.dst = 96 + line % 8 ∧ SameBut [.core] s t) ∧
    (∀ (u : State) (l : Option (Nat × Nat)) (w : WaitReq), (∀ r line keeps, q.op ≠ .biRsp r line keeps) →
      s.sampleTransaction (s.transactionOf q p.val n) = (l, u) → w = { req := q, sample := l } →
      (s.tenantState n ≠ .active →
        ∃ t, exec (.memRequestIngress p q) s = .next t ∧ t.waiting key = s.waiting key ++ [w] ∧
          SameBut [.beryl, .queue, .time] u t) ∧
      (s.tenantState n = .active → s.forwarding = true → s.waiting key = [] →
        ∀ (go : Bool) (x : WaitReq) (v : State), (u.setWaiting key [w]).lookup p.val n w = (go, x, v) →
        (∀ z, (v.setWaiting key [x]).unplaced p.val n x = some z →
          ∃ t, exec (.memRequestIngress p q) s = .next t ∧ t.waiting key = [] ∧ SameBut [.beryl, .queue, .time] z t) ∧
        ((v.setWaiting key [x]).unplaced p.val n x = none → x.plan = none ∨ x.got = none →
          ∃ t, exec (.memRequestIngress p q) s = .next t ∧ t.waiting key = [x] ∧ SameBut [.beryl, .queue, .time] v t) ∧
        (∀ pl ecc, (v.setWaiting key [x]).unplaced p.val n x = none → x.plan = some pl → x.got = some ecc →
          ∃ t, exec (.memRequestIngress p q) s = .next t ∧
            SameBut [.queue, .time] (((v.setWaiting key [x]).perform p.val n q pl ecc).setWaiting key []) t))) ∧
    (s.tenantState n = .active → s.forwarding = true → s.waiting key = [] → (∀ r line keeps, q.op ≠ .biRsp r line keeps) →
      (∀ a, q.op ≠ .atomic a) →
      (∀ k, k < 16 → streamMatches (s.r (K.telStreamConfig + k)) n p.val (memOpStream q.op) = false) →
      (q.vmd.val / 16 ≠ n ∨ s.vmdReachable q.vmd.val = false →
        ∃ t, exec (.memRequestIngress p q) s = .next t ∧ t.waiting key = [] ∧
          SameBut [.beryl, .queue, .time] ((((s.setWaiting key [{ req := q }]).answerNo (s.requestMsg p.val n q).src
            (s.requestMsg p.val n q)).reportIo n 32 errUnsupported (s.requestMsg p.val n q)).freeArrival
              (s.requestMsg p.val n q)) t) ∧
      (∀ i d o, q.vmd.val / 16 = n → s.vmdReachable q.vmd.val = true →
        (findWindow q.dpa (s.vmd q.vmd.val).windows 0 0).isSome = true → s.locate q = (i, d, o) →
        (s.cacheLines (s.requestMsg p.val n q).src).find? (fun c => decide (c.index = i) && decide (c.descriptor = d)) = none →
        s.beryl.refills.filter (fun r => decide (r.slice = (s.requestMsg p.val n q).src)) = [] →
        ∃ t x pl, exec (.memRequestIngress p q) s = .next t ∧ t.waiting key = [x] ∧ x.req = q ∧ x.counted = true ∧
          x.plan = some pl ∧ pl.index = i ∧ pl.entry = s.entry i ∧ x.got = none ∧
          t.beryl.refills = s.beryl.refills ++ [{ slice := (s.requestMsg p.val n q).src, index := i, descriptor := d }] ∧
          SameBut [.beryl, .regs, .freeCtr, .tel] s t))

/-- EXTENT_CACHE_REFILL stores the entry that came back sound, and one that a boundary has passed over it does not store; TLP_INGRESS
of a device bound whole enters the receive buffer of its channel towards its tenant's port, a peer-to-peer one goes to its peer as an
access of its tenant, and one that its ACS forbids is answered at ingress (which ACS controls act is the model's reading: log entry
58); a TLP of a host waits while its tenant is not ACTIVE, and a posted TLP for an empty vPPB is discarded, its credits returned;
INGRESS_STAGING_ENTRY moves a response from the head of its channel into staging. -/
def Obligations.EntriesTlpsAndResponsesEnter : Prop :=
  (∀ (s : State) (sl : SliceId) (e ns : Nat) (r : Refill),
    s.beryl.refills.find? (fun r => decide (r.slice = sl.val) && decide (r.index = e)) = some r →
    s.beryl.waiting = [] → e ∉ s.beryl.errors → entState (s.entry e) ≠ 0 →
    ∃ t, exec (.extentCacheRefill sl e false false ns) s = .next t ∧ t.beryl.refills = s.beryl.refills.erase r ∧
      (r.stale = false → (t.cacheLines sl.val).head?
        = some { index := e, descriptor := r.descriptor, entry := s.entry e }) ∧
      (r.stale = true → t.beryl.cache = s.beryl.cache) ∧ SameBut [.beryl] s t) ∧
  (∀ (s : State) (p : PortId) (q : TlpReq) (n b k : Nat), s.linksRun = true → s.carries p.val = true →
    s.isDevice p.val = true → s.tenantOfDevice p.val = some n → s.tenantState n = .active →
    (∀ c, q.kind = .cache c → s.portMode p.val = 2) → b = s.vppbOfPort n p.val → k = 16 * p.val + tlpChan q.kind false →
    (s.acsViolated n b q = false → q.peer = false ∨ s.acsRedirects n b q = true →
      ∃ t, exec (.tlpIngress p q) s = .next t ∧ Tbl.getD t.core.rxq k [] =
        Tbl.getD s.core.rxq k [] ++ [s.tlpMsg p.val n (s.r (K.tenantPrimaryPort n)) q] ∧ SameBut [.core] s t) ∧
    (∀ d, s.acsViolated n b q = false → q.peer = true → s.acsRedirects n b q = false → s.boundPort n q.vppb.val = some d →
      s.refusesTraffic d = false →
      ∃ t, exec (.tlpIngress p q) s = .next t ∧
        SameBut [.queue, .time] (s.tlpToDevice p.val n d q (s.tlpMsg p.val n d q)) t) ∧
    (∀ m, s.acsViolated n b q = true → m = s.tlpMsg p.val n p.val q →
      ∃ t, exec (.tlpIngress p q) s = .next t ∧
        SameBut [.queue, .time] (((s.freeArrival m).answerAbort m.src m).reportIo n b errAcs m) t)) ∧
  (∀ (s u : State) (p : PortId) (q : TlpReq) (n : Nat) (l : Option (Nat × Nat)), s.linksRun = true → s.carries p.val = true →
    s.isHost p.val = true → s.tenantOfPort p.val = some n → (∀ c, q.kind = .cache c → s.portMode p.val = 2) →
    s.offerTlp p.val n q = (l, u) →
    (s.tenantState n ≠ .active → ∃ t, exec (.tlpIngress p q) s = .next t ∧ t.tlpq p.val = s.tlpq p.val ++ [(q, l)] ∧
      SameBut [.core, .queue, .time] u t) ∧
    (∀ g : Nat × Nat, s.tenantState n = .active → s.tlpq p.val = [] → s.r (K.tenantPrimaryPort n) = p.val → q.own = false →
      q.kind = .memWrite → s.boundPort n q.vppb.val = none → g = Tbl.getD (s.port p.val).granted 0 (0, 0) →
      ∃ t, exec (.tlpIngress p q) s = .next t ∧ t.tlpq p.val = [] ∧ t.core.rxq = s.core.rxq ∧
        t.out = s.out ++ [.creditUpdate p.val 0 (g.1 + 1) (g.2 + (s.tlpMsg p.val n p.val q).dataUnits),
          .errorMessage n q.vppb.val errUnsupported] ∧
        SameBut [.core, .onyx, .tel, .regs, .freeCtr, .tenants, .ports, .out] s t)) ∧
  (∀ (s : State) (p : PortId) (c : Chan) (m n : Msg) (rest : List Msg) (cells : List Cell), s.forwarding = true →
    s.isHost p.val = false → s.activeTenant p.val = none → isRequestChan (chanNum c) = false →
    Tbl.getD s.core.rxq (16 * p.val + chanNum c) [] = m :: rest → m.sent = 0 → m.cls.isRequest = false →
    m.isAcquire = false → s.flowBusy (16 * p.val + chanNum c) m = false →
    (∀ h, h < 2 → Tbl.getD s.core.rxq (ownKey m.src h) [] = []) →
    packMsg (s.staging m.src) (s.stagingHalf p.val)
      (s.stagingRoom m.src (s.stagingHalf p.val) m) m = (cells, n) → n.sent ≠ 0 → n.bytes ≤ n.sent →
    ∃ t, exec (.ingressStagingEntry p c) s = .next t ∧ t.staging m.src = cells ∧
      Tbl.getD t.core.rxq (16 * p.val + chanNum c) [] = rest ∧ SameBut [.core] s t)

/-- The core: in a slot that its input has not used, stage one sends the chosen cell of the input towards the middle of the slot,
with the next Sequence of its flow; the cell joins its queue there, after every cell that was sent before it has arrived; stage two sends the first head that its output can take;
the output puts it into the window. A slot that has been used moves nothing. -/
def Obligations.CellsCrossTheCore : Prop :=
  (∀ (s : State) (i : SliceId) (slot m : Nat) (c : Cell), s.forwarding = true → s.slotOpen i.val slot = true →
    s.core.frames = [] → m = (i.val + slot) % 48 → s.stageOnePick i.val m slot = some c →
    (∀ h, h < 2 → Tbl.getD s.core.rxq (ownKey i.val h) [] = []) →
    ∃ t d, exec (.stageOneSend i slot) s = .next t ∧ t.staging i.val = (s.staging i.val).erase c ∧
      Tbl.getD t.core.flight1 m [] = Tbl.getD s.core.flight1 m [] ++ [d] ∧ d.msgs = c.msgs ∧ d.dst = c.dst ∧
      d.payload = c.payload ∧ d.sequence = Tbl.getD s.core.nextSeq c.flow 0 ∧
      Tbl.getD t.core.nextSeq c.flow 0 = (Tbl.getD s.core.nextSeq c.flow 0 + 1) % 65536 ∧
      t.slotOpen i.val slot = false ∧ SameBut [.core, .tel, .ports, .out] s t) ∧
  (∀ (s : State) (i : SliceId) (slot : Nat), s.slotOpen i.val slot = false →
    ∃ t, exec (.stageOneSend i slot) s = .next t ∧ SameBut [] s t) ∧
  (∀ (s : State) (m : SliceId) (c : Cell) (rest : List Cell), Tbl.getD s.core.flight1 m.val [] = c :: rest →
    s.on K.coreExpressEnable = false →
    (∀ a, s.arrivesNext c.slot = true → s.areaFor m.val c = some a → ∃ t x, exec (.poolCellArrival m) s = .next t ∧
      Tbl.getD t.core.flight1 m.val [] = rest ∧
      t.voq m.val c.dst c.cls.num = s.voq m.val c.dst c.cls.num ++ [x] ∧ x.area = a ∧
      x.cell = { c with held := some (m.val, x.number) } ∧ SameBut [.core, .tel] s t) ∧
    (s.arrivesNext c.slot = false ∨ s.areaFor m.val c = none → ∃ t, exec (.poolCellArrival m) s = .next t ∧ SameBut [] s t)) ∧
  (∀ (s : State) (m : SliceId) (slot o p : Nat) (c : Cls) (x : Cell), s.forwarding = true →
    s.slotOpen (48 + m.val) slot = true → s.core.injectWait = [] → o = (m.val + slot) % 48 → s.domain (o / 2) = .on →
    (s.stageTwoHeads m.val o).find? (fun h => s.readable o h.2.2) = some (p, c, x) →
    ∃ t, exec (.stageTwoRead m slot) s = .next t ∧
      Tbl.getD t.core.flight2 o [] = Tbl.getD s.core.flight2 o [] ++ [x] ∧
      t.voq m.val p c.num = (s.voq m.val p c.num).drop 1 ∧ SameBut [.core] s t) ∧
  (∀ (s : State) (o : SliceId) (c : Cell) (rest : List Cell), Tbl.getD s.core.flight2 o.val [] = c :: rest →
    ((c.sequence + 65536 - s.expected c.flow) % 65536 < 32768 → ∃ t, exec (.resequencingArrival o) s = .next t ∧
      Tbl.getD t.core.flight2 o.val [] = rest ∧
      Tbl.getD t.core.window o.val [] = Tbl.getD s.core.window o.val [] ++ [{ c with waited := !s.releasable c }] ∧ SameBut [.core, .regs] s t) ∧
    (32768 ≤ (c.sequence + 65536 - s.expected c.flow) % 65536 → ∃ t, exec (.resequencingArrival o) s = .next t ∧
      Tbl.getD t.core.flight2 o.val [] = rest ∧ t.core.window = s.core.window ∧ SameBut [.core, .onyx] s t))

/-- A cell in its turn, for which its port has room, leaves the window: its response messages enter the egress buffer of its port,
or, where its header fails its check, go nowhere; an internal destination that does not refuse takes the messages of a head that
is next in sequence; a confirmed cell is free; the auditor reclaims a leaked cell within its window, and notes a segment
abandoned at tick 1,023. Which of several releasable cells leaves first, and which locks a unit counts before it refuses, are the model's
choices (log entry 65). -/
def Obligations.CellsAreReleasedAndFreed : Prop :=
  (∀ (s : State) (o : SliceId) (c : Cell) (h : BitVec 128) (e : BitVec 1920),
    (Tbl.getD s.core.window o.val []).find? s.ready = some c →
    (c.cls = .memRsp → (∀ m ∈ c.msgs, m.cls = .memRsp ∧ s.staleMsg m = false) → s.core.tainted = [] →
      s.core.dropping = [] → (s.port c.dst).retiredPort = false → c.headCont = false → c.tail = none →
      sumOf (c.msgs.map (·.bytes)) ≠ 0 → c.headerPasses h.toNat = true → c.payloadPasses h.toNat e.toNat = true →
      ∃ t d, exec (.cellRelease o h e) s = .next t ∧ Tbl.getD t.core.window o.val []
          = (Tbl.getD s.core.window o.val []).erase c ∧ t.expected c.flow = (s.expected c.flow + 1) % 65536 ∧
        (t.egress c.dst).memRsp.map (·.cell) = (s.egress c.dst).memRsp.map (·.cell) ++ [d] ∧ d.msgs = c.msgs ∧
        SameBut [.core, .ports, .tel] s t) ∧
    (c.headerPasses h.toNat = false →
      ∃ t, exec (.cellRelease o h e) s = .next t ∧ t.expected c.flow = (s.expected c.flow + 1) % 65536 ∧
        t.core.egress = s.core.egress ∧ SameBut [.core, .regs, .freeCtr, .onyx] s t)) ∧
  (∀ (s : State) (k : Fin 13) (m : SliceId) (c : Cell) (rest : List Cell) (h : BitVec 128) (e : BitVec 1920),
    s.forwarding = true → dieOf (96 + k.val) = m.val % 2 → s.core.tainted = [] →
    classOrder.filterMap (fun c => match s.voq m.val (96 + k.val) c.num with
      | x :: _ => if x.cell.sequence = s.expected x.cell.flow && !s.unitRefuses k.val c then some x.cell else none
      | [] => none) = c :: rest →
    (∀ x ∈ c.msgs, s.staleIn c x = false) → c.headerPasses h.toNat = true → c.payloadPasses h.toNat e.toNat = true →
    ∃ t, exec (.internalDestinationTake k m h e) s = .next t ∧ t.inbox k.val = s.inbox k.val ++ c.msgs ∧
      t.expected c.flow = (s.expected c.flow + 1) % 65536 ∧ SameBut [.core] s t) ∧
  (∀ (s : State) (m : SliceId) (x : PoolCell) (rest : List PoolCell), s.poolDelivered m.val = x :: rest →
    ∃ t, exec (.deliveredCellFree m) s = .next t ∧ (∀ y ∈ t.poolDelivered m.val, y.number ≠ x.number) ∧
      SameBut [.core] s t) ∧
  (∀ (s : State) (m : SliceId) (x : PoolCell), s.tick < s.quartz.cutoff → s.segmentDone m.val = false →
    s.core.voq = [] → s.poolDelivered m.val = [x] → s.beat % 64 ≠ 63 →
    inSegment s.beat x.number = true → 2 ≤ (s.beat + 65536 - x.stamp) % 65536 →
    ∃ t, exec (.auditSegment m []) s = .next t ∧ t.poolDelivered m.val = [] ∧ t.segmentDone m.val = true ∧
      (s.r K.coreCtrLeaksReclaimed + 1 < 2 ^ Schema.width K.coreCtrLeaksReclaimed →
        t.r K.coreCtrLeaksReclaimed = s.r K.coreCtrLeaksReclaimed + 1) ∧ SameBut [.core, .regs, .freeCtr, .onyx] s t) ∧
  (∀ (s : State) (m : SliceId), 1023 ≤ s.tick → s.segmentDone m.val = false →
    ∃ t, exec (.auditSegmentAbandon m) s = .next t ∧ t.segmentDone m.val = true ∧
      (s.beat % 64 ≠ 63 → m.val ∈ t.core.sweepBroken) ∧ SameBut [.core, .regs, .freeCtr, .onyx] s t)

/-- EGRESS_TRANSMIT_DECISION on a port that carries traffic, at a flit boundary that is no marker's: a replay in progress goes
first, then link control, then an eligible cell of the highest level, which leaves as the next 256-byte flit, on a Weuri link over the
lanes that carry its bytes, and stays outstanding; a full replay window sends no payload, and a port without an eligible cell sends none. QUEUE_SAMPLE adds one sample to each of
the port's 67 queues. -/
def Obligations.EgressSendsTheEligibleCell : Prop :=
  (∀ (s : State) (p : PortId), s.linksRun = true → s.carries p.val = true → s.markerDue p.val = false →
    (∀ f rest, (s.port p.val).resend = f.sequence :: rest →
      (s.port p.val).outstanding.find? (fun g => decide (g.sequence = f.sequence)) = some f →
      ∃ t, exec (.egressTransmitDecision p) s = .next t ∧ (t.port p.val).resend = rest ∧
        (t.port p.val).outstanding = (s.port p.val).outstanding ∧ .flit p.val f.sequence f.payload (s.stripes p.val) ∈ t.out ∧
        SameBut [.ports, .out, .tel] s t) ∧
    ((s.port p.val).resend = [] →
      (∀ o rest, (s.egress p.val).control = .carry o :: rest →
        ∃ t, exec (.egressTransmitDecision p) s = .next t ∧ (t.egress p.val).control = rest ∧ o ∈ t.out ∧ SameBut [.core, .ports, .out, .tel] s t) ∧
      ((s.egress p.val).control = [] → s.forwarding = true → (s.port p.val).reissues = [] → 2 ≤ s.format p.val →
        (∀ x, s.eligible p.val (s.egress p.val).bi = some x → x.cell.cls = .bi →
          ((s.port p.val).outstanding.length < s.r (K.portReplayWindow p.val) →
            ∃ t, exec (.egressTransmitDecision p) s = .next t ∧
              (t.egress p.val).bi = (s.egress p.val).bi.filter (fun y => decide (y.order ≠ x.order)) ∧
              (t.port p.val).outstanding = (s.port p.val).outstanding ++
                [{ sequence := (s.port p.val).nextTx, payload := x.cell.valid, msgs := x.cell.msgs, sentBeat := s.beat,
                   sentTick := s.tick }] ∧
              (t.port p.val).nextTx = ((s.port p.val).nextTx + 1) % seqMod (s.format p.val) ∧
              (t.port p.val).replayRunning = true ∧
              .flit p.val (s.port p.val).nextTx x.cell.valid (s.stripes p.val) ∈ t.out ∧ SameBut [.core, .ports, .out, .tel] s t) ∧
          (s.r (K.portReplayWindow p.val) ≤ (s.port p.val).outstanding.length →
            ∃ t, exec (.egressTransmitDecision p) s = .next t ∧ (t.port p.val).outstanding = (s.port p.val).outstanding ∧
              (t.port p.val).stalledAt.isSome = true ∧ SameBut [.ports, .out, .tel] s t)) ∧
        ((s.egress p.val).bi = [] → (s.egress p.val).memRsp = [] → (s.egress p.val).ioCpl = [] →
          (s.egress p.val).members = [] →
          ∃ t, exec (.egressTransmitDecision p) s = .next t ∧ (t.port p.val).outstanding = (s.port p.val).outstanding ∧
            SameBut [.ports, .out, .tel] s t)))) ∧
  (∀ (s : State) (p : PortId), s.linksRun = false ∨ s.carries p.val = false ∨ s.markerDue p.val = true →
    ∃ t, exec (.egressTransmitDecision p) s = .next t ∧ SameBut [] s t) ∧
  (∀ (s : State) (p : PortId) (q : Nat), q < 67 → ∃ t, exec (.queueSample p) s = .next t ∧
    (Tbl.getD (t.egress p.val).acc q {}).samples = (Tbl.getD (s.egress p.val).acc q {}).samples + 1 ∧
    (t.egress p.val).bi = (s.egress p.val).bi ∧ SameBut [.core] s t)

/-! ## Tenants and virtual memory devices (08, 09) -/

/-- TENANT_RESET: the tenant is RESETTING with a new generation, its cause and its time, and every home slice has to be swept;
each DIRECTORY_SWEEP_COMPLETE takes one off; TENANT_CLEANUP_END makes the tenant ACTIVE or DOWN by its primary port. -/
def Obligations.TenantsResetAndReturn : Prop :=
  (∀ (s u : State) (e : JdpEnv) (args : List Byte) (n : Nat), Triggered s e 0x3040 (fun s args => s.tenantResetChecks args) args u →
    n = fieldAt args 0 1 → (∀ p ∈ s.tenantPorts n, s.linkUp p = false) → s.garnet.trans = [] → s.core.staging = [] →
    s.core.rxq = [] → s.on (K.tenantResetPropagate n) = false → (s.tenant n).genWaits = 0 →
    s.tagCarries n ((s.r (K.tenantGeneration n) + 1) % 65536) = false →
    ∃ t, exec (.tenantReset e) s = .next t ∧ t.tenantState n = .resetting ∧
      t.r (K.tenantGeneration n) = (s.r (K.tenantGeneration n) + 1) % 65536 ∧ t.r (K.tenantLastResetCause n) = 3 ∧
      t.r (K.tenantLastResetAt n) = beatVal s.beat s.tick ∧ (∀ h, h < 8 → (h, n) ∈ t.garnet.sweeping) ∧
      (t.cmd 0x3040).state = .done ∧
      SameBut [.regs, .freeCtr, .tenants, .vmds, .garnet, .beryl, .tel, .core, .onyx, .cmds, .mgmt, .out] s t) ∧
  (∀ (s : State) (h : HomeId) (n : TenantId), (h.val, n.val) ∈ s.garnet.sweeping →
    ∃ t, exec (.directorySweepComplete h n) s = .next t ∧ (h.val, n.val) ∉ t.garnet.sweeping) ∧
  (∀ (s : State) (n : TenantId), s.tenantState n.val = .resetting → (∀ x ∈ s.garnet.sweeping, x.2 ≠ n.val) →
    s.stagingClear n.val = true → (s.tenant n.val).genWaits = 0 → s.r (K.tenantPrimaryPort n.val) < 96 →
    ∃ t, exec (.tenantCleanupEnd n) s = .next t ∧
      t.tenantState n.val = (if s.link (s.r (K.tenantPrimaryPort n.val)) = .active then .active else .down) ∧
      (∀ k, k ≠ K.tenantState n.val → k ≠ K.tenantCleanupTime n.val → t.r k = s.r k) ∧ SameBut [.regs] s t)

/-- COMPLETION_RECEIVE: a completion of the present generation frees its tag and joins the receive buffer for its host, its attributes
as they came; one of an older generation frees its tag and goes nowhere; both also where it comes back by another link of the fabric; an unknown tag changes nothing. -/
def Obligations.CompletionsMatchTheirTags : Prop :=
  (∀ (s : State) (p : PortId) (d : Nat) (x : CplBody) (poisoned : Bool) (g : Tag) (k : MsgKind) (c : Cls) (ch : Chan),
    Tbl.find s.core.tags d = some g → g.outPort = p.val ∨ (s.isFabric p.val = true ∧ s.isFabric g.outPort = true) →
    s.carries p.val = true → g.sentDown = true → tagUnit g = none → g.msg.transit = false →
    answerKind g.msg.kind true = (k, c, ch) →
    (s.staleTag g = false → ∃ t m, exec (.completionReceive p d x poisoned true) s = .next t ∧
      Tbl.find t.core.tags d = none ∧ Tbl.getD t.core.rxq (16 * p.val + chanNum ch) []
        = Tbl.getD s.core.rxq (16 * p.val + chanNum ch) [] ++ [m] ∧
      m.kind = k ∧ m.dst = g.hostPort ∧ m.hostTag = g.hostTag ∧ m.data = x.data ∧ m.attrs = x.attrs ∧ m.poison = poisoned ∧
      SameBut [.core, .regs] s t) ∧
    (s.staleTag g = true → (s.tenant g.tenant).genWaits = 0 → (∀ v, g.vmd = some v → (s.vmd v).genWaits = 0) →
      ∃ t, exec (.completionReceive p d x poisoned true) s = .next t ∧ Tbl.find t.core.tags d = none ∧
        t.core.rxq = s.core.rxq ∧ SameBut [.core, .regs, .freeCtr, .ports, .out] s t)) ∧
  (∀ (s : State) (p : PortId) (d : Nat) (x : CplBody) (poisoned good : Bool), Tbl.find s.core.tags d = none →
    ∃ t, exec (.completionReceive p d x poisoned good) s = .next t ∧ SameBut [] s t)

/-- The emulated slots and presented objects: PowerOff follows the tenant's write; an attention press sets AttentionPending and
Attention Button Pressed, and interrupts the host where its Slot Control enables it; its acknowledgement clears both; an HDM decoder is committed once its windows are written, and waits before; event records are
cleared by handle, or all of them. -/
def Obligations.PresentedObjectsFollowTheirHost : Prop :=
  (∀ (s : State) (n : TenantId) (b : Fin 32) (off : Bool), s.mgmt.fmOp = .none →
    ∃ t, exec (.emulatedPowerControlWrite n b off) s = .next t ∧
      (t.r (K.tenantVppbStatus n.val + b.val)).testBit 45 = off ∧
      (off = true → (t.r (K.tenantVppbStatus n.val + b.val)).testBit 44 = false) ∧
      (∀ k, k ≠ K.tenantVppbStatus n.val + b.val → t.r k = s.r k) ∧ SameBut [.regs, .onyx] s t) ∧
  (∀ (s u : State) (e : JdpEnv) (args : List Byte) (k : Nat), Triggered s e 0x3041 (fun _ args => attentionChecks args) args u →
    k = K.tenantVppbStatus (fieldAt args 0 1) + fieldAt args 1 1 →
    ∃ t, exec (.attentionPress e) s = .next t ∧ (t.r k).testBit 44 = true ∧ (∀ j, j ≠ k → t.r j = s.r j) ∧
      bit (Tbl.getD (t.tenant (fieldAt args 0 1)).slotStatus (fieldAt args 1 1) 0) 0 = true ∧
      (∀ c, c = Tbl.getD (s.tenant (fieldAt args 0 1)).slotControl (fieldAt args 1 1) 0 →
        (bit c 5 = true → bit c 0 = true → .hotPlugInterrupt (fieldAt args 0 1) (fieldAt args 1 1) ∈ t.out) ∧
        (bit c 5 = false ∨ bit c 0 = false →
          (t.tenant (fieldAt args 0 1)).hotPlugs = (s.tenant (fieldAt args 0 1)).hotPlugs)) ∧
      (t.cmd 0x3041).state = .done ∧
      SameBut [.regs, .tenants, .cmds, .mgmt, .out] s t) ∧
  (∀ (s : State) (n : TenantId) (b : Fin 32), ∃ t, exec (.emulatedAttentionAcknowledge n b) s = .next t ∧
    (t.r (K.tenantVppbStatus n.val + b.val)).testBit 44 = false ∧
    bit (Tbl.getD (t.tenant n.val).slotStatus b.val 0) 0 = false ∧
    (∀ j, j ≠ K.tenantVppbStatus n.val + b.val → t.r j = s.r j) ∧ SameBut [.regs, .tenants] s t) ∧
  (∀ (s : State) (v : VmdId) (d : Fin 4), s.vmdState v.val = .bound → s.beryl.commitPending = [] →
    (s.windowsWritten v.val = true → ∃ t, exec (.hdmDecoderCommit v d) s = .next t ∧
      (t.r (K.vmdDecodersCommitted v.val)).testBit d.val = true ∧ t.beryl.commitPending = [] ∧
      SameBut [.regs, .beryl] s t) ∧
    (s.windowsWritten v.val = false → ∃ t, exec (.hdmDecoderCommit v d) s = .next t ∧
      t.beryl.commitPending = [4 * v.val + d.val] ∧ SameBut [.beryl] s t)) ∧
  (∀ (s : State) (v : VmdId) (l : List Nat), ∃ t, exec (.clearEventRecords v (some l)) s = .next t ∧
    (t.vmd v.val).events = (s.vmd v.val).events.filter (fun x => !l.contains x.handle) ∧ SameBut [.vmds] s t) ∧
  (∀ (s : State) (v : VmdId), ∃ t, exec (.clearEventRecords v none) s = .next t ∧ (t.vmd v.val).events = [] ∧
    SameBut [.vmds] s t)

/-- VMD and region commands: in OPERATIONAL a creation or destruction waits in the staged set, and a VMD to be created is
STAGED; in PREOP it is drawn and applied at once, or fails with 0x0A01; a DRAINING VMD without outstanding requests is
ABSENT. -/
def Obligations.CreationsAreStagedOrApplied : Prop :=
  (∀ (s u : State) (e : JdpEnv) (args : List Byte), Triggered s e 0x3500 (fun s args => s.vmdCreateChecks args) args u →
    (s.device = .operational → ∃ t, exec (.vmdCreate e) s = .next t ∧ t.stagedActs = s.stagedActs ++ [.vmdCreate args] ∧
      t.vmdState (fieldAt args 0 2) = .staged ∧ (∀ k, k ≠ K.vmdState (fieldAt args 0 2) → t.r k = s.r k) ∧
      (t.cmd 0x3500).state = .done ∧ SameBut [.stagedActs, .regs, .cmds, .mgmt, .out] s t) ∧
    (s.device = .preop → (u.accept e 0x3500).drawSet [] [.vmdCreate args] = none →
      ∃ t, exec (.vmdCreate e) s = .next t ∧ (t.cmd 0x3500).result = 0x0A01 ∧ SameBut [.cmds, .mgmt, .out] s t) ∧
    (s.device = .preop → ∀ v runs quotas, (u.accept e 0x3500).drawSet [] [.vmdCreate args] = some (v, runs, quotas) →
      ∃ t, exec (.vmdCreate e) s = .next t ∧
        SameBut [.cmds, .mgmt, .out, .queue, .time] (v.createVmd args runs) t)) ∧
  (∀ (s u : State) (e : JdpEnv) (args : List Byte), Triggered s e 0x3501 (fun s args => s.vmdDestroyChecks args) args u →
    (s.device = .operational → ∃ t, exec (.vmdDestroy e) s = .next t ∧
      t.stagedActs = s.stagedActs ++ [.vmdDestroy (fieldAt args 0 2)] ∧ (t.cmd 0x3501).state = .done ∧
      SameBut [.stagedActs, .cmds, .mgmt, .out] s t) ∧
    (s.device = .preop → ∃ t, exec (.vmdDestroy e) s = .next t ∧ t.vmdState (fieldAt args 0 2) = .draining)) ∧
  (∀ (s : State) (v : VmdId), s.vmdState v.val = .draining → s.r (K.vmdOutstanding v.val) = 0 →
    ∃ t, exec (.vmdDrainComplete v) s = .next t ∧ t.vmdState v.val = .absent ∧ (t.vmd v.val).windows = []) ∧
  (∀ (s u : State) (e : JdpEnv) (args : List Byte), Triggered s e 0x4010 (fun s args => s.regionCreateChecks args) args u →
    s.device = .operational → ∃ t, exec (.regionCreate e) s = .next t ∧
      t.stagedActs = s.stagedActs ++ [.regionCreate args] ∧ t.r (K.regionState (rcRegion args)) = 1 ∧
      (∀ k, k ≠ K.regionState (rcRegion args) → t.r k = s.r k) ∧ (t.cmd 0x4010).state = .done ∧
      SameBut [.stagedActs, .regs, .cmds, .mgmt, .out] s t) ∧
  (∀ (s u : State) (e : JdpEnv) (args : List Byte), Triggered s e 0x4011 (fun s args => s.regionDestroyChecks args) args u →
    s.device = .operational → ∃ t, exec (.regionDestroy e) s = .next t ∧
      t.stagedActs = s.stagedActs ++ [.regionDestroy (fieldAt args 0 1)] ∧ (t.cmd 0x4011).state = .done ∧
      SameBut [.stagedActs, .cmds, .mgmt, .out] s t)

/-! ## The extent map (09) -/

/-- The extent map's tables: accepted windows of entries, rows of runs and inventory rows hold what was written, runs in the
staged set outside PREOP; an EntryRunWrite is held until its writes are done; a patch waits or applies at once; a row
settles once its refills are done; a bank's reserved cycle performs one write, patch drains first, and a write of the scrub
poisons what names a retired target; the scrub ends with its last write. -/
def Obligations.EntriesAndRunsAreWritten : Prop :=
  (∀ (s u : State) (e : JdpEnv) (p : Priv) (rows : List (Nat × Nat)), Heard s e opWrite 0x3801 0x01 p u →
    u.writeRefusal p 0x3801 0x01 = none → e.payload ≠ [] → e.payload.length % 8 = 0 →
    e.row + e.payload.length / 8 ≤ 4194304 → rows = (rowsOf 8 e.payload).mapIdx (fun k v => (e.row + k, entWritten v)) →
    (∀ x ∈ rows, u.entryLocked x.1 = false ∧ u.namesHeld x.2 = false ∧ stateRefusal x.2 = none ∧
      u.extentRefusal (u.trials rows) x.2 = none) →
    ∃ t, exec (.entryTableWrite e) s = .next t ∧ (∀ x ∈ rows, t.entry x.1 = x.2) ∧
      (∀ i, i < 4194304 → (∀ x ∈ rows, x.1 ≠ i) → t.entry i = s.entry i) ∧
      SameBut [.regs, .beryl, .vmds, .mgmt, .out] s t) ∧
  (∀ (s u : State) (e : JdpEnv) (p : Priv) (i n : Nat) (c : Instr) (set : Tbl Nat),
    (i = 0x3802 ∧ n = 4096 ∧ c = .descriptorTableWrite e) ∨ (i = 0x3803 ∧ n = 256 ∧ c = .regionRunTableWrite e) →
    Heard s e opWrite i 0x01 p u → u.writeRefusal p i 0x01 = none → e.payload ≠ [] → e.payload.length % 16 = 0 →
    e.row + e.payload.length / 16 ≤ n →
    (∀ x ∈ (rowsOf 16 e.payload).mapIdx (fun k v => (obj i 0x01 + e.row + k, v)),
      rrFixed x.2 = rrFixed (u.shownRow x.1) ∧ rrKind (u.r x.1) ≠ 0 ∧ rrKind (u.r x.1) ≠ 2) →
    set = ((rowsOf 16 e.payload).mapIdx (fun k v => (obj i 0x01 + e.row + k, v))).foldl
      (fun t x => Tbl.put t x.1 (rrWithStg (u.r x.1) x.2)) [] →
    (s.device ≠ .preop → ∃ t, exec c s = .next t ∧ t.staged = set.foldl (fun t x => Tbl.put t x.1 x.2) s.staged ∧
      SameBut [.staged, .mgmt, .out] s t) ∧
    (s.device = .preop → u.runsOk set = true → ∃ t, exec c s = .next t ∧
      SameBut [.mgmt, .out, .queue, .time] (u.each set (fun v x => v.applyRow x.1 x.2)) t ∧
      SameBut [.regs, .beryl, .mgmt, .out] s t)) ∧
  (∀ (s u : State) (e : JdpEnv) (p : Priv) (rows : List (Nat × Nat)) (inv : List (Nat × Nat)),
    Heard s e opWrite 0x3804 0x01 p u → u.writeRefusal p 0x3804 0x01 = none → e.payload ≠ [] → e.payload.length % 16 = 0 →
    e.row + e.payload.length / 16 ≤ 1024 →
    rows = (rowsOf 16 e.payload).mapIdx (fun k v => (K.berylDeviceInventory + (e.row + k), inventoryWritten v)) →
    inv = (u.each rows (fun v x => v.w x.1 x.2)).inventory →
    (∀ x ∈ rows, (x.2 = u.r x.1 ∨ u.targetInUse (u.r x.1) = false) ∧ inventoryRefusal x.2 = none) → namesApart inv = true →
    sumOf (inv.map (fun x => bits x.2 110 88)) ≤ 8388608 →
    ∃ t, exec (.deviceInventoryWrite e) s = .next t ∧ (∀ x ∈ rows, t.r x.1 = x.2) ∧
      (∀ k, (∀ x ∈ rows, x.1 ≠ k) → t.r k = s.r k) ∧ SameBut [.regs, .mgmt, .out] s t) ∧
  (∀ (s u : State) (e : JdpEnv) (args : List Byte) (n : Nat), Triggered s e 0x3805 (fun s args => s.runWriteChecks args) args u →
    n = fieldAt args 4 4 → ∃ t, exec (.entryRunWrite e) s = .next t ∧ t.beryl.runWrite = some (n, n) ∧
      (∀ j, j < n → (Tbl.find t.beryl.heldEntries (fieldAt args 0 4 + j)).isSome = true) ∧ (t.cmd 0x3805).state = .pending ∧
      SameBut [.beryl, .cmds, .mgmt, .out] s t) ∧
  (∀ (s : State) (m n : Nat), s.beryl.runWrite = some (m, n) → (s.cmd 0x3805).state = .pending →
    ∃ t, exec .entryRunWriteComplete s = .next t ∧ t.beryl.runWrite = none ∧
      (∀ q ∈ t.beryl.writes, ∀ x ∈ q.2, x.2.2 ≠ .entryRun) ∧ (t.cmd 0x3805).state = .done ∧
      (t.cmd 0x3805).results = toBytes 4 n ∧ SameBut [.regs, .beryl, .vmds, .cmds, .mgmt, .out] s t) ∧
  (∀ (s u : State) (e : JdpEnv) (args : List Byte) (i x : Nat), Triggered s e 0x3806 (fun s args => s.replaceChecks args) args u →
    i = fieldAt args 0 4 → x = entWritten (fieldAt args 4 8) →
    (s.device = .operational → ∃ t, exec (.entryReplace e) s = .next t ∧ t.stagedActs = s.stagedActs ++ [.entryReplace i x] ∧
      (t.cmd 0x3806).state = .done ∧ SameBut [.stagedActs, .cmds, .mgmt, .out] s t) ∧
    (s.device = .preop → ∃ t, exec (.entryReplace e) s = .next t ∧ t.entry i = x ∧ Tbl.find t.beryl.patches i = some x ∧
      (t.cmd 0x3806).state = .done ∧ SameBut [.regs, .beryl, .vmds, .cmds, .mgmt, .out] s t)) ∧
  (∀ (s : State) (region : Bool) (row k : Nat),
    k = (if region then K.berylRegionRunTable + row % 256 else K.berylDescriptorTable + row % 4096) →
    (s.rowUnsettled k = false →
      ∃ t, exec (.rowSettled region row) s = .next t ∧ rrSettled (t.r k) = true ∧ (∀ j, j ≠ k → t.r j = s.r j) ∧
        (∀ x ∈ t.beryl.unsettled, x.1 ≠ k) ∧ SameBut [.regs, .beryl] s t) ∧
    (s.rowUnsettled k = true →
      ∃ t, exec (.rowSettled region row) s = .next t ∧ SameBut [] s t)) ∧
  (∀ (s : State) (b : BankId),
    (∀ i, s.firstPatch b.val = some i → ∃ t, exec (.backgroundWrite b) s = .next t ∧
      t.beryl.patches = Tbl.del s.beryl.patches i ∧ t.beryl.writes = s.beryl.writes ∧ SameBut [.beryl] s t) ∧
    (∀ i x o rest, s.firstPatch b.val = none → Tbl.getD s.beryl.writes b.val [] = (i, x, o) :: rest → i < 4194304 →
      ∃ t, exec (.backgroundWrite b) s = .next t ∧ Tbl.getD t.beryl.writes b.val [] = rest ∧
        (o ≠ .entryTable → o ≠ .patch → o ≠ .scrub → t.entry i = x) ∧
        (o = .scrub → entState (s.entry i) ≠ 0 → entTarget (s.entry i) ∈ s.beryl.retiredTargets →
          t.entry i = setBits (s.entry i) 63 61 4) ∧ SameBut [.regs, .beryl, .vmds] s t) ∧
    (s.firstPatch b.val = none → Tbl.getD s.beryl.writes b.val [] = [] →
      ∃ t, exec (.backgroundWrite b) s = .next t ∧ SameBut [] s t)) ∧
  (∀ s : State, s.on K.berylScrubActive = true →
    (s.scrubbing = false → ∃ t, exec .poisonScrubComplete s = .next t ∧ t.on K.berylScrubActive = false ∧
      (∀ k, k ≠ K.berylScrubActive → t.r k = s.r k) ∧ SameBut [.regs] s t) ∧
    (s.scrubbing = true → ∃ t, exec .poisonScrubComplete s = .next t ∧ SameBut [] s t))

/-! ## The coherence home (10) -/

/-- The home: an acquire for a busy line waits in the conflict queue, one that can start takes the line, there and from the
queue; releases free the line or are stray; a BIConflict is acknowledged; a BIRsp that the home has taken moves its transaction on, or is
stray, and memory completions move theirs on; an aged snoop is marked and a corrected scrub error counted; a recall ends when its lines are done. -/
def Obligations.LinesAreAcquiredAndReleased : Prop :=
  (∀ (s : State) (h : HomeId) (m : Msg) (r line : Nat), s.forwarding = true → (s.inbox h.val).find? Msg.isAcquire = some m →
    s.staleMsg m = false → r = m.region.getD 0 → line = m.offset / 64 → s.garnet.retiredWays = [] →
    (s.lineBusy r line = true → ∃ t, exec (.homeAcquireArrival h) s = .next t ∧
      t.conflict h.val = s.conflict h.val ++ [m] ∧ t.inbox h.val = dropFirst Msg.isAcquire (s.inbox h.val) ∧
      t.garnet.entries = s.garnet.entries ∧ SameBut [.core, .garnet, .regs, .tel] s t) ∧
    (∀ k e, s.lineBusy r line = false → s.conflict h.val = [] → s.lineEntry r line = some (k, e) →
      (∀ x ∈ s.holdersOf e, x = m.tenant) → (∃ v, m.kind = .memInv v) →
      ∃ t x, exec (.homeAcquireArrival h) s = .next t ∧ t.lineEntry r line = some (k, x) ∧ x.state = .e ∧
        x.sharers = [m.tenant] ∧ x.coarse = false ∧ t.lineBusy r line = false ∧
        SameBut [.core, .garnet, .regs, .tel] s t)) ∧
  (∀ (s : State) (h : HomeId) (m : Msg) (rest : List Msg) (r line : Nat), s.forwarding = true →
    s.conflict h.val = m :: rest → r = m.region.getD 0 → line = m.offset / 64 → s.garnet.retiredWays = [] →
    (s.staleMsg m = true → rest = [] → ∃ t, exec (.homeAcquireStart h) s = .next t ∧ t.conflict h.val = [] ∧
      t.garnet.entries = s.garnet.entries ∧ SameBut [.core, .garnet, .regs, .freeCtr] s t) ∧
    (∀ k e, s.staleMsg m = false → s.lineBusy r line = false → s.lineEntry r line = some (k, e) →
      (∀ x ∈ s.holdersOf e, x = m.tenant) → (∃ v, m.kind = .memInv v) →
      ∃ t x, exec (.homeAcquireStart h) s = .next t ∧ t.conflict h.val = rest ∧ t.lineEntry r line = some (k, x) ∧
        x.state = .e ∧ x.sharers = [m.tenant] ∧ x.coarse = false ∧ t.lineBusy r line = false ∧
        SameBut [.core, .garnet, .regs, .tel] s t)) ∧
  (∀ (s : State) (h : HomeId) (m : Msg), s.forwarding = true → (s.inbox h.val).find? Msg.isRelease = some m →
    s.staleMsg m = false →
    (s.lineEntry (m.region.getD 0) (m.offset / 64) = none → s.canOccur (Src.home h.val 17) = true →
      (Tbl.getD s.onyx.pend (Src.home h.val 17) []).length < 255 →
      ∃ t, exec (.homeRelease h) s = .next t ∧ Tbl.getD t.onyx.pend (Src.home h.val 17) []
          = Tbl.getD s.onyx.pend (Src.home h.val 17) [] ++ [({ d0 := m.tenant % 65536 } : Report)] ∧
        t.garnet.entries = s.garnet.entries ∧ SameBut [.core, .garnet, .regs, .tel, .onyx] s t) ∧
    (∀ k e, s.lineEntry (m.region.getD 0) (m.offset / 64) = some (k, e) → e.coarse = false → e.sharers = [m.tenant] →
      s.present e.region m.tenant = true → s.lineBusy e.region e.line = false → m.kind = .memClnEvct → s.garnet.retiredWays = [] →
      ∃ t, exec (.homeRelease h) s = .next t ∧ Tbl.find t.garnet.entries k = none ∧
        SameBut [.core, .garnet, .regs, .tel] s t)) ∧
  (∀ (s : State) (p : PortId) (region : Fin 256) (line n : Nat), s.tenantOfPort p.val = some n → s.forwarding = true →
    s.r (K.regionClass region.val) = 1 →
    ∃ t, exec (.biconflict p region line) s = .next t ∧
      SameBut [.queue, .time] (((s.homeCycle (line % 8)).addStat (line % 8) 5 1).inject
        { kind := .biConflictAck, cls := .memRsp, tenant := n, src := 48 + line % 8, dst := p.val, bytes := 16,
          region := some region.val, offset := line * 64, gen := s.r (K.tenantGeneration n), port := p.val }) t ∧
      SameBut [.core, .garnet, .tel] s t) ∧
  (∀ (s : State) (h : HomeId) (region : Fin 256) (line : Nat) (n : TenantId) (keeps : BiState) (is : Msg → Bool),
    s.forwarding = true → is = Msg.isBirsp region.val line n.val keeps →
    ((s.inbox h.val).find? is = none → ∃ t, exec (.birspArrival h region line n keeps) s = .next t ∧ SameBut [] s t) ∧
    (∀ m, (s.inbox h.val).find? is = some m →
      (∀ x, s.transOn region.val line = some x → x.home = h.val → n.val ∈ x.awaiting → x.blockOf = [] →
        (∃ y ∈ x.awaiting, y ≠ n.val) → s.staleMsg m = false → s.garnet.retiredWays = [] →
        ∃ t y, exec (.birspArrival h region line n keeps) s = .next t ∧ t.transOn region.val line = some y ∧
          y.awaiting = x.awaiting.filter (fun z => decide (z ≠ n.val)) ∧
          t.inbox h.val = dropFirst is (s.inbox h.val) ∧ SameBut [.garnet, .core] s t) ∧
      ((∀ x, s.transOn region.val line = some x → n.val ∉ x.awaiting) →
        ∃ t, exec (.birspArrival h region line n keeps) s = .next t ∧ t.garnet.trans = s.garnet.trans ∧
          t.garnet.entries = s.garnet.entries ∧ t.inbox h.val = dropFirst is (s.inbox h.val) ∧
          SameBut [.garnet, .core] s t))) ∧
  (∀ (s : State) (h : HomeId) (d data : Nat) (poisoned : Bool),
    (Tbl.find s.core.tags d = none → ∃ t, exec (.homeMemoryCompletion h d data poisoned) s = .next t ∧ SameBut [] s t) ∧
    (∀ g r line x m k e, Tbl.find s.core.tags d = some g → g.home = some (r, line) → line % 8 = h.val →
      s.transOn r line = some x → x.goal = .read true → x.req = some m → x.read = some d → x.writes = [] → s.staleMsg m = false →
      s.garnet.retiredWays = [] → s.lineEntry r line = some (k, e) →
      ∃ t y, exec (.homeMemoryCompletion h d data poisoned) s = .next t ∧ t.lineEntry r line = some (k, y) ∧
        y.state = .e ∧ y.sharers = [m.tenant] ∧ t.lineBusy r line = false ∧ Tbl.find t.core.tags d = none ∧
        SameBut [.core, .garnet, .regs, .tel] s t)) ∧
  (∀ (s : State) (h : HomeId) (region : Fin 256) (line : Nat) (n : TenantId) (x : Trans),
    s.transOn region.val line = some x → x.home = h.val → n.val ∈ x.awaiting → n.val ∉ x.aged →
    line % 4 = 0 ∨ n.val ∉ x.blockOf → x.snoopBeat + s.r K.garnetSnoopWarn ≤ s.beat →
    ∃ t, exec (.snoopAge h region line n) s = .next t ∧ t.transOn region.val line = some { x with aged := x.aged ++ [n.val] } ∧
      SameBut [.garnet, .onyx] s t) ∧
  (∀ (s : State) (h : HomeId) (set : Fin 16384) (way : Fin 16) (corrected uncorrectable : Bool),
    ∃ t, exec (.directoryScrub h set way corrected uncorrectable) s = .next t ∧
      (corrected = true → s.r K.garnetEccCorrected + 1 < 2 ^ Schema.width K.garnetEccCorrected →
        t.r K.garnetEccCorrected = s.r K.garnetEccCorrected + 1) ∧
      (corrected = false → uncorrectable = false → t.onyx = s.onyx ∧ t.regs = s.regs) ∧
      SameBut [.regs, .freeCtr, .onyx] s t) ∧
  (∀ (s u : State) (e : JdpEnv) (args : List Byte) (l : List (Nat × Nat)), Triggered s e 0x4012 (fun s args => s.recallChecks args) args u →
    l = s.linesToRecall (fieldAt args 0 1) (if fieldAt args 1 1 = 255 then none else some (fieldAt args 1 1)) →
    ∃ t, exec (.regionRecall e) s = .next t ∧ (t.cmd 0x4012).state = .pending ∧
      (l = [] → t.garnet.recallRun = some (fieldAt args 0 1, [], 0) ∧ SameBut [.garnet, .cmds, .mgmt, .out] s t) ∧
      SameBut [.garnet, .regs, .freeCtr, .core, .tel, .cmds, .mgmt, .out] s t) ∧
  (∀ (s : State) (r n : Nat), s.garnet.recallRun = some (r, [], n) → (s.cmd 0x4012).state = .pending →
    ∃ t, exec .regionRecallComplete s = .next t ∧ t.garnet.recallRun = none ∧ (t.cmd 0x4012).state = .done ∧
      (t.cmd 0x4012).results = toBytes 4 n ∧ SameBut [.garnet, .cmds, .mgmt, .out] s t)

/-! ## The migration engines and the atomic engine (10, 11) -/

/-- Migration jobs: a job created is PENDING in a record and holds its destination; a cancel fails a job that has not begun,
and reverts one that copies; the engine settles once nothing translated before the arm is on its way, starts its chunk and asks a home for a line; each line is read, written and
read back; a chunk whose checks agree verifies, else it is copied again, as one with a refused access is; the source is
released after the commit. -/
def Obligations.JobsCopyTheirChunks : Prop :=
  (∀ (s u : State) (e : JdpEnv) (args : List Byte), Triggered s e 0x4820 (fun s args => s.jobChecks args) args u →
    (∀ j x, s.takeRecord = some j → s.jobDest args = some x → ∃ t, exec (.jobCreate e) s = .next t ∧
      (t.job j).state = .pending ∧ (t.job j).index = fieldAt args 0 4 ∧ (t.job j).destTarget = fieldAt args 4 2 ∧
      (t.job j).destLd = fieldAt args 6 1 ∧ (t.job j).destExtent = x ∧ (t.job j).createdAt = s.beat ∧
      (t.job j).fill = false ∧ (t.job j).urgent = decide (fieldAt args 12 1 = 1) ∧
      (t.job j).chunkCode = (if fieldAt args 7 1 = 255 then 4 else fieldAt args 7 1) ∧
      (t.cmd 0x4820).state = .done ∧ (t.cmd 0x4820).results = toBytes 2 j ∧ SameBut [.jasper, .cmds, .mgmt, .out] s t) ∧
    (s.takeRecord = none → ∃ t, exec (.jobCreate e) s = .next t ∧ (t.cmd 0x4820).state = .failed ∧
      (t.cmd 0x4820).result = 0x0A01 ∧ SameBut [.cmds, .mgmt, .out] s t)) ∧
  (∀ (s u : State) (e : JdpEnv) (args : List Byte) (j : Nat), Triggered s e 0x4821 (fun s args => s.cancelChecks args) args u →
    j = fieldAt args 0 2 →
    ((s.job j).state = .pending ∨ (s.job j).state = .armStaged → ∃ t, exec (.jobCancel e) s = .next t ∧
      (t.job j).state = .failed ∧ (t.job j).reason = .cancelled ∧ (t.cmd 0x4821).state = .done ∧
      SameBut [.jasper, .regs, .freeCtr, .cmds, .mgmt, .out] s t) ∧
    ((s.job j).state = .copying ∨ ((s.job j).state = .commitStaged ∧ (s.job j).held = false) →
      ∃ t, exec (.jobCancel e) s = .next t ∧ (t.job j).state = .disarmStaged ∧ (t.job j).reason = .cancelled ∧
        t.jasper.cancelling = some j ∧ (t.cmd 0x4821).state = .pending ∧ SameBut [.jasper, .regs, .cmds, .mgmt, .out] s t) ∧
    ((s.job j).state = .disarmStaged → ∃ t, exec (.jobCancel e) s = .next t ∧ (t.job j).state = .disarmStaged ∧
      (t.job j).again = false ∧ t.jasper.cancelling = some j ∧ (t.cmd 0x4821).state = .pending ∧
      SameBut [.jasper, .cmds, .mgmt, .out] s t) ∧
    ((s.job j).state = .done ∨ ((s.job j).state = .commitStaged ∧ (s.job j).held = true) →
      ∃ t, exec (.jobCancel e) s = .next t ∧ (t.cmd 0x4821).state = .failed ∧ (t.cmd 0x4821).result = 0x0001 ∧
        SameBut [.cmds, .mgmt, .out] s t)) ∧
  (∀ (s : State) (n : EngineId) (j : Nat), (s.engine n.val).job = some j → (s.job j).state = .copying →
    ((s.job j).fill = false → s.tagsGone (s.jobFrom j).1 (s.job j).armedAt = true → s.beforeArm j = false → s.enginesStand = false →
      ∃ t, exec (.armSettled n) s = .next t ∧ (t.engine n.val).settled = true ∧ SameBut [.jasper] s t) ∧
    ((s.job j).fill = false → s.tagsGone (s.jobFrom j).1 (s.job j).armedAt = false ∨ s.beforeArm j = true ∨ s.enginesStand = true →
      ∃ t, exec (.armSettled n) s = .next t ∧ SameBut [] s t) ∧
    ((s.engine n.val).running = false → (s.engine n.val).had = false → (s.engine n.val).retired = false →
      (s.engine n.val).copied = false → s.copyLocks n.val = 0 → s.beatState ≠ .beatless → s.forwarding = true →
      s.quartz.cutoffDone = false → s.jasper.suspended = false → ((s.job j).fill = false → (s.engine n.val).settled = true) →
      ((s.job j).fill = true → entState (s.entry ((s.job j).index + (s.engine n.val).extent)) ≠ 0) →
      ((s.coherentLine j (s.r (K.engineChunkOffset n.val) / 64)).isSome = true →
        ∃ t, exec (.chunkStart n) s = .next t ∧ (t.engine n.val).running = true ∧ (t.engine n.val).had = true ∧
          t.r (K.engineChunkSize n.val) = chunkAt (s.job j).code (s.r (K.engineChunkOffset n.val)) ∧
          (∀ k, k ≠ K.engineChunkSize n.val → t.r k = s.r k) ∧ SameBut [.regs, .jasper, .out] s t) ∧
      (∃ t, exec (.chunkStart n) s = .next t ∧ (t.engine n.val).had = true ∧
        ((t.engine n.val).running = true ∧
            t.r (K.engineChunkSize n.val) = chunkAt (s.job j).code (s.r (K.engineChunkOffset n.val)) ∧
            (t.job j).mismatches = (s.job j).mismatches ∨
          (t.engine n.val).running = false ∧ (t.job j).mismatches = (s.job j).mismatches + 1) ∧
        SameBut [.regs, .freeCtr, .jasper, .core, .tel, .out, .onyx, .cmds, .mgmt] s t))) ∧
  (∀ (s : State) (n : EngineId) (j line r x : Nat), (s.engine n.val).job = some j → s.coherentLine j line = some (r, x) →
    (s.engine n.val).asked = some line → (s.engine n.val).running = true → s.enginesStand = false →
    (s.lineBusy r x = false → (s.engine n.val).refused = false →
      (s.acuRefusal (52 + n.val) (engineAccess (s.jobFrom j) line (.memRd .invalid)) true = none →
        ∃ t, exec (.copyLockRequest n line) s = .next t ∧ (r, x) ∈ t.garnet.jasperLocks ∧
          (t.lockOf n.val j line).isSome = true ∧ (t.engine n.val).running = true ∧
          SameBut [.regs, .freeCtr, .garnet, .jasper, .core, .tel, .out] s t) ∧
      ((s.acuRefusal (52 + n.val) (engineAccess (s.jobFrom j) line (.memRd .invalid)) true).isSome = true →
        ∃ t, exec (.copyLockRequest n line) s = .next t ∧ (t.lockOf n.val j line) = none ∧
          (t.engine n.val).running = false ∧ (t.job j).mismatches = (s.job j).mismatches + 1 ∧
          SameBut [.regs, .freeCtr, .garnet, .jasper, .core, .tel, .onyx, .beryl, .vmds] s t)) ∧
    (s.lineBusy r x = true → ∃ t, exec (.copyLockRequest n line) s = .next t ∧ SameBut [] s t)) ∧
  (∀ (s : State) (n : EngineId) (j line : Nat), (s.engine n.val).job = some j → s.coherentLine j line = none →
    s.enginesStand = false →
    ((s.engine n.val).nextLine = line → (s.engine n.val).running = true → (s.engine n.val).refused = false →
      line < (s.engine n.val).endLine → s.copyLocks n.val < 1024 → (s.engine n.val).asked = none →
      line - (s.engine n.val).firstLine < s.copyBudget n.val → s.lockOf n.val j line = none →
      s.acuRefusal (52 + n.val) (if (s.job j).fill then engineAccess (s.jobTo n.val j) line (.memWr .invalid)
        else engineAccess (s.jobFrom j) line (.memRd .invalid)) true = none →
      ∃ t, exec (.copyLockRequest n line) s = .next t ∧ (t.lockOf n.val j line).isSome = true ∧
        SameBut [.regs, .freeCtr, .jasper, .core, .tel, .out, .onyx, .cmds, .mgmt] s t) ∧
    ((s.engine n.val).nextLine ≠ line → ∃ t, exec (.copyLockRequest n line) s = .next t ∧ SameBut [] s t)) ∧
  (∀ (s : State) (n : EngineId) (line data : Nat) (poisoned : Bool) (l : LineLock), s.enginesStand = false →
    (s.engine n.val).locks.find? (fun x => decide (x.line = line) && decide (x.use = .copy 0)) = some l →
    ((s.job l.job).writesB = true →
      s.acuRefusal (52 + n.val) (engineAccess (s.jobTo n.val l.job) line (.memWr .invalid)) true = none →
      ∃ t, exec (.copyReadCompletion n line data poisoned) s = .next t ∧
        t.lockOf n.val l.job line = some { l with use := .copy 1, data := data % 2 ^ 512, poisonA := poisoned } ∧
        SameBut [.regs, .freeCtr, .jasper, .core, .tel] s t) ∧
    ((s.job l.job).writesB = false → (s.engine n.val).waiting = [] → s.atomic.waiting = [] → (s.engine n.val).job ≠ some l.job →
      ∃ t, exec (.copyReadCompletion n line data poisoned) s = .next t ∧ t.lockOf n.val l.job line = none ∧
        SameBut [.regs, .freeCtr, .jasper, .core, .tel, .onyx, .garnet, .out, .beryl, .vmds] s t)) ∧
  (∀ (s : State) (n : EngineId) (line : Nat) (l : LineLock), s.enginesStand = false →
    (s.engine n.val).locks.find? (fun x => decide (x.line = line) && decide (x.use = .copy 1)) = some l →
    s.acuRefusal (52 + n.val) (engineAccess (s.jobTo n.val l.job) line (.memRd .invalid)) true = none →
    ∃ t, exec (.copyWriteCompletion n line) s = .next t ∧ t.lockOf n.val l.job line = some { l with use := .copy 2 } ∧
      SameBut [.regs, .freeCtr, .jasper, .core, .tel] s t) ∧
  (∀ (s : State) (n : EngineId) (line data : Nat) (poisoned : Bool),
    ((s.engine n.val).locks.find? (fun x => decide (x.line = line) && decide (x.use = .copy 0)) = none →
      ∃ t, exec (.copyReadCompletion n line data poisoned) s = .next t ∧ SameBut [] s t) ∧
    ((s.engine n.val).locks.find? (fun x => decide (x.line = line) && decide (x.use = .copy 1)) = none →
      ∃ t, exec (.copyWriteCompletion n line) s = .next t ∧ SameBut [] s t)) ∧
  (∀ (s : State) (n : EngineId) (line data crc : Nat) (poisoned : Bool) (l : LineLock), s.enginesStand = false →
    (s.engine n.val).locks.find? (fun x => decide (x.line = line) && decide (x.use = .copy 2)) = some l →
    (s.engine n.val).waiting = [] → s.atomic.waiting = [] →
    ((s.engine n.val).job ≠ some l.job → ∃ t, exec (.copyLineReadback n line data poisoned) s = .next t ∧
      t.lockOf n.val l.job line = none ∧
      SameBut [.regs, .freeCtr, .jasper, .core, .tel, .out, .garnet, .onyx, .cmds, .mgmt, .beryl, .vmds] s t) ∧
    ((s.engine n.val).job = some l.job → (s.engine n.val).running = true → (s.engine n.val).foldB = line →
      (s.engine n.val).endLine = line + 1 → line + 1 ≤ (s.engine n.val).nextLine → (s.engine n.val).readB = [] →
      crc = crc64Run (s.r (K.engineRunningCrcB n.val)) (toBytes 64 (data % 2 ^ 512)).reverse →
      (crc = s.r (K.engineRunningCrcA n.val) → (s.engine n.val).poisonAgree = true → l.poisonA = poisoned →
        (s.engine n.val).refused = false →
        s.r (K.engineChunkOffset n.val) + s.r (K.engineChunkSize n.val) < extentBytes →
        ∃ t, exec (.copyLineReadback n line data poisoned) s = .next t ∧ (t.engine n.val).running = false ∧
          (t.engine n.val).verified = true ∧ t.r (K.engineChunkOffset n.val)
            = s.r (K.engineChunkOffset n.val) + s.r (K.engineChunkSize n.val) ∧ (t.job l.job).mismatches = 0 ∧
          SameBut [.regs, .freeCtr, .jasper, .core, .tel, .out, .garnet, .beryl, .vmds] s t) ∧
      (crc ≠ s.r (K.engineRunningCrcA n.val) ∨ (s.engine n.val).poisonAgree = false ∨ l.poisonA ≠ poisoned ∨
          (s.engine n.val).refused = true →
        (s.job l.job).mismatches + 1 < s.r K.jasperMismatchLimit →
        ∃ t, exec (.copyLineReadback n line data poisoned) s = .next t ∧ (t.engine n.val).running = false ∧
          t.r (K.engineRunningCrcA n.val) = (s.engine n.val).savedA ∧
          t.r (K.engineRunningCrcB n.val) = (s.engine n.val).savedB ∧
          (t.job l.job).mismatches = (s.job l.job).mismatches + 1 ∧ (t.job l.job).state = (s.job l.job).state ∧
          SameBut [.regs, .freeCtr, .jasper, .core, .tel, .out, .garnet, .onyx, .beryl, .vmds] s t))) ∧
  (∀ (s : State) (j : Fin 1024), (s.job j.val).releasing = true →
    (s.enginesStand = false → s.tagsGone (s.jobFrom j.val).1 (s.job j.val).endedAt = true →
      (∀ n, n < 4 → (∀ l ∈ (s.engine n).locks, l.job ≠ j.val) ∧ (∀ x ∈ (s.engine n).waiting, x.2.job ≠ some j.val)) →
      (∀ m ∈ s.travelling, m.cls.isRequest = true → m.job ≠ some j.val) →
      (∀ g ∈ s.core.tags, g.2.msg.job = some j.val → (s.job j.val).endedAt ≤ g.2.allocBeat) →
      ∃ t, exec (.commitSettled j) s = .next t ∧ t.job j.val = { s.job j.val with releasing := false } ∧
        SameBut [.jasper] s t) ∧
    (s.tagsGone (s.jobFrom j.val).1 (s.job j.val).endedAt = false →
      ∃ t, exec (.commitSettled j) s = .next t ∧ SameBut [] s t))

/-- A write to an extent that is being moved locks its line and goes to both copies, or waits for the lock, and is done when
both legs are; a refused leg to the destination is done at once, and once the source is lost the write is answered. The atomic
engine locks the line of an AtomicOp, or has it wait; reads it, writes the result, and unlocks it. -/
def Obligations.DualWritesAndAtomicOps : Prop :=
  (∀ (s : State) (n : EngineId) (m : Msg) (j : Nat) (is : Msg → Bool), s.forwarding = true →
    is = (fun m => m.isWrite && (decide (s.dualLocks n.val < 1024) || s.underLock n.val m)) →
    (s.inbox (8 + n.val)).find? is = some m → j = m.job.getD 0 →
    (m.src < 48 → s.staleMsg m = true → ∃ t, exec (.dualWrite n) s = .next t ∧
      t.inbox (8 + n.val) = dropFirst is (s.inbox (8 + n.val)) ∧ t.jasper = s.jasper ∧
      SameBut [.core, .regs, .freeCtr, .garnet] s t) ∧
    ((m.src < 48 → s.staleMsg m = false) → (s.job j).state = .failed → (s.job j).reason = .sourceLost →
      ∃ t, exec (.dualWrite n) s = .next t ∧ t.inbox (8 + n.val) = dropFirst is (s.inbox (8 + n.val)) ∧
        SameBut [.core, .regs, .freeCtr, .tel] s t) ∧
    ((m.src < 48 → s.staleMsg m = false) → ((s.job j).state = .failed → (s.job j).reason ≠ .sourceLost) →
      ((s.lockOf n.val j (msgLine m) = none ∧ s.dualWaits n.val j (msgLine m) = false) ∨
        ((∃ l, s.lockOf n.val j (msgLine m) = some l ∧ l.use = .atomic) ∧ m.src = 60) →
        ((s.job j).writesB = false → ∃ t, exec (.dualWrite n) s = .next t ∧
          t.lockOf n.val j (msgLine m) = some { job := j, line := msgLine m, use := .dual false true, msg := some m } ∧
          t.inbox (8 + n.val) = dropFirst is (s.inbox (8 + n.val)) ∧
          SameBut [.core, .regs, .freeCtr, .jasper, .tel, .beryl, .vmds] s t) ∧
        ((s.job j).writesB = true → (s.portTo m.pid).isSome = true →
          s.acuRefusal (52 + n.val) (engineAccess ((s.job j).destTarget, (s.job j).destLd, (s.job j).destExtent) (msgLine m)
            (.memWr .invalid)) true = none → ∃ t, exec (.dualWrite n) s = .next t ∧
          t.lockOf n.val j (msgLine m) = some { job := j, line := msgLine m, use := .dual false false, msg := some m } ∧
          t.inbox (8 + n.val) = dropFirst is (s.inbox (8 + n.val)) ∧
          SameBut [.core, .regs, .freeCtr, .jasper, .tel] s t)) ∧
      (s.lockOf n.val j (msgLine m) = none → s.dualWaits n.val j (msgLine m) = false → (s.job j).writesB = true →
        (s.portTo m.pid).isSome = true →
        (s.acuRefusal (52 + n.val) (engineAccess ((s.job j).destTarget, (s.job j).destLd,
            (s.job j).destExtent) (msgLine m) (.memWr .invalid)) true).isSome = true → ∃ t, exec (.dualWrite n) s = .next t ∧
          t.lockOf n.val j (msgLine m) = some { job := j, line := msgLine m, use := .dual false true, msg := some m } ∧
          (t.engine n.val).refused = true ∧ SameBut [.core, .regs, .freeCtr, .jasper, .tel, .onyx] s t) ∧
      ((s.lockOf n.val j (msgLine m) = none ∧ s.dualWaits n.val j (msgLine m) = true) ∨
        (∃ l, s.lockOf n.val j (msgLine m) = some l ∧ (l.use ≠ .atomic ∨ m.src ≠ 60)) → ∃ t, exec (.dualWrite n) s = .next t ∧
          (t.engine n.val).waiting = (s.engine n.val).waiting ++ [(msgLine m, m)] ∧
          (t.engine n.val).locks = (s.engine n.val).locks ∧ SameBut [.core, .regs, .freeCtr, .jasper, .tel] s t))) ∧
  (∀ (s : State) (n : EngineId), s.forwarding = false ∨ (∀ m ∈ s.inbox (8 + n.val), m.isWrite = true →
      1024 ≤ s.dualLocks n.val ∧ s.underLock n.val m = false) → ∃ t, exec (.dualWrite n) s = .next t ∧ SameBut [] s t) ∧
  (∀ (s : State) (n : EngineId) (line : Nat) (legA legB a b : Bool) (l : LineLock) (m : Msg), s.enginesStand = false →
    (s.engine n.val).locks.find? (fun x => decide (x.line = line) && x.isDual) = some l → l.use = .dual a b →
    l.msg = some m →
    ((a || legA) = true → (b || legB) = true → (s.engine n.val).waiting = [] → s.atomic.waiting = [] →
      (s.engine n.val).job ≠ some l.job → ∃ t, exec (.dualWriteCompletion n line legA legB) s = .next t ∧
        t.lockOf n.val l.job line = none ∧
        SameBut [.regs, .freeCtr, .jasper, .core, .tel, .out, .garnet, .onyx, .cmds, .mgmt, .beryl, .vmds] s t) ∧
    ((a || legA) = false ∨ (b || legB) = false → ∃ t, exec (.dualWriteCompletion n line legA legB) s = .next t ∧
      t.lockOf n.val l.job line = some { l with use := .dual (a || legA) (b || legB) } ∧
      SameBut [.core, .jasper, .regs] s t)) ∧
  (∀ (s : State) (n : EngineId) (line : Nat) (legA legB : Bool),
    (s.engine n.val).locks.find? (fun x => decide (x.line = line) && x.isDual) = none →
    ∃ t, exec (.dualWriteCompletion n line legA legB) s = .next t ∧ SameBut [] s t) ∧
  (∀ (s : State) (m : Msg), s.forwarding = true → (s.inbox 12).find? Msg.isAtomic = some m →
    (s.staleMsg m = true → ∃ t, exec .atomicEngineRequest s = .next t ∧ t.atomic = s.atomic ∧
      SameBut [.core, .tel, .regs, .freeCtr, .garnet] s t) ∧
    (s.staleMsg m = false → s.atomicHeld m = true ∨ s.atomicQueued m = true →
      ∃ t, exec .atomicEngineRequest s = .next t ∧ t.atomic.waiting = s.atomic.waiting ++ [m] ∧
        t.atomic.locks = s.atomic.locks ∧ SameBut [.core, .atomic, .tel] s t) ∧
    (s.staleMsg m = false → s.atomicHeld m = false → s.atomicQueued m = false →
      (∀ p, s.atomicDest m false = some p → ∃ t x, exec .atomicEngineRequest s = .next t ∧
        t.atomic.locks = s.atomic.locks ++ [(deviceLine m, m)] ∧ Tbl.find t.core.tags s.core.nextTag = some x ∧
        x.outPort = p ∧ x.msg.kind = .memRd .invalid ∧ x.msg.addr = m.addr ∧ x.writer = some m ∧
        SameBut [.core, .atomic, .tel, .jasper] s t) ∧
      (s.atomicDest m false = none → ∃ t, exec .atomicEngineRequest s = .next t ∧ t.atomic = s.atomic ∧
        SameBut [.core, .tel, .jasper, .regs, .freeCtr, .garnet, .out, .onyx, .beryl, .vmds] s t))) ∧
  (∀ (s : State) (d data : Nat) (g : Tag) (m : Msg) (a : AtomicReq), Tbl.find s.core.tags d = some g → g.atomic = true →
    m = g.writer.getD g.msg → m.kind = .atomic a →
    (∀ p, s.atomicDest m true = some p → ∃ t x, exec (.atomicReadCompletion d data false) s = .next t ∧
      Tbl.find t.core.tags s.core.nextTag = some x ∧ x.outPort = p ∧ x.msg.kind = .memWr .invalid ∧
      x.msg.data = atomicLine a data ∧ x.writer = some { m with data := atomicOld a data } ∧ SameBut [.core, .tel] s t) ∧
    (s.atomic.waiting = [] → ∃ t, exec (.atomicReadCompletion d data true) s = .next t ∧
      t.atomic.locks = s.atomic.locks.filter (fun x => decide (x.1 ≠ deviceLine m))) ∧
    (s.atomic.waiting = [] → s.atomicDest m true = none → ∃ t, exec (.atomicReadCompletion d data false) s = .next t ∧
      t.atomic.locks = s.atomic.locks.filter (fun x => decide (x.1 ≠ deviceLine m)))) ∧
  (∀ (s : State) (d : Nat) (g : Tag), Tbl.find s.core.tags d = some g → g.atomic = true → s.atomic.waiting = [] →
    ∃ t, exec (.atomicWriteCompletion d) s = .next t ∧
      t.atomic.locks = s.atomic.locks.filter (fun x => decide (x.1 ≠ deviceLine (g.writer.getD g.msg)))) ∧
  (∀ (s : State) (d data : Nat) (poisoned : Bool), Tbl.find s.core.tags d = none →
    (∃ t, exec (.atomicReadCompletion d data poisoned) s = .next t ∧ SameBut [] s t) ∧
    (∃ t, exec (.atomicWriteCompletion d) s = .next t ∧ SameBut [] s t))

/-! ## The fabric (12) -/

/-- The fabric: a hello makes the neighbour and its loss ends it; a port that has been ACTIVE without one has a FOREIGN neighbour;
a newer record is stored and flooded, an older one changes nothing, this switch's own goes out again after 1,024 beats, and an
expired one is removed; a PID is assigned here, or sent to the switch that its confirmation or silence answers for; a message over a
fabric link joins the receive buffer of its arrival port with the port of its route, or is answered. That the topology of the routes
in force tells a down hop is the model's reading (log entry 18), and that a message in transit crosses the core as one made at its
arrival port does is its choice (log entry 66). -/
def Obligations.NeighboursRecordsAndRoutes : Prop :=
  (∀ (s : State) (p : PortId) (h : Hello),
    (s.isFabric p.val = true → s.link p.val = .active → ∃ t, exec (.fabricHelloReceive p h) s = .next t ∧
      (t.port p.val).neighbour = some (h.identity, h.port, h.switchPid) ∧ (t.port p.val).foreign = false ∧
      (t.port p.val).inRoutes = true ∧ (t.port p.val).helloAt = some s.beat ∧
      SameBut [.ports, .fabric, .regs, .core, .freeCtr] s t) ∧
    (s.isFabric p.val = false ∨ s.link p.val ≠ .active →
      ∃ t, exec (.fabricHelloReceive p h) s = .next t ∧ SameBut [] s t)) ∧
  (∀ (s : State) (p : PortId),
    (s.isFabric p.val = true → s.link p.val = .active → s.portMode p.val ≠ 3 → (s.port p.val).helloAt = none →
      (s.port p.val).foreign = false → (s.port p.val).activeSince + s.helloLimit ≤ s.beat →
      ∃ t, exec (.foreignNeighbour p) s = .next t ∧ (t.port p.val).foreign = true ∧
        (t.port p.val).neighbour = none ∧ SameBut [.ports, .onyx] s t) ∧
    (s.beat < (s.port p.val).activeSince + s.helloLimit → ∃ t, exec (.foreignNeighbour p) s = .next t ∧ SameBut [] s t) ∧
    (∀ h, (s.port p.val).helloAt = some h →
      (h + s.helloLimit ≤ s.beat → ∃ t, exec (.helloLoss p) s = .next t ∧ (t.port p.val).helloAt = none ∧
        (t.port p.val).inRoutes = ((s.port p.val).inRoutes && decide (s.r K.fabricRerouteOn = 1)) ∧
        SameBut [.ports, .fabric, .regs, .core] s t) ∧
      (s.beat < h + s.helloLimit → ∃ t, exec (.helloLoss p) s = .next t ∧ SameBut [] s t)) ∧
    ((s.port p.val).helloAt = none → ∃ t, exec (.helloLoss p) s = .next t ∧ SameBut [] s t)) ∧
  (∀ (s : State) (p : PortId) (l : Lsr), s.managed p.val = true → l.identity ≠ Config.fabricIdentity →
    (∀ d, s.fabric.db.find? (fun d => decide (d.lsr.identity = l.identity)) = some d →
      (seqNewer l.sequence d.lsr.sequence = false → ∃ t, exec (.lsrReceive p l) s = .next t ∧ SameBut [] s t) ∧
      (seqNewer l.sequence d.lsr.sequence = true → ∃ t x, exec (.lsrReceive p l) s = .next t ∧
        t.fabric.db.find? (fun d => decide (d.lsr.identity = l.identity)) = some x ∧ x.lsr = l ∧ x.refreshedAt = s.beat ∧
        (∀ q ∈ s.managedPorts, q ≠ p.val → Ctl.carry (.lsr q l) ∈ (t.egress q).control) ∧
        SameBut [.fabric, .regs, .freeCtr, .onyx, .core] s t)) ∧
    (s.fabric.db.find? (fun d => decide (d.lsr.identity = l.identity)) = none →
      (255 ≤ s.fabric.db.length → ∃ t, exec (.lsrReceive p l) s = .next t ∧ SameBut [.onyx] s t) ∧
      (s.fabric.db.length < 255 → ∃ t x, exec (.lsrReceive p l) s = .next t ∧
        t.fabric.db.find? (fun d => decide (d.lsr.identity = l.identity)) = some x ∧ x.lsr = l ∧ x.refreshedAt = s.beat ∧
        (∀ q ∈ s.managedPorts, q ≠ p.val → Ctl.carry (.lsr q l) ∈ (t.egress q).control) ∧
        SameBut [.fabric, .regs, .freeCtr, .onyx, .core] s t))) ∧
  (∀ (s : State) (p : PortId) (l : Lsr), s.managed p.val = false ∨ l.identity = Config.fabricIdentity →
    ∃ t, exec (.lsrReceive p l) s = .next t ∧ SameBut [] s t) ∧
  (∀ s : State,
    (∀ o l, s.fabric.own = some o → l = { o with sequence := (o.sequence + 1) % 2 ^ 32 } →
      (s.fabric.refreshedAt + 1024 ≤ s.beat → ∃ t, exec .lsrRefresh s = .next t ∧ t.fabric.own = some l ∧
        (∀ q ∈ s.managedPorts, Ctl.carry (.lsr q l) ∈ (t.egress q).control) ∧ SameBut [.fabric, .core] s t) ∧
      (s.beat < s.fabric.refreshedAt + 1024 → ∃ t, exec .lsrRefresh s = .next t ∧ SameBut [] s t)) ∧
    (s.fabric.own = none → ∃ t, exec .lsrRefresh s = .next t ∧ t.fabric.own = some (s.ownLsr 1 s.beat) ∧
      (∀ q ∈ s.managedPorts, Ctl.carry (.lsr q (s.ownLsr 1 s.beat)) ∈ (t.egress q).control) ∧ SameBut [.fabric, .core] s t)) ∧
  (∀ (s : State) (id : Nat), ∃ t, exec (.lsrExpiry id) s = .next t ∧
    t.fabric.db.map (·.lsr) = (s.fabric.db.filter (fun d => decide (d.lsr.identity ≠ id) ||
      decide (s.beat < (if d.reachable then d.refreshedAt else d.lostAt) + 4096))).map (·.lsr) ∧
    (∀ k, k ≠ K.fabricSwitchesKnown → t.r k = s.r k) ∧ SameBut [.fabric, .regs] s t) ∧
  (∀ (s u : State) (e : JdpEnv) (args : List Byte), Triggered s e 0x5020 (fun _ args => remotePidChecks args) args u →
    (s.fabric.db.any (fun d => decide (d.lsr.identity = fieldAt args 0 8)) = true →
      ∃ t, exec (.remotePidAssign e) s = .next t ∧ t.fabric.assigning = some (fieldAt args 0 8, fieldAt args 8 2) ∧
        t.fabric.assignedAt = s.clock ∧
        (∀ q, s.towards (fieldAt args 0 8) = some q →
          Ctl.carry (.remotePid q (fieldAt args 0 8) (fieldAt args 8 2)) ∈ (t.egress q).control) ∧
        (t.cmd 0x5020).state = .pending ∧ SameBut [.fabric, .core, .cmds, .mgmt, .out] s t) ∧
    (s.fabric.db.any (fun d => decide (d.lsr.identity = fieldAt args 0 8)) = false →
      fieldAt args 0 8 = Config.fabricIdentity →
      (s.on K.proxyAdmit = true → ∃ t, exec (.remotePidAssign e) s = .next t ∧
        t.r K.fabricSwitchPid = fieldAt args 8 2 ∧ (∀ k, k ≠ K.fabricSwitchPid → t.r k = s.r k) ∧
        (t.cmd 0x5020).state = .done ∧ SameBut [.fabric, .regs, .core, .cmds, .mgmt, .out] s t) ∧
      (s.on K.proxyAdmit = false → ∃ t, exec (.remotePidAssign e) s = .next t ∧
        (t.cmd 0x5020).state = .failed ∧ (t.cmd 0x5020).result = 0x0D03 ∧ SameBut [.cmds, .mgmt, .out] s t)) ∧
    (s.fabric.db.any (fun d => decide (d.lsr.identity = fieldAt args 0 8)) = false →
      fieldAt args 0 8 ≠ Config.fabricIdentity → ∃ t, exec (.remotePidAssign e) s = .next t ∧
        (t.cmd 0x5020).state = .failed ∧ (t.cmd 0x5020).result = 0x0D01 ∧ SameBut [.cmds, .mgmt, .out] s t)) ∧
  (∀ (s : State) (pid : PidWrite),
    (pid.target = none → s.on K.proxyAdmit = true → pid.pid ≤ 4095 ∨ pid.pid = 0xFFFF →
      ∃ t, exec (.remotePidAssignDelivery pid) s = .next t ∧
      t.r K.fabricSwitchPid = pid.pid ∧ (∀ k, k ≠ K.fabricSwitchPid → t.r k = s.r k) ∧
      (∀ q, t.towards pid.origin = some q → Ctl.carry (.remotePidConfirm q pid.origin true) ∈ (t.egress q).control) ∧
      SameBut [.fabric, .regs, .core] s t) ∧
    (pid.target = none → s.on K.proxyAdmit = false ∨ (4095 < pid.pid ∧ pid.pid ≠ 0xFFFF) →
      ∃ t, exec (.remotePidAssignDelivery pid) s = .next t ∧
      (∀ q, s.towards pid.origin = some q → Ctl.carry (.remotePidConfirm q pid.origin false) ∈ (t.egress q).control) ∧
      SameBut [.core] s t) ∧
    (∀ id, pid.target = some id → ∃ t, exec (.remotePidAssignDelivery pid) s = .next t ∧
      (∀ q, s.towards id = some q → Ctl.carry (.remotePid q id pid.pid) ∈ (t.egress q).control) ∧ SameBut [.core] s t)) ∧
  (∀ s : State, s.fabric.assigning.isSome = true → (s.cmd 0x5020).state = .pending →
    (∃ t, exec (.remotePidAssignConfirm true) s = .next t ∧ (t.cmd 0x5020).state = .done ∧ t.fabric.assigning = none ∧
      SameBut [.fabric, .cmds, .mgmt, .out] s t) ∧
    (∃ t, exec (.remotePidAssignConfirm false) s = .next t ∧ (t.cmd 0x5020).state = .failed ∧
      (t.cmd 0x5020).result = 0x0D03 ∧ t.fabric.assigning = none ∧ SameBut [.fabric, .cmds, .mgmt, .out] s t) ∧
    (10000000 ≤ s.nsAgo s.fabric.assignedAt → ∃ t, exec .remotePidAssignTimeout s = .next t ∧
      (t.cmd 0x5020).state = .failed ∧ (t.cmd 0x5020).result = 0x0D02 ∧
      t.fabric.assigning = none ∧ SameBut [.fabric, .cmds, .mgmt, .out] s t) ∧
    (s.nsAgo s.fabric.assignedAt < 10000000 → ∃ t, exec .remotePidAssignTimeout s = .next t ∧ SameBut [] s t)) ∧
  (∀ (s u : State) (e : JdpEnv) (args : List Byte) (dst kind : Nat) (down : Bool),
    Triggered s e 0x5041 (fun _ args => routeProbeChecks args) args u → dst = fieldAt args 2 2 → down = decide (args.getD 5 0 = 1) →
    kind = (if rowKind (s.r (K.fabricRoutingTable + dst)) = 3 then 3 else if s.ownsPid dst then 1
      else rowKind (s.r (K.fabricRoutingTable + dst))) →
    (∀ p, s.route (fieldAt args 0 2) dst (args.getD 4 0) down down = .port p → ∃ t, exec (.routeProbe e) s = .next t ∧
      (t.cmd 0x5041).state = .done ∧ (t.cmd 0x5041).results = [kind, p] ∧ SameBut [.cmds, .mgmt, .out] s t) ∧
    ((∀ p, s.route (fieldAt args 0 2) dst (args.getD 4 0) down down ≠ .port p) → ∃ t, exec (.routeProbe e) s = .next t ∧
      (t.cmd 0x5041).state = .done ∧ (t.cmd 0x5041).results = [kind, 0xFF] ∧ SameBut [.cmds, .mgmt, .out] s t)) ∧
  (∀ (s : State) (port : Option PortId) (said down : Bool) (came : Option Nat) (m : FabricMsg), s.forwarding = true →
    (∀ p, port = some p → s.isFabric p.val = true ∧ s.carries p.val = true) → came = port.map (·.val) →
    down = (match port with | some p => s.cameDown p.val said | none => false) →
    (s.route m.src.val m.dst.val m.classByte port.isSome down = .unroutable → ∃ t, exec (.fabricForward port said m) s = .next t ∧
      SameBut [.queue, .time] (((s.bump K.fabricUnroutable 1).answerFabric came m).freeFabric came m) t) ∧
    (s.route m.src.val m.dst.val m.classByte port.isSome down = .self → ∃ t, exec (.fabricForward port said m) s = .next t ∧
      SameBut [.queue, .time] (s.freeFabric came m) t) ∧
    (∀ q, s.route m.src.val m.dst.val m.classByte port.isSome down = .port q →
      (s.refusesTraffic q = true → ∃ t, exec (.fabricForward port said m) s = .next t ∧
        SameBut [.queue, .time] ((s.answerFabric (some q) m).freeFabric came m) t) ∧
      (s.refusesTraffic q = false → ∃ t, exec (.fabricForward port said m) s = .next t ∧
        (∀ p, came = some p → Tbl.getD t.core.rxq (16 * p + fabricChan m false) [] =
          Tbl.getD s.core.rxq (16 * p + fabricChan m false) [] ++ [s.fabricMsg p q m] ∧ SameBut [.core] s t)))) ∧
  (∀ (s : State) (port : Option PortId) (said : Bool) (m : FabricMsg),
    s.forwarding = false ∨ (∃ p, port = some p ∧ (s.isFabric p.val = false ∨ s.carries p.val = false)) →
    ∃ t, exec (.fabricForward port said m) s = .next t ∧ SameBut [] s t)

/-! ## Telemetry (15) -/

/-- Counters and samples: a window of counters is read, after the times that run have been counted, and without a change where none
runs; a snapshot is armed, unless it is late; its hold is
released; a sampled record becomes Valid, unless its row has been given to another; SampleTail moves forward, never past
SampleHead; a tenant that is granted telemetry reads its counters and samples through its mailbox. -/
def Obligations.CountersAndSamplesAreRead : Prop :=
  (∀ (s u : State) (e : JdpEnv) (p : Priv), Heard s e opRead 0x7002 0x01 p u → u.readRefusal 0x7002 0x01 = none →
    e.length = 0 → e.row < 2048 →
    (∃ t, exec (.counterWindowRead e) s = .next t ∧
      t.out = s.out ++ [.jdp (u.answered e opRead 0x7002 0x01 0
        ((upTo (min 176 (2048 - e.row))).flatMap (fun k => toBytes 8 (counterRow
          (Tbl.getD u.accrueTimes.tel.counters (e.row + k) (0, 0)).1
          (Tbl.getD u.accrueTimes.tel.counters (e.row + k) (0, 0)).2 0))))] ∧
      SameBut [.regs, .ports, .tel, .freeCtr, .mgmt, .out] s t) ∧
    (s.timesStand → ∃ t, exec (.counterWindowRead e) s = .next t ∧
      t.out = s.out ++ [.jdp (u.answered e opRead 0x7002 0x01 0
        ((upTo (min 176 (2048 - e.row))).flatMap (fun k => toBytes 8 (counterRow (Tbl.getD s.tel.counters (e.row + k) (0, 0)).1
          (Tbl.getD s.tel.counters (e.row + k) (0, 0)).2 0))))] ∧ SameBut [.mgmt, .out] s t)) ∧
  (∀ (s u : State) (e : JdpEnv) (args : List Byte), Triggered s e 0x7004 (fun s args => s.snapshotChecks args) args u →
    (s.afterCutoff (ofBytes args / 1024) = true → ∃ t, exec (.snapshotArm e) s = .next t ∧ (t.cmd 0x7004).state = .failed ∧
      (t.cmd 0x7004).result = 0x0301 ∧ SameBut [.cmds, .mgmt, .out] s t) ∧
    (s.afterCutoff (ofBytes args / 1024) = false → ∃ t, exec (.snapshotArm e) s = .next t ∧
      t.tel.snapshotAt = some (ofBytes args / 1024) ∧ (t.cmd 0x7004).state = .pending ∧
      SameBut [.tel, .cmds, .mgmt, .out] s t)) ∧
  (∀ (s u : State) (e : JdpEnv) (args : List Byte), Triggered s e 0x7005 (fun _ _ => {}) args u →
    ∃ t, exec (.shadowRelease e) s = .next t ∧ t.on K.telShadowHeld = false ∧ (∀ k, k ≠ K.telShadowHeld → t.r k = s.r k) ∧
      (t.cmd 0x7005).state = .done ∧ SameBut [.regs, .cmds, .mgmt, .out] s t) ∧
  (∀ (s : State) (n a b : Nat) (o : Fin 6),
    (∀ x, Tbl.find s.tel.samples (n % 65536) = some x →
      (x.number = n → x.valid = false → ∃ t y, exec (.sampleRecordComplete n a b o) s = .next t ∧
        Tbl.find t.tel.samples (n % 65536) = some y ∧
        y = { x with
          valid := true, outcome := o.val, toEgress := min a (2 ^ 20 - 1), toCompletion := min b (2 ^ 32 - 1) } ∧
        SameBut [.tel] s t) ∧
      (x.number = n → x.valid = true → ∃ t, exec (.sampleRecordComplete n a b o) s = .next t ∧ SameBut [] s t) ∧
      (x.number ≠ n → (x.number + 2 ^ 32 - n) % 2 ^ 32 < 2 ^ 31 → ∃ t, exec (.sampleRecordComplete n a b o) s = .next t ∧
        (s.r K.telRecordsAbandoned + 1 < 2 ^ Schema.width K.telRecordsAbandoned →
          t.r K.telRecordsAbandoned = s.r K.telRecordsAbandoned + 1) ∧
        (∀ k, k ≠ K.telRecordsAbandoned → t.r k = s.r k) ∧ SameBut [.regs, .freeCtr] s t) ∧
      (x.number ≠ n → 2 ^ 31 ≤ (x.number + 2 ^ 32 - n) % 2 ^ 32 →
        ∃ t, exec (.sampleRecordComplete n a b o) s = .next t ∧ SameBut [] s t)) ∧
    (Tbl.find s.tel.samples (n % 65536) = none →
      ∃ t, exec (.sampleRecordComplete n a b o) s = .next t ∧ SameBut [] s t)) ∧
  (∀ (s u : State) (e : JdpEnv) (p : Priv) (v : Nat), Heard s e opWrite 0x7000 0x06 p u →
    u.writeRefusal p 0x7000 0x06 = none → e.payload.length = 4 → v = ofBytes e.payload →
    ((v + 2 ^ 32 - s.r K.telSampleTail) % 2 ^ 32 ≤ (s.r K.telSampleHead + 2 ^ 32 - s.r K.telSampleTail) % 2 ^ 32 →
      ∃ t, exec (.sampleTailWrite e) s = .next t ∧ t.r K.telSampleTail = v ∧ (∀ k, k ≠ K.telSampleTail → t.r k = s.r k) ∧
        SameBut [.regs, .mgmt, .out] s t) ∧
    ((s.r K.telSampleHead + 2 ^ 32 - s.r K.telSampleTail) % 2 ^ 32 < (v + 2 ^ 32 - s.r K.telSampleTail) % 2 ^ 32 →
      ∃ t, exec (.sampleTailWrite e) s = .next t ∧
        t.out = s.out ++ [.jdp (u.answered e opWrite 0x7000 0x06 (if v < s.r K.telSampleTail then 0x0701 else 0x0702) [])] ∧
        SameBut [.mgmt, .out] s t)) ∧
  (∀ (s : State) (n : TenantId) (shadow : Bool) (start : Nat), s.on (K.tenantTelemetryGrant n.val) = false →
    (∃ t, exec (.readCounters n shadow) s = .next t ∧ t.out = s.out ++ [.mailbox n.val .unsupported []] ∧
      SameBut [.out] s t) ∧
    (∃ t, exec (.readSamples n start) s = .next t ∧ t.out = s.out ++ [.mailbox n.val .unsupported []] ∧
      SameBut [.out] s t)) ∧
  (∀ (s : State) (n : TenantId) (start : Nat) (mine : List Nat), s.on (K.tenantTelemetryGrant n.val) = true → s.timesStand →
    mine = (s.counterRows.filter (fun r => !r.2.testBit 53 && decide (bits r.2 52 47 = n.val))).map
      (fun r => r.1 - K.telCounterConfig) →
    (∃ t, exec (.readCounters n false) s = .next t ∧ t.out = s.out ++ [.mailbox n.val .success (mine.flatMap (fun c =>
        [c, counterRow (Tbl.getD s.tel.counters c (0, 0)).1 (Tbl.getD s.tel.counters c (0, 0)).2 0]))] ∧
      SameBut [.out] s t) ∧
    (∃ t, exec (.readCounters n true) s = .next t ∧ t.out = s.out ++ [.mailbox n.val .success (mine.flatMap (fun c =>
        [c, counterRow (Tbl.getD s.tel.counters c (0, 0)).1 (Tbl.getD s.tel.counters c (0, 0)).2 0, c,
          counterRow (Tbl.getD s.tel.shadow c ((0, 0), bits (s.r K.telShadowBeat) 17 10)).1.1
            (Tbl.getD s.tel.shadow c ((0, 0), bits (s.r K.telShadowBeat) 17 10)).1.2
            (Tbl.getD s.tel.shadow c ((0, 0), bits (s.r K.telShadowBeat) 17 10)).2]))] ∧ SameBut [.out] s t) ∧
    (s.r K.telSampleHead = start → start < 2 ^ 32 → ∃ t, exec (.readSamples n start) s = .next t ∧
      t.out = s.out ++ [.mailbox n.val .success [start]] ∧ SameBut [.out] s t) ∧
    (∃ t l next, exec (.readSamples n start) s = .next t ∧ t.out = s.out ++ [.mailbox n.val .success (l ++ [next])] ∧
      l.length ≤ 64 ∧ (∀ z ∈ l, ∃ k x, Tbl.find s.tel.samples k = some x ∧ x.tenant = n.val ∧ z = x.row) ∧
      SameBut [.out] s t))

/-! ## Hot-plug slots (16) -/

/-- Slots: a change of presence without power seats or unseats the card; a seated slot whose request is ON starts an attempt
by precharge or ramp, which goes to full drive once the output is up; a sample moves the fault timer and makes or ends
power-good; the owner asks for power, or takes it away. -/
def Obligations.SlotsSeatAttemptAndPower : Prop :=
  (∀ (s : State) (c : SlotId) (long short : Bool),
    ((s.slot c.val).long = long → (s.slot c.val).short = short →
      ∃ t, exec (.presenceChange c long short) s = .next t ∧ SameBut [] s t) ∧
    ((s.slot c.val).long ≠ long ∨ (s.slot c.val).short ≠ short → ∃ t, exec (.presenceChange c long short) s = .next t ∧
      t.r (K.slotPresence c.val) = 2 * ofBool long + ofBool short ∧ (t.slot c.val).seated = false ∧
      (s.gatesOn c.val = false → s.chan c.val ≠ .retired → t.chan c.val = (if long || short then .seating else .empty)) ∧
      (s.gatesOn c.val = true → t.chan c.val = s.chan c.val) ∧ SameBut [.regs, .onyx, .slots] s t)) ∧
  (∀ (s : State) (c : SlotId), (s.slot c.val).long = true → (s.slot c.val).short = true → (s.slot c.val).seated = false →
    s.device ≠ .boot → s.device ≠ .hold →
    ((s.slot c.val).changedAt + 10000 ≤ (s.slot c.val).count →
      ∃ t, exec (.presenceSeated c) s = .next t ∧ (t.slot c.val).seated = true ∧
        (s.chan c.val = .seating → t.chan c.val = .ready) ∧ (s.chan c.val ≠ .seating → t.regs = s.regs) ∧
        SameBut [.regs, .onyx, .slots] s t) ∧
    ((s.slot c.val).count < (s.slot c.val).changedAt + 10000 →
      ∃ t, exec (.presenceSeated c) s = .next t ∧ SameBut [] s t)) ∧
  (∀ (s : State) (c : SlotId) (i : Instr),
    (i = .attemptStart c ∧ s.chan c.val = .ready ∧ (s.device = .preop ∨ s.device = .operational) ∧
        max (s.slot c.val).seatedAt (s.slot c.val).requestAt + 100 * s.r (K.slotStartDelay c.val) ≤ (s.slot c.val).count ∧
        10000 ≤ s.r (K.slotInputVoltage c.val)) ∨
      (i = .retryOffTimeElapsed c ∧ s.chan c.val = .retryWait ∧ s.device ≠ .boot ∧ s.device ≠ .hold ∧
        (s.slot c.val).offTime ≤ 10 * ((s.slot c.val).count - (s.slot c.val).offAt) ∧
        10000 ≤ s.r (K.slotInputVoltage c.val)) ∨
      (i = .inputRestored c ∧ s.chan c.val = .inputLow ∧ (s.device = .preop ∨ s.device = .operational) ∧
        1000 ≤ (s.slot c.val).inOk) →
    (s.mayAttempt c.val = true → ∃ t, exec i s = .next t ∧
      t.chan c.val = (if s.r (K.slotInrushMode c.val) = 1 then .ramp else .precharge) ∧
      (t.slot c.val).hsg = decide (s.r (K.slotInrushMode c.val) = 1) ∧
      (t.slot c.val).pcg = decide (s.r (K.slotInrushMode c.val) ≠ 1) ∧ (t.slot c.val).timer = 0 ∧
      (t.slot c.val).attempt = true ∧ (∀ k, k ≠ K.slotChannelState c.val → t.r k = s.r k) ∧ SameBut [.regs, .slots] s t) ∧
    (s.mayAttempt c.val = false → ∃ t, exec i s = .next t ∧ SameBut [] s t)) ∧
  (∀ (s : State) (c : SlotId) (i : Instr),
    (i = .prechargeComplete c ∧ s.chan c.val = .precharge ∧ s.outputUp c.val = true) ∨
      (i = .rampComplete c ∧ s.chan c.val = .ramp ∧ s.outputNear c.val = true) →
    ∃ t, exec i s = .next t ∧ t.chan c.val = .fullDrive ∧ (t.slot c.val).hsg = true ∧
      (t.slot c.val).pcg = (s.slot c.val).pcg ∧ (t.slot c.val).driveAt = (s.slot c.val).count ∧
      (∀ k, k ≠ K.slotChannelState c.val → t.r k = s.r k) ∧ SameBut [.regs, .slots] s t) ∧
  (∀ (s : State) (c : SlotId), (s.slot c.val).hsg = true →
    ((s.slot c.val).driveAt + 100 ≤ (s.slot c.val).count → ∃ t, exec (.pcgTurnOff c) s = .next t ∧
      t.slot c.val = { s.slot c.val with pcg := false } ∧ SameBut [.slots] s t) ∧
    ((s.slot c.val).count < (s.slot c.val).driveAt + 100 → ∃ t, exec (.pcgTurnOff c) s = .next t ∧ SameBut [] s t)) ∧
  (∀ (s : State) (c : SlotId) (m : SlotMeas) (high good : Bool),
    high = (s.gatesOn c.val && decide (s.r (K.slotLimitThreshold c.val) * 100 ≤ m.sense)) →
    good = ((decide (s.chan c.val = .fullDrive) || decide (s.chan c.val = .powered)) &&
      decide (m.input % 65536 * s.r (K.slotPgThreshold c.val) ≤ m.output % 65536 * 100) &&
      decide (4000 ≤ m.hsgAboveOut) && !high) →
    (good = true ∨ s.slotPort c.val = none ∨ s.on (K.slotPowerGood c.val) = false →
      ∃ t, exec (.slotSample c m) s = .next t ∧ t.r (K.slotInputVoltage c.val) = m.input % 65536 ∧
        t.r (K.slotOutputVoltage c.val) = m.output % 65536 ∧ (t.slot c.val).sense = m.sense ∧
        (t.slot c.val).count = (s.slot c.val).count + 1 ∧
        (t.slot c.val).timer = (if high then (s.slot c.val).timer + 1
          else if (s.slot c.val).below + 1 < 16 then (s.slot c.val).timer else (s.slot c.val).timer - 1) ∧
        t.on (K.slotPowerGood c.val) = good ∧
        (good = true → s.on (K.slotPowerGood c.val) = false → t.chan c.val = .powered ∧ (t.slot c.val).trainDue = true) ∧
        SameBut [.regs, .slots] s t) ∧
    (∀ p, good = false → s.slotPort c.val = some p → s.on (K.slotPowerGood c.val) = true →
      ∃ t w, exec (.slotSample c m) s = .next t ∧ w.on (K.slotPowerGood c.val) = false ∧ SameBut [.regs, .slots] s w ∧
        SameBut [.queue, .time] (w.portDown p causeLinkDown) t)) ∧
  (∀ (s : State) (c : SlotId), s.on (K.slotPowerGood c.val) = true →
    ((s.slot c.val).goodAt + 100000 ≤ (s.slot c.val).count → ∃ t, exec (.retriesUsedReset c) s = .next t ∧
      t.r (K.slotRetriesUsed c.val) = 0 ∧ (∀ k, k ≠ K.slotRetriesUsed c.val → t.r k = s.r k) ∧ SameBut [.regs] s t) ∧
    ((s.slot c.val).goodAt + 10000 ≤ (s.slot c.val).count → ∃ t, exec (.slotPortTrainingStart c) s = .next t ∧
      t.slot c.val = { s.slot c.val with trainDue := false } ∧ SameBut [.slots] s t) ∧
    ((s.slot c.val).count < (s.slot c.val).goodAt + 10000 →
      (∃ t, exec (.retriesUsedReset c) s = .next t ∧ SameBut [] s t) ∧
      (∃ t, exec (.slotPortTrainingStart c) s = .next t ∧ SameBut [] s t))) ∧
  (∀ (s u : State) (e : JdpEnv) (c : SlotId) (p : Priv), Heard s e opWrite (0x7800 + c.val) 0x01 p u →
    u.writeRefusal p (0x7800 + c.val) 0x01 = none →
    (e.payload = [1] → s.chan c.val ≠ .retired → ∃ t, exec (.powerRequestOn e c) s = .next t ∧
      t.r (K.slotPowerRequest c.val) = 1 ∧ (∀ k, k ≠ K.slotPowerRequest c.val → t.r k = s.r k) ∧
      SameBut [.regs, .slots, .mgmt, .out] s t) ∧
    (e.payload = [1] → s.chan c.val = .retired → ∃ t, exec (.powerRequestOn e c) s = .next t ∧
      t.out = s.out ++ [.jdp (u.answered e opWrite (0x7800 + c.val) 0x01 0x0502 [])] ∧
      SameBut [.mgmt, .out] s t) ∧
    (e.payload = [0] → s.slotPort c.val = none ∨ s.on (K.slotPowerGood c.val) = false →
      ∃ t, exec (.powerRequestOff e c) s = .next t ∧ t.r (K.slotPowerRequest c.val) = 0 ∧
        t.r (K.slotRetriesUsed c.val) = 0 ∧ (s.chan c.val = .fullDrive ∨ s.chan c.val = .powered ∨ s.chan c.val = .ramp ∨
          s.chan c.val = .precharge ∨ s.chan c.val = .retryWait ∨ s.chan c.val = .inputLow →
          t.chan c.val = s.restChan c.val ∧ t.gatesOn c.val = false) ∧ SameBut [.regs, .slots, .mgmt, .out] s t))

/-- Slots: a trip turns the gates off, records its cause, and waits for a retry, or retires the channel when its retries are used;
a damaged pass path retires it at once; reverse current blocks a feed; an input too low and a lost card turn the slot off; a
slot that loses power-good takes its port's link down. -/
def Obligations.SlotsTripRetryAndRetire : Prop :=
  (∀ (s : State) (c : SlotId) (i : Instr) (cause k : Nat),
    (i = .prechargeTimeout c ∧ s.chan c.val = .precharge ∧
        100 * s.r (K.slotPrechargeTimeout c.val) ≤ (s.slot c.val).onSamples ∧ s.outputUp c.val = false ∧ cause = 3 ∧ k = 1) ∨
      (i = .faultTimerExpiry c ∧ s.gatesOn c.val = true ∧ s.r (K.slotFaultTime c.val) * 10 ≤ (s.slot c.val).timer ∧
        cause = 1 ∧ k = 1) →
    (∃ t, exec i s = .next t ∧ SameBut [.queue, .time] (s.trip c.val cause k) t) ∧
    (s.slotPort c.val = none ∨ s.on (K.slotPowerGood c.val) = false → s.chan c.val ≠ .retired →
      ∃ t, exec i s = .next t ∧ t.r (K.slotLastTripCause c.val) = cause ∧ t.gatesOn c.val = false ∧
        (s.r (K.slotRetriesUsed c.val) < s.r (K.slotRetryLimit c.val) ∨ s.r (K.slotRetryLimit c.val) = 255 →
          t.chan c.val = .retryWait ∧ t.r (K.slotRetriesUsed c.val) = min 254 (s.r (K.slotRetriesUsed c.val) + 1) ∧
          (t.slot c.val).offTime = max (99 * s.onTime c.val) 100000) ∧
        (s.r (K.slotRetryLimit c.val) ≤ s.r (K.slotRetriesUsed c.val) → s.r (K.slotRetryLimit c.val) ≠ 255 →
          t.chan c.val = .retired) ∧ SameBut [.regs, .freeCtr, .onyx, .slots] s t)) ∧
  (∀ (s : State) (x : SlotPeak) (c limit : Nat), c = x.slot.val →
    limit = s.r (K.slotFastTripMultiple c) * s.r (K.slotLimitThreshold c) * 100 →
    (s.gatesOn c = true → limit < x.sense → ∃ t, exec (.fastTrip x) s = .next t ∧
      SameBut [.queue, .time] ((s.modSlot c (fun y => { y with sense := x.sense })).trip c 2 2) t) ∧
    (s.gatesOn c = true → limit < x.sense → s.slotPort c = none ∨ s.on (K.slotPowerGood c) = false → s.chan c ≠ .retired →
      ∃ t, exec (.fastTrip x) s = .next t ∧ t.r (K.slotLastTripCause c) = 2 ∧ t.gatesOn c = false ∧
        (s.r (K.slotRetriesUsed c) < s.r (K.slotRetryLimit c) ∨ s.r (K.slotRetryLimit c) = 255 → t.chan c = .retryWait) ∧
        (s.r (K.slotRetryLimit c) ≤ s.r (K.slotRetriesUsed c) → s.r (K.slotRetryLimit c) ≠ 255 → t.chan c = .retired) ∧
        SameBut [.regs, .freeCtr, .onyx, .slots] s t) ∧
    (s.gatesOn c = false ∨ x.sense ≤ limit → ∃ t, exec (.fastTrip x) s = .next t ∧ SameBut [] s t)) ∧
  (∀ (s : State) (c : SlotId) (i : Instr) (cause : Nat),
    (i = .rampTimeout c ∧ s.chan c.val = .ramp ∧ (s.slot c.val).regulating = false ∧ s.rampLimit c.val ≤ s.onTime c.val ∧
        s.outputNear c.val = false ∧ cause = 4) ∨
      (i = .gateStuck c ∧ s.chan c.val = .fullDrive ∧ (s.slot c.val).driveAt + 200 ≤ (s.slot c.val).count ∧
        (s.slot c.val).hsgReached = false ∧ cause = 4) ∨
      (i = .shortedPassTransistor c ∧ s.gatesOn c.val = false ∧ 1000 ≤ (s.slot c.val).outHigh ∧ cause = 5) →
    s.slotPort c.val = none ∨ s.on (K.slotPowerGood c.val) = false →
    ∃ t, exec i s = .next t ∧ t.chan c.val = .retired ∧ t.r (K.slotLastTripCause c.val) = cause ∧
      t.gatesOn c.val = false ∧ (t.slot c.val).shorted = ((s.slot c.val).shorted || decide (cause = 5)) ∧
      SameBut [.regs, .onyx, .slots] s t) ∧
  (∀ (s : State) (c : SlotId) (i : Instr),
    (i = .prechargeTimeout c ∧ (s.slot c.val).onSamples < 100 * s.r (K.slotPrechargeTimeout c.val)) ∨
      (i = .faultTimerExpiry c ∧ (s.slot c.val).timer < s.r (K.slotFaultTime c.val) * 10) ∨
      (i = .rampTimeout c ∧ s.onTime c.val < s.rampLimit c.val) ∨
      (i = .gateStuck c ∧ (s.slot c.val).count < (s.slot c.val).driveAt + 200) ∨
      (i = .shortedPassTransistor c ∧ (s.slot c.val).outHigh < 1000) ∨
      (i = .inputLow c ∧ (s.slot c.val).inLow < 2) ∨ (i = .presenceLostTurnOff c ∧ (s.slot c.val).shortGone < 2) →
    ∃ t, exec i s = .next t ∧ SameBut [] s t) ∧
  (∀ (s : State) (c : SlotId) (f : Fin 2),
    (s.device ≠ .boot → s.device ≠ .hold →
      (∃ t, exec (.reverseCurrent c f) s = .next t ∧ (t.r (K.slotFeedStatus c.val)).testBit (3 - f.val) = false ∧
        (t.r (K.slotFeedStatus c.val)).testBit (1 - f.val) = true ∧
        (∀ k, k ≠ K.slotFeedStatus c.val → t.r k = s.r k) ∧ SameBut [.regs, .onyx, .slots] s t) ∧
      (∃ t, exec (.feedRecovery c f) s = .next t ∧ (t.r (K.slotFeedStatus c.val)).testBit (3 - f.val) = true ∧
        (t.r (K.slotFeedStatus c.val)).testBit (1 - f.val) = false ∧
        (∀ k, k ≠ K.slotFeedStatus c.val → t.r k = s.r k) ∧ SameBut [.regs, .slots] s t)) ∧
    (s.device = .boot ∨ s.device = .hold → (∃ t, exec (.reverseCurrent c f) s = .next t ∧ SameBut [] s t) ∧
      (∃ t, exec (.feedRecovery c f) s = .next t ∧ SameBut [] s t))) ∧
  (∀ (s : State) (c : SlotId),
    (s.gatesOn c.val = false → ∃ t, exec (.inputLow c) s = .next t ∧ SameBut [] s t) ∧
    (s.gatesOn c.val = true → s.slotPort c.val = none ∨ s.on (K.slotPowerGood c.val) = false → s.chan c.val ≠ .retired →
      (2 ≤ (s.slot c.val).inLow → ∃ t, exec (.inputLow c) s = .next t ∧ t.chan c.val = .inputLow ∧
        t.gatesOn c.val = false ∧ SameBut [.regs, .freeCtr, .slots] s t) ∧
      (2 ≤ (s.slot c.val).shortGone → ∃ t, exec (.presenceLostTurnOff c) s = .next t ∧ t.chan c.val = s.restChan c.val ∧
        t.gatesOn c.val = false ∧ t.r (K.slotLastTripCause c.val) = 6 ∧ SameBut [.regs, .slots] s t)) ∧
    (∀ p, s.gatesOn c.val = true → s.slotPort c.val = some p → s.on (K.slotPowerGood c.val) = true →
      2 ≤ (s.slot c.val).shortGone → ∃ t, exec (.presenceLostTurnOff c) s = .next t ∧
        SameBut [.regs, .slots, .queue, .time] ((((s.wb (K.slotPowerGood c.val) false).modSlot c.val (fun x =>
          { x with trainDue := false })).portDown p causeLinkDown)) t))
end

