-- ==== Sys2Proof/Laws/Arms.lean ====
section
/-! SUPPORT. Every arm of exec as a rewriting rule. -/

namespace Sys2Proof.Machine

variable (s : State)

@[simp] theorem exec_pwronRstNAssert : exec (.pwronRstNAssert) s = execPwronRstNAssert s := rfl
@[simp] theorem exec_pwronRstNRelease (powerOn : Bool) : exec (.pwronRstNRelease powerOn) s = execPwronRstNRelease powerOn s := rfl
@[simp] theorem exec_fuseLoadComplete (corrected : Nat) (uncorrectable : Bool) : exec (.fuseLoadComplete corrected uncorrectable) s = execFuseLoadComplete corrected uncorrectable s := rfl
@[simp] theorem exec_logicBistComplete (failed : BitVec 12) : exec (.logicBistComplete failed) s = execLogicBistComplete failed s := rfl
@[simp] theorem exec_memoryBistComplete (found : List BistFind) : exec (.memoryBistComplete found) s = execMemoryBistComplete found s := rfl
@[simp] theorem exec_fwLoadComplete : exec (.fwLoadComplete) s = execFwLoadComplete s := rfl
@[simp] theorem exec_fwInitComplete : exec (.fwInitComplete) s = execFwInitComplete s := rfl
@[simp] theorem exec_restorePhaseComplete : exec (.restorePhaseComplete) s = execRestorePhaseComplete s := rfl
@[simp] theorem exec_avsAcknowledge : exec (.avsAcknowledge) s = execAvsAcknowledge s := rfl
@[simp] theorem exec_avsTimeout : exec (.avsTimeout) s = execAvsTimeout s := rfl
@[simp] theorem exec_supplyOutOfRange (rails : BitVec 7) : exec (.supplyOutOfRange rails) s = execSupplyOutOfRange rails s := rfl
@[simp] theorem exec_temperatureReading (temps : List Int) : exec (.temperatureReading temps) s = execTemperatureReading temps s := rfl
@[simp] theorem exec_stateRequestStart (env : JdpEnv) : exec (.stateRequestStart env) s = execStateRequestStart env s := rfl
@[simp] theorem exec_stateRequestStop (env : JdpEnv) : exec (.stateRequestStop env) s = execStateRequestStop env s := rfl
@[simp] theorem exec_stateRequestReset (env : JdpEnv) : exec (.stateRequestReset env) s = execStateRequestReset env s := rfl
@[simp] theorem exec_registerWrite (env : JdpEnv) (index sub : Nat) : exec (.registerWrite env index sub) s = execRegisterWrite env index sub s := rfl
@[simp] theorem exec_readBlock (env : JdpEnv) (index sub : Nat) : exec (.readBlock env index sub) s = execReadBlock env index sub s := rfl
@[simp] theorem exec_writeBlock (env : JdpEnv) (index sub : Nat) : exec (.writeBlock env index sub) s = execWriteBlock env index sub s := rfl
@[simp] theorem exec_blockIdleTimeout (session : Nat) : exec (.blockIdleTimeout session) s = execBlockIdleTimeout session s := rfl
@[simp] theorem exec_hello (env : JdpEnv) : exec (.hello env) s = execHello env s := rfl
@[simp] theorem exec_proof (env : JdpEnv) : exec (.proof env) s = execProof env s := rfl
@[simp] theorem exec_challengeTimeout (session : Nat) : exec (.challengeTimeout session) s = execChallengeTimeout session s := rfl
@[simp] theorem exec_close (env : JdpEnv) : exec (.close env) s = execClose env s := rfl
@[simp] theorem exec_sessionIdleTimeout (session : Nat) : exec (.sessionIdleTimeout session) s = execSessionIdleTimeout session s := rfl
@[simp] theorem exec_subscribe (env : JdpEnv) : exec (.subscribe env) s = execSubscribe env s := rfl
@[simp] theorem exec_proxyRequest (env : JdpEnv) (operation index sub : Nat) : exec (.proxyRequest env operation index sub) s = execProxyRequest env operation index sub s := rfl
@[simp] theorem exec_proxyAnswer (request : Nat) (abort : Nat) (payload : Segment) : exec (.proxyAnswer request abort payload) s = execProxyAnswer request abort payload s := rfl
@[simp] theorem exec_proxyTimeout (request : Nat) : exec (.proxyTimeout request) s = execProxyTimeout request s := rfl
@[simp] theorem exec_credentialInstall (env : JdpEnv) : exec (.credentialInstall env) s = execCredentialInstall env s := rfl
@[simp] theorem exec_store (env : JdpEnv) : exec (.store env) s = execStore env s := rfl
@[simp] theorem exec_storeComplete (badWords : List Nat) (repeatBad : List Nat) : exec (.storeComplete badWords repeatBad) s = execStoreComplete badWords repeatBad s := rfl
@[simp] theorem exec_restore (env : JdpEnv) : exec (.restore env) s = execRestore env s := rfl
@[simp] theorem exec_checkCompute (env : JdpEnv) : exec (.checkCompute env) s = execCheckCompute env s := rfl
@[simp] theorem exec_checkComputeComplete (data : List Byte) (poisoned : Bool) : exec (.checkComputeComplete data poisoned) s = execCheckComputeComplete data poisoned s := rfl
@[simp] theorem exec_checkBytes (env : JdpEnv) : exec (.checkBytes env) s = execCheckBytes env s := rfl
@[simp] theorem exec_identify (via : FmVia) : exec (.identify via) s = execIdentify via s := rfl
@[simp] theorem exec_backgroundOperationStatus (via : FmVia) : exec (.backgroundOperationStatus via) s = execBackgroundOperationStatus via s := rfl
@[simp] theorem exec_getResponseMessageLimit (via : FmVia) : exec (.getResponseMessageLimit via) s = execGetResponseMessageLimit via s := rfl
@[simp] theorem exec_setResponseMessageLimit (via : FmVia) (limit : Nat) : exec (.setResponseMessageLimit via limit) s = execSetResponseMessageLimit via limit s := rfl
@[simp] theorem exec_identifySwitchDevice (via : FmVia) : exec (.identifySwitchDevice via) s = execIdentifySwitchDevice via s := rfl
@[simp] theorem exec_getPhysicalPortState (via : FmVia) (ports : List PortId) : exec (.getPhysicalPortState via ports) s = execGetPhysicalPortState via ports s := rfl
@[simp] theorem exec_physicalPortControl (via : FmVia) (port : PortId) (opcode : Nat) : exec (.physicalPortControl via port opcode) s = execPhysicalPortControl via port opcode s := rfl
@[simp] theorem exec_sendPpbCxlIoConfigurationRequest (via : FmVia) (port : PortId) (routingId register : Nat) (write : Bool) (data : Nat) : exec (.sendPpbCxlIoConfigurationRequest via port routingId register write data) s = execSendPpbCxlIoConfigurationRequest via port routingId register write data s := rfl
@[simp] theorem exec_getVirtualCxlSwitchInfo (via : FmVia) (tenant : TenantId) : exec (.getVirtualCxlSwitchInfo via tenant) s = execGetVirtualCxlSwitchInfo via tenant s := rfl
@[simp] theorem exec_bindVppb (via : FmVia) (tenant : TenantId) (vppb : Fin 32) (port ld : Nat) : exec (.bindVppb via tenant vppb port ld) s = execBindVppb via tenant vppb port ld s := rfl
@[simp] theorem exec_unbindVppb (via : FmVia) (tenant : TenantId) (vppb : Fin 32) (option : Nat) : exec (.unbindVppb via tenant vppb option) s = execUnbindVppb via tenant vppb option s := rfl
@[simp] theorem exec_managedRemoveTimeout : exec (.managedRemoveTimeout) s = execManagedRemoveTimeout s := rfl
@[simp] theorem exec_tunnelManagementCommand (via : FmVia) (target : Nat) (opcode : Nat) (payload : List Byte) : exec (.tunnelManagementCommand via target opcode payload) s = execTunnelManagementCommand via target opcode payload s := rfl
@[simp] theorem exec_getLdInfo (via : FmVia) (tenant : TenantId) : exec (.getLdInfo via tenant) s = execGetLdInfo via tenant s := rfl
@[simp] theorem exec_getLdAllocations (via : FmVia) (tenant : TenantId) : exec (.getLdAllocations via tenant) s = execGetLdAllocations via tenant s := rfl
@[simp] theorem exec_setLdAllocations (via : FmVia) (tenant : TenantId) (start : Fin 16) (sizes : List Nat) : exec (.setLdAllocations via tenant start sizes) s = execSetLdAllocations via tenant start sizes s := rfl
@[simp] theorem exec_fmApiOtherCommand (via : FmVia) (opcode : Nat) : exec (.fmApiOtherCommand via opcode) s = execFmApiOtherCommand via opcode s := rfl
@[simp] theorem exec_beatPulseEdge (input : Fin 2) (error phase : Int) : exec (.beatPulseEdge input error phase) s = execBeatPulseEdge input error phase s := rfl
@[simp] theorem exec_beatFrame (input : Fin 2) (frame : BitVec 64) : exec (.beatFrame input frame) s = execBeatFrame input frame s := rfl
@[simp] theorem exec_linkBeat (port : PortId) (number offset : Nat) (arrival early : Int) : exec (.linkBeat port number offset arrival early) s = execLinkBeat port number offset arrival early s := rfl
@[simp] theorem exec_linkDelayMeasurement (port : PortId) (roundTrip : Nat) : exec (.linkDelayMeasurement port roundTrip) s = execLinkDelayMeasurement port roundTrip s := rfl
@[simp] theorem exec_sourceJudgement : exec (.sourceJudgement) s = execSourceJudgement s := rfl
@[simp] theorem exec_holdoverLimitReached : exec (.holdoverLimitReached) s = execHoldoverLimitReached s := rfl
@[simp] theorem exec_beatBoundary : exec (.beatBoundary) s = execBeatBoundary s := rfl
@[simp] theorem exec_armingCutoff : exec (.armingCutoff) s = execArmingCutoff s := rfl
@[simp] theorem exec_applyPreparation : exec (.applyPreparation) s = execApplyPreparation s := rfl
@[simp] theorem exec_commitArm (env : JdpEnv) : exec (.commitArm env) s = execCommitArm env s := rfl
@[simp] theorem exec_stagedDiscard (env : JdpEnv) : exec (.stagedDiscard env) s = execStagedDiscard env s := rfl
@[simp] theorem exec_commitCancel (env : JdpEnv) : exec (.commitCancel env) s = execCommitCancel env s := rfl
@[simp] theorem exec_commitCancelReceive (port : PortId) (tag target : Nat) : exec (.commitCancelReceive port tag target) s = execCommitCancelReceive port tag target s := rfl
@[simp] theorem exec_beatReacquire (env : JdpEnv) : exec (.beatReacquire env) s = execBeatReacquire env s := rfl
@[simp] theorem exec_beatReacquireAdopt (src : BeatSrc) : exec (.beatReacquireAdopt src) s = execBeatReacquireAdopt src s := rfl
@[simp] theorem exec_meshPacketReceive (unit : MeshUnit) (packet : MeshPacket) (good : Bool) : exec (.meshPacketReceive unit packet good) s = execMeshPacketReceive unit packet good s := rfl
@[simp] theorem exec_meshAgeTick (router : Nat) (packet : MeshPacket) : exec (.meshAgeTick router packet) s = execMeshAgeTick router packet s := rfl
@[simp] theorem exec_lossOfSignal (lane : LaneId) : exec (.lossOfSignal lane) s = execLossOfSignal lane s := rfl
@[simp] theorem exec_lossOfSignalDeassert (lane : LaneId) : exec (.lossOfSignalDeassert lane) s = execLossOfSignalDeassert lane s := rfl
@[simp] theorem exec_lossOfLock (lane : LaneId) : exec (.lossOfLock lane) s = execLossOfLock lane s := rfl
@[simp] theorem exec_eyeScanComplete (lane : LaneId) (marginH marginV : Nat) : exec (.eyeScanComplete lane marginH marginV) s = execEyeScanComplete lane marginH marginV s := rfl
@[simp] theorem exec_portLockLost (port : PortId) : exec (.portLockLost port) s = execPortLockLost port s := rfl
@[simp] theorem exec_portLockRegained (port : PortId) : exec (.portLockRegained port) s = execPortLockRegained port s := rfl
@[simp] theorem exec_lockLossHoldExpiry (port : PortId) : exec (.lockLossHoldExpiry port) s = execLockLossHoldExpiry port s := rfl
@[simp] theorem exec_partnerRecovery (port : PortId) : exec (.partnerRecovery port) s = execPartnerRecovery port s := rfl
@[simp] theorem exec_trainingReachesL0 (port : PortId) (rate width : Nat) (partnerFlit partnerLopt : Bool) (polarity : LaneTraining) (partnerCount partnerLast : Nat) (partnerRetired : List Nat) : exec (.trainingReachesL0 port rate width partnerFlit partnerLopt polarity partnerCount partnerLast partnerRetired) s = execTrainingReachesL0 port rate width partnerFlit partnerLopt polarity partnerCount partnerLast partnerRetired s := rfl
@[simp] theorem exec_trainingAttemptFailure (port : PortId) : exec (.trainingAttemptFailure port) s = execTrainingAttemptFailure port s := rfl
@[simp] theorem exec_detectNoReceiver (port : PortId) : exec (.detectNoReceiver port) s = execDetectNoReceiver port s := rfl
@[simp] theorem exec_hotReset (port : PortId) : exec (.hotReset port) s = execHotReset port s := rfl
@[simp] theorem exec_weuriMarkerTransmit (port : PortId) : exec (.weuriMarkerTransmit port) s = execWeuriMarkerTransmit port s := rfl
@[simp] theorem exec_weuriMarkerReceive (port : PortId) (copies : List MarkerCopy) : exec (.weuriMarkerReceive port copies) s = execWeuriMarkerReceive port copies s := rfl
@[simp] theorem exec_laneParkExitReady (port : PortId) : exec (.laneParkExitReady port) s = execLaneParkExitReady port s := rfl
@[simp] theorem exec_ideKeyRefresh (env : JdpEnv) : exec (.ideKeyRefresh env) s = execIdeKeyRefresh env s := rfl
@[simp] theorem exec_ideMacFailure (port : PortId) : exec (.ideMacFailure port) s = execIdeMacFailure port s := rfl
@[simp] theorem exec_flitReceive (port : PortId) (sequence : Fin 4096) (crcGood : Bool) (payload : Nat) (corrected : Nat) : exec (.flitReceive port sequence crcGood payload corrected) s = execFlitReceive port sequence crcGood payload corrected s := rfl
@[simp] theorem exec_ackReceive (port : PortId) (sequence : Fin 4096) : exec (.ackReceive port sequence) s = execAckReceive port sequence s := rfl
@[simp] theorem exec_nakReceive (port : PortId) (sequence : Nak) : exec (.nakReceive port sequence) s = execNakReceive port sequence s := rfl
@[simp] theorem exec_replayTimerExpiry (port : PortId) : exec (.replayTimerExpiry port) s = execReplayTimerExpiry port s := rfl
@[simp] theorem exec_creditUpdateReceive (port : PortId) (chan : Chan) (headers datas : Credits) : exec (.creditUpdateReceive port chan headers datas) s = execCreditUpdateReceive port chan headers datas s := rfl
@[simp] theorem exec_creditUpdateRepeat (port : PortId) : exec (.creditUpdateRepeat port) s = execCreditUpdateRepeat port s := rfl
@[simp] theorem exec_creditTimeout (port : PortId) (chan : Chan) : exec (.creditTimeout port chan) s = execCreditTimeout port chan s := rfl
@[simp] theorem exec_memRequestIngress (port : PortId) (req : MemReq) : exec (.memRequestIngress port req) s = execMemRequestIngress port req s := rfl
@[simp] theorem exec_tlpIngress (port : PortId) (req : TlpReq) : exec (.tlpIngress port req) s = execTlpIngress port req s := rfl
@[simp] theorem exec_ingressStagingEntry (port : PortId) (chan : Chan) : exec (.ingressStagingEntry port chan) s = execIngressStagingEntry port chan s := rfl
@[simp] theorem exec_stageOneSend (input : SliceId) (slot : Nat) : exec (.stageOneSend input slot) s = execStageOneSend input slot s := rfl
@[simp] theorem exec_poolCellArrival (middle : SliceId) : exec (.poolCellArrival middle) s = execPoolCellArrival middle s := rfl
@[simp] theorem exec_stageTwoRead (middle : SliceId) (slot : Nat) : exec (.stageTwoRead middle slot) s = execStageTwoRead middle slot s := rfl
@[simp] theorem exec_internalDestinationTake (dest : Fin 13) (middle : SliceId) (headerError : BitVec 128) (payloadError : BitVec 1920) : exec (.internalDestinationTake dest middle headerError payloadError) s = execInternalDestinationTake dest middle headerError payloadError s := rfl
@[simp] theorem exec_resequencingArrival (output : SliceId) : exec (.resequencingArrival output) s = execResequencingArrival output s := rfl
@[simp] theorem exec_cellRelease (output : SliceId) (headerError : BitVec 128) (payloadError : BitVec 1920) : exec (.cellRelease output headerError payloadError) s = execCellRelease output headerError payloadError s := rfl
@[simp] theorem exec_deliveredCellFree (middle : SliceId) : exec (.deliveredCellFree middle) s = execDeliveredCellFree middle s := rfl
@[simp] theorem exec_auditSegment (middle : SliceId) (unlinked : List DescFind) : exec (.auditSegment middle unlinked) s = execAuditSegment middle unlinked s := rfl
@[simp] theorem exec_auditSegmentAbandon (middle : SliceId) : exec (.auditSegmentAbandon middle) s = execAuditSegmentAbandon middle s := rfl
@[simp] theorem exec_egressTransmitDecision (port : PortId) : exec (.egressTransmitDecision port) s = execEgressTransmitDecision port s := rfl
@[simp] theorem exec_queueSample (port : PortId) : exec (.queueSample port) s = execQueueSample port s := rfl
@[simp] theorem exec_tenantReset (env : JdpEnv) : exec (.tenantReset env) s = execTenantReset env s := rfl
@[simp] theorem exec_directorySweepComplete (home : HomeId) (tenant : TenantId) : exec (.directorySweepComplete home tenant) s = execDirectorySweepComplete home tenant s := rfl
@[simp] theorem exec_tenantCleanupEnd (tenant : TenantId) : exec (.tenantCleanupEnd tenant) s = execTenantCleanupEnd tenant s := rfl
@[simp] theorem exec_completionReceive (port : PortId) (dtag : Nat) (data : CplBody) (poisoned : Bool) (good : Bool) : exec (.completionReceive port dtag data poisoned good) s = execCompletionReceive port dtag data poisoned good s := rfl
@[simp] theorem exec_vmdCreate (env : JdpEnv) : exec (.vmdCreate env) s = execVmdCreate env s := rfl
@[simp] theorem exec_vmdDestroy (env : JdpEnv) : exec (.vmdDestroy env) s = execVmdDestroy env s := rfl
@[simp] theorem exec_vmdDrainComplete (vmd : VmdId) : exec (.vmdDrainComplete vmd) s = execVmdDrainComplete vmd s := rfl
@[simp] theorem exec_emulatedPowerControlWrite (tenant : TenantId) (vppb : Fin 32) (off : Bool) : exec (.emulatedPowerControlWrite tenant vppb off) s = execEmulatedPowerControlWrite tenant vppb off s := rfl
@[simp] theorem exec_emulatedAttentionAcknowledge (tenant : TenantId) (vppb : Fin 32) : exec (.emulatedAttentionAcknowledge tenant vppb) s = execEmulatedAttentionAcknowledge tenant vppb s := rfl
@[simp] theorem exec_attentionPress (env : JdpEnv) : exec (.attentionPress env) s = execAttentionPress env s := rfl
@[simp] theorem exec_hdmDecoderCommit (vmd : VmdId) (decoder : Fin 4) : exec (.hdmDecoderCommit vmd decoder) s = execHdmDecoderCommit vmd decoder s := rfl
@[simp] theorem exec_entryTableWrite (env : JdpEnv) : exec (.entryTableWrite env) s = execEntryTableWrite env s := rfl
@[simp] theorem exec_descriptorTableWrite (env : JdpEnv) : exec (.descriptorTableWrite env) s = execDescriptorTableWrite env s := rfl
@[simp] theorem exec_regionRunTableWrite (env : JdpEnv) : exec (.regionRunTableWrite env) s = execRegionRunTableWrite env s := rfl
@[simp] theorem exec_deviceInventoryWrite (env : JdpEnv) : exec (.deviceInventoryWrite env) s = execDeviceInventoryWrite env s := rfl
@[simp] theorem exec_entryRunWrite (env : JdpEnv) : exec (.entryRunWrite env) s = execEntryRunWrite env s := rfl
@[simp] theorem exec_entryRunWriteComplete : exec (.entryRunWriteComplete) s = execEntryRunWriteComplete s := rfl
@[simp] theorem exec_entryReplace (env : JdpEnv) : exec (.entryReplace env) s = execEntryReplace env s := rfl
@[simp] theorem exec_rowSettled (region : Bool) (row : Nat) : exec (.rowSettled region row) s = execRowSettled region row s := rfl
@[simp] theorem exec_backgroundWrite (bank : BankId) : exec (.backgroundWrite bank) s = execBackgroundWrite bank s := rfl
@[simp] theorem exec_extentCacheRefill (slice : SliceId) (entry : Nat) (eccUncorrectable eccCorrected : Bool) (waitNs : Nat) : exec (.extentCacheRefill slice entry eccUncorrectable eccCorrected waitNs) s = execExtentCacheRefill slice entry eccUncorrectable eccCorrected waitNs s := rfl
@[simp] theorem exec_poisonScrubComplete : exec (.poisonScrubComplete) s = execPoisonScrubComplete s := rfl
@[simp] theorem exec_homeAcquireArrival (home : HomeId) : exec (.homeAcquireArrival home) s = execHomeAcquireArrival home s := rfl
@[simp] theorem exec_homeAcquireStart (home : HomeId) : exec (.homeAcquireStart home) s = execHomeAcquireStart home s := rfl
@[simp] theorem exec_homeRelease (home : HomeId) : exec (.homeRelease home) s = execHomeRelease home s := rfl
@[simp] theorem exec_biconflict (port : PortId) (region : Fin 256) (line : Nat) : exec (.biconflict port region line) s = execBiconflict port region line s := rfl
@[simp] theorem exec_birspArrival (home : HomeId) (region : Fin 256) (line : Nat) (tenant : TenantId) (keeps : BiState) : exec (.birspArrival home region line tenant keeps) s = execBirspArrival home region line tenant keeps s := rfl
@[simp] theorem exec_homeMemoryCompletion (home : HomeId) (dtag : Nat) (data : Nat) (poisoned : Bool) : exec (.homeMemoryCompletion home dtag data poisoned) s = execHomeMemoryCompletion home dtag data poisoned s := rfl
@[simp] theorem exec_snoopAge (home : HomeId) (region : Fin 256) (line : Nat) (tenant : TenantId) : exec (.snoopAge home region line tenant) s = execSnoopAge home region line tenant s := rfl
@[simp] theorem exec_directoryScrub (home : HomeId) (set : Fin 16384) (way : Fin 16) (corrected uncorrectable : Bool) : exec (.directoryScrub home set way corrected uncorrectable) s = execDirectoryScrub home set way corrected uncorrectable s := rfl
@[simp] theorem exec_copyLockRequest (engine : EngineId) (line : Nat) : exec (.copyLockRequest engine line) s = execCopyLockRequest engine line s := rfl
@[simp] theorem exec_regionCreate (env : JdpEnv) : exec (.regionCreate env) s = execRegionCreate env s := rfl
@[simp] theorem exec_regionDestroy (env : JdpEnv) : exec (.regionDestroy env) s = execRegionDestroy env s := rfl
@[simp] theorem exec_regionRecall (env : JdpEnv) : exec (.regionRecall env) s = execRegionRecall env s := rfl
@[simp] theorem exec_regionRecallComplete : exec (.regionRecallComplete) s = execRegionRecallComplete s := rfl
@[simp] theorem exec_atomicEngineRequest : exec (.atomicEngineRequest) s = execAtomicEngineRequest s := rfl
@[simp] theorem exec_atomicWriteCompletion (dtag : Nat) : exec (.atomicWriteCompletion dtag) s = execAtomicWriteCompletion dtag s := rfl
@[simp] theorem exec_jobCreate (env : JdpEnv) : exec (.jobCreate env) s = execJobCreate env s := rfl
@[simp] theorem exec_jobCancel (env : JdpEnv) : exec (.jobCancel env) s = execJobCancel env s := rfl
@[simp] theorem exec_armSettled (engine : EngineId) : exec (.armSettled engine) s = execArmSettled engine s := rfl
@[simp] theorem exec_chunkStart (engine : EngineId) : exec (.chunkStart engine) s = execChunkStart engine s := rfl
@[simp] theorem exec_copyLineReadback (engine : EngineId) (line : Nat) (data : Nat) (poisoned : Bool) : exec (.copyLineReadback engine line data poisoned) s = execCopyLineReadback engine line data poisoned s := rfl
@[simp] theorem exec_dualWrite (engine : EngineId) : exec (.dualWrite engine) s = execDualWrite engine s := rfl
@[simp] theorem exec_dualWriteCompletion (engine : EngineId) (line : Nat) (legA legB : Bool) : exec (.dualWriteCompletion engine line legA legB) s = execDualWriteCompletion engine line legA legB s := rfl
@[simp] theorem exec_commitSettled (job : Fin 1024) : exec (.commitSettled job) s = execCommitSettled job s := rfl
@[simp] theorem exec_fabricHelloReceive (port : PortId) (hello : Hello) : exec (.fabricHelloReceive port hello) s = execFabricHelloReceive port hello s := rfl
@[simp] theorem exec_foreignNeighbour (port : PortId) : exec (.foreignNeighbour port) s = execForeignNeighbour port s := rfl
@[simp] theorem exec_helloLoss (port : PortId) : exec (.helloLoss port) s = execHelloLoss port s := rfl
@[simp] theorem exec_lsrReceive (port : PortId) (lsr : Lsr) : exec (.lsrReceive port lsr) s = execLsrReceive port lsr s := rfl
@[simp] theorem exec_lsrRefresh : exec (.lsrRefresh) s = execLsrRefresh s := rfl
@[simp] theorem exec_lsrExpiry (identity : Nat) : exec (.lsrExpiry identity) s = execLsrExpiry identity s := rfl
@[simp] theorem exec_remotePidAssign (env : JdpEnv) : exec (.remotePidAssign env) s = execRemotePidAssign env s := rfl
@[simp] theorem exec_remotePidAssignDelivery (pid : PidWrite) : exec (.remotePidAssignDelivery pid) s = execRemotePidAssignDelivery pid s := rfl
@[simp] theorem exec_remotePidAssignConfirm (admitted : Bool) : exec (.remotePidAssignConfirm admitted) s = execRemotePidAssignConfirm admitted s := rfl
@[simp] theorem exec_remotePidAssignTimeout : exec (.remotePidAssignTimeout) s = execRemotePidAssignTimeout s := rfl
@[simp] theorem exec_routeProbe (env : JdpEnv) : exec (.routeProbe env) s = execRouteProbe env s := rfl
@[simp] theorem exec_fabricForward (port : Option PortId) (arrivedDown : Bool) (msg : FabricMsg) : exec (.fabricForward port arrivedDown msg) s = execFabricForward port arrivedDown msg s := rfl
@[simp] theorem exec_acuSettled (unit : AcuId) : exec (.acuSettled unit) s = execAcuSettled unit s := rfl
@[simp] theorem exec_swapWrite (env : JdpEnv) (unit : AcuId) : exec (.swapWrite env unit) s = execSwapWrite env unit s := rfl
@[simp] theorem exec_onyxSweep : exec (.onyxSweep) s = execOnyxSweep s := rfl
@[simp] theorem exec_notificationDeadline : exec (.notificationDeadline) s = execNotificationDeadline s := rfl
@[simp] theorem exec_force (env : JdpEnv) (source : SourceId) : exec (.force env source) s = execForce env source s := rfl
@[simp] theorem exec_forceDry (env : JdpEnv) (source : SourceId) : exec (.forceDry env source) s = execForceDry env source s := rfl
@[simp] theorem exec_latchClear (env : JdpEnv) (source : SourceId) : exec (.latchClear env source) s = execLatchClear env source s := rfl
@[simp] theorem exec_occurrencesClear (env : JdpEnv) (source : SourceId) : exec (.occurrencesClear env source) s = execOccurrencesClear env source s := rfl
@[simp] theorem exec_clearLatches (env : JdpEnv) : exec (.clearLatches env) s = execClearLatches env s := rfl
@[simp] theorem exec_counterWindowRead (env : JdpEnv) : exec (.counterWindowRead env) s = execCounterWindowRead env s := rfl
@[simp] theorem exec_snapshotArm (env : JdpEnv) : exec (.snapshotArm env) s = execSnapshotArm env s := rfl
@[simp] theorem exec_shadowRelease (env : JdpEnv) : exec (.shadowRelease env) s = execShadowRelease env s := rfl
@[simp] theorem exec_sampleRecordComplete (record : Nat) (toEgress toCompletion : Nat) (outcome : Fin 6) : exec (.sampleRecordComplete record toEgress toCompletion outcome) s = execSampleRecordComplete record toEgress toCompletion outcome s := rfl
@[simp] theorem exec_sampleTailWrite (env : JdpEnv) : exec (.sampleTailWrite env) s = execSampleTailWrite env s := rfl
@[simp] theorem exec_readCounters (tenant : TenantId) (shadow : Bool) : exec (.readCounters tenant shadow) s = execReadCounters tenant shadow s := rfl
@[simp] theorem exec_readSamples (tenant : TenantId) (start : Nat) : exec (.readSamples tenant start) s = execReadSamples tenant start s := rfl
@[simp] theorem exec_presenceChange (slot : SlotId) (long short : Bool) : exec (.presenceChange slot long short) s = execPresenceChange slot long short s := rfl
@[simp] theorem exec_presenceSeated (slot : SlotId) : exec (.presenceSeated slot) s = execPresenceSeated slot s := rfl
@[simp] theorem exec_attemptStart (slot : SlotId) : exec (.attemptStart slot) s = execAttemptStart slot s := rfl
@[simp] theorem exec_slotSample (slot : SlotId) (m : SlotMeas) : exec (.slotSample slot m) s = execSlotSample slot m s := rfl
@[simp] theorem exec_prechargeComplete (slot : SlotId) : exec (.prechargeComplete slot) s = execPrechargeComplete slot s := rfl
@[simp] theorem exec_pcgTurnOff (slot : SlotId) : exec (.pcgTurnOff slot) s = execPcgTurnOff slot s := rfl
@[simp] theorem exec_prechargeTimeout (slot : SlotId) : exec (.prechargeTimeout slot) s = execPrechargeTimeout slot s := rfl
@[simp] theorem exec_rampComplete (slot : SlotId) : exec (.rampComplete slot) s = execRampComplete slot s := rfl
@[simp] theorem exec_rampTimeout (slot : SlotId) : exec (.rampTimeout slot) s = execRampTimeout slot s := rfl
@[simp] theorem exec_faultTimerExpiry (slot : SlotId) : exec (.faultTimerExpiry slot) s = execFaultTimerExpiry slot s := rfl
@[simp] theorem exec_fastTrip (slot : SlotPeak) : exec (.fastTrip slot) s = execFastTrip slot s := rfl
@[simp] theorem exec_retryOffTimeElapsed (slot : SlotId) : exec (.retryOffTimeElapsed slot) s = execRetryOffTimeElapsed slot s := rfl
@[simp] theorem exec_retriesUsedReset (slot : SlotId) : exec (.retriesUsedReset slot) s = execRetriesUsedReset slot s := rfl
@[simp] theorem exec_gateStuck (slot : SlotId) : exec (.gateStuck slot) s = execGateStuck slot s := rfl
@[simp] theorem exec_shortedPassTransistor (slot : SlotId) : exec (.shortedPassTransistor slot) s = execShortedPassTransistor slot s := rfl
@[simp] theorem exec_reverseCurrent (slot : SlotId) (feed : Fin 2) : exec (.reverseCurrent slot feed) s = execReverseCurrent slot feed s := rfl
@[simp] theorem exec_feedRecovery (slot : SlotId) (feed : Fin 2) : exec (.feedRecovery slot feed) s = execFeedRecovery slot feed s := rfl
@[simp] theorem exec_inputLow (slot : SlotId) : exec (.inputLow slot) s = execInputLow slot s := rfl
@[simp] theorem exec_inputRestored (slot : SlotId) : exec (.inputRestored slot) s = execInputRestored slot s := rfl
@[simp] theorem exec_powerRequestOn (env : JdpEnv) (slot : SlotId) : exec (.powerRequestOn env slot) s = execPowerRequestOn env slot s := rfl
@[simp] theorem exec_powerRequestOff (env : JdpEnv) (slot : SlotId) : exec (.powerRequestOff env slot) s = execPowerRequestOff env slot s := rfl
@[simp] theorem exec_presenceLostTurnOff (slot : SlotId) : exec (.presenceLostTurnOff slot) s = execPresenceLostTurnOff slot s := rfl
@[simp] theorem exec_slotPortTrainingStart (slot : SlotId) : exec (.slotPortTrainingStart slot) s = execSlotPortTrainingStart slot s := rfl
@[simp] theorem exec_flashSlotWrite (env : JdpEnv) (slotB : Bool) : exec (.flashSlotWrite env slotB) s = execFlashSlotWrite env slotB s := rfl
@[simp] theorem exec_imageCheck (env : JdpEnv) : exec (.imageCheck env) s = execImageCheck env s := rfl
@[simp] theorem exec_firmwareActivate (env : JdpEnv) : exec (.firmwareActivate env) s = execFirmwareActivate env s := rfl
@[simp] theorem exec_firmwareActivationEnd : exec (.firmwareActivationEnd) s = execFirmwareActivationEnd s := rfl
@[simp] theorem exec_repairListClear (env : JdpEnv) : exec (.repairListClear env) s = execRepairListClear env s := rfl
@[simp] theorem exec_domainDrainEnd (group : GroupId) : exec (.domainDrainEnd group) s = execDomainDrainEnd group s := rfl
@[simp] theorem exec_domainDrainTimeout (group : GroupId) : exec (.domainDrainTimeout group) s = execDomainDrainTimeout group s := rfl
@[simp] theorem exec_domainPowerOff (group : GroupId) : exec (.domainPowerOff group) s = execDomainPowerOff group s := rfl
@[simp] theorem exec_domainPowerUpEnd (group : GroupId) (found : List BistFind) : exec (.domainPowerUpEnd group found) s = execDomainPowerUpEnd group found s := rfl
@[simp] theorem exec_restoreComplete : exec (.restoreComplete) s = execRestoreComplete s := rfl
@[simp] theorem exec_copyReadCompletion (engine : EngineId) (line : Nat) (data : Nat) (poisoned : Bool) : exec (.copyReadCompletion engine line data poisoned) s = execCopyReadCompletion engine line data poisoned s := rfl
@[simp] theorem exec_copyWriteCompletion (engine : EngineId) (line : Nat) : exec (.copyWriteCompletion engine line) s = execCopyWriteCompletion engine line s := rfl
@[simp] theorem exec_atomicReadCompletion (dtag : Nat) (data : Nat) (poisoned : Bool) : exec (.atomicReadCompletion dtag data poisoned) s = execAtomicReadCompletion dtag data poisoned s := rfl
@[simp] theorem exec_debugPortAccess (space : Fin 5) (write : Bool) (target ld addr : Nat) (data : Nat) : exec (.debugPortAccess space write target ld addr data) s = execDebugPortAccess space write target ld addr data s := rfl
@[simp] theorem exec_clearEventRecords (vmd : VmdId) (handles : Option (List Nat)) : exec (.clearEventRecords vmd handles) s = execClearEventRecords vmd handles s := rfl
@[simp] theorem exec_ideKmRequest (tenant : TenantId) (port : PortId) : exec (.ideKmRequest tenant port) s = execIdeKmRequest tenant port s := rfl

end Sys2Proof.Machine
end

