-- ==== Sys2Proof/Laws/Tbl.lean ====
section
/-! SUPPORT. Sparse tables: reading after writing, and the canonical form that every operation keeps. -/

namespace Sys2Proof

variable {α : Type}

@[simp] theorem Tbl.find_put_self (t : Tbl α) (k : Nat) (v : α) : Tbl.find (Tbl.put t k v) k = some v := by
  induction t with
  | nil => simp [Tbl.put, Tbl.find]
  | cons e t ih =>
    obtain ⟨j, w⟩ := e
    simp only [Tbl.put]
    split
    · simp [Tbl.find]
    · split
      · simp [Tbl.find]
      · simp [Tbl.find, ih, *]

theorem Tbl.find_put_ne (t : Tbl α) {i k : Nat} (h : i ≠ k) (v : α) : Tbl.find (Tbl.put t k v) i = Tbl.find t i := by
  induction t with
  | nil => simp [Tbl.put, Tbl.find, Ne.symm h]
  | cons e t ih =>
    obtain ⟨j, w⟩ := e
    simp only [Tbl.put]
    split
    · subst_vars; simp [Tbl.find, Ne.symm h]
    · split
      · simp [Tbl.find, Ne.symm h]
      · simp [Tbl.find, ih]

@[simp] theorem Tbl.find_del_self (t : Tbl α) (k : Nat) : Tbl.find (Tbl.del t k) k = none := by
  induction t with
  | nil => rfl
  | cons e t ih =>
    obtain ⟨j, w⟩ := e
    simp only [Tbl.del]
    split
    · exact ih
    · simp [Tbl.find, ih, *]

theorem Tbl.find_del_ne (t : Tbl α) {i k : Nat} (h : i ≠ k) : Tbl.find (Tbl.del t k) i = Tbl.find t i := by
  induction t with
  | nil => rfl
  | cons e t ih =>
    obtain ⟨j, w⟩ := e
    simp only [Tbl.del]
    split
    · subst_vars; simp [Tbl.find, ih, Ne.symm h]
    · simp [Tbl.find, ih]

@[simp] theorem Tbl.getD_put_self (t : Tbl α) (k : Nat) (v d : α) : Tbl.getD (Tbl.put t k v) k d = v := by
  simp [Tbl.getD]

theorem Tbl.getD_put_ne (t : Tbl α) {i k : Nat} (h : i ≠ k) (v d : α) :
    Tbl.getD (Tbl.put t k v) i d = Tbl.getD t i d := by simp [Tbl.getD, Tbl.find_put_ne t h]

@[simp] theorem Tbl.getD_putD_self [DecidableEq α] (t : Tbl α) (k : Nat) (v d : α) :
    Tbl.getD (Tbl.putD t k v d) k d = v := by
  unfold Tbl.putD
  split
  · simp [Tbl.getD, *]
  · simp

theorem Tbl.getD_putD_ne [DecidableEq α] (t : Tbl α) {i k : Nat} (h : i ≠ k) (v d e : α) :
    Tbl.getD (Tbl.putD t k v d) i e = Tbl.getD t i e := by
  unfold Tbl.putD
  split
  · simp [Tbl.getD, Tbl.find_del_ne t h]
  · simp [Tbl.getD, Tbl.find_put_ne t h]

/-- Every key of the table lies above a bound. -/
def Tbl.above (b : Nat) (t : Tbl α) : Prop := ∀ e ∈ t, b < e.1

theorem Tbl.rising_cons (j : Nat) (w : α) (t : Tbl α) :
    Tbl.rising ((j, w) :: t) = true ↔ Tbl.above j t ∧ Tbl.rising t = true := by
  induction t generalizing j w with
  | nil => simp [Tbl.rising, Tbl.above]
  | cons e t ih =>
    obtain ⟨k, v⟩ := e
    simp only [Tbl.rising, Bool.and_eq_true, decide_eq_true_eq]
    constructor
    · intro ⟨h, r⟩
      refine ⟨?_, r⟩
      intro e he
      rcases List.mem_cons.1 he with rfl | he
      · exact h
      · exact Nat.lt_trans h (((ih k v).1 r).1 e he)
    · intro ⟨h, r⟩
      exact ⟨h (k, v) (by simp), r⟩

theorem Tbl.mem_put (t : Tbl α) (k : Nat) (v : α) (e : Nat × α) (h : e ∈ Tbl.put t k v) : e = (k, v) ∨ e ∈ t := by
  induction t with
  | nil => simpa [Tbl.put] using h
  | cons x t ih =>
    obtain ⟨j, w⟩ := x
    simp only [Tbl.put] at h
    split at h
    · rcases List.mem_cons.1 h with h | h
      · exact .inl h
      · exact .inr (by simp [h])
    · split at h
      · rcases List.mem_cons.1 h with h | h
        · exact .inl h
        · exact .inr h
      · rcases List.mem_cons.1 h with h | h
        · exact .inr (by simp [h])
        · rcases ih h with h | h
          · exact .inl h
          · exact .inr (by simp [h])

theorem Tbl.mem_del (t : Tbl α) (k : Nat) (e : Nat × α) (h : e ∈ Tbl.del t k) : e ∈ t := by
  induction t with
  | nil => simpa [Tbl.del] using h
  | cons x t ih =>
    obtain ⟨j, w⟩ := x
    simp only [Tbl.del] at h
    split at h
    · exact .tail _ (ih h)
    · rcases List.mem_cons.1 h with h | h
      · simp [h]
      · exact .tail _ (ih h)

theorem Tbl.rising_put (t : Tbl α) (k : Nat) (v : α) (h : Tbl.rising t = true) : Tbl.rising (Tbl.put t k v) = true := by
  induction t with
  | nil => rfl
  | cons x t ih =>
    obtain ⟨j, w⟩ := x
    have hr := (Tbl.rising_cons j w t).1 h
    simp only [Tbl.put]
    split
    · subst_vars; exact (Tbl.rising_cons _ _ _).2 hr
    · split
      · refine (Tbl.rising_cons _ _ _).2 ⟨?_, h⟩
        intro e he
        rcases List.mem_cons.1 he with rfl | he
        · assumption
        · exact Nat.lt_trans ‹k < j› (hr.1 e he)
      · refine (Tbl.rising_cons _ _ _).2 ⟨?_, ih hr.2⟩
        intro e he
        rcases Tbl.mem_put _ _ _ _ he with rfl | he
        · show j < k; omega
        · exact hr.1 e he

theorem Tbl.rising_del (t : Tbl α) (k : Nat) (h : Tbl.rising t = true) : Tbl.rising (Tbl.del t k) = true := by
  induction t with
  | nil => rfl
  | cons x t ih =>
    obtain ⟨j, w⟩ := x
    have hr := (Tbl.rising_cons j w t).1 h
    simp only [Tbl.del]
    split
    · exact ih hr.2
    · exact (Tbl.rising_cons _ _ _).2 ⟨fun e he => hr.1 e (Tbl.mem_del _ _ _ he), ih hr.2⟩

/-- Writing keeps the canonical form. -/
theorem Tbl.wf_putD [DecidableEq α] (t : Tbl α) (k : Nat) (v d : α) (h : Tbl.wf t d = true) :
    Tbl.wf (Tbl.putD t k v d) d = true := by
  simp only [Tbl.wf, Bool.and_eq_true, List.all_eq_true, decide_eq_true_eq] at h ⊢
  unfold Tbl.putD
  split
  · exact ⟨Tbl.rising_del t k h.1, fun e he => h.2 e (Tbl.mem_del _ _ _ he)⟩
  · refine ⟨Tbl.rising_put t k v h.1, fun e he => ?_⟩
    rcases Tbl.mem_put _ _ _ _ he with rfl | he
    · assumption
    · exact h.2 e he

end Sys2Proof
end

