-- ==== Sys2Proof/Laws/State.lean ====
section
/-! SUPPORT. What each update of the state leaves of each field, and reading an object after writing one. -/

namespace Sys2Proof.Machine

variable (s : State)

@[simp] theorem State.w_pending (k v : Nat) : (s.w k v).pending = s.pending := rfl
@[simp] theorem State.w_beat (k v : Nat) : (s.w k v).beat = s.beat := rfl
@[simp] theorem State.w_tick (k v : Nat) : (s.w k v).tick = s.tick := rfl
@[simp] theorem State.w_clock (k v : Nat) : (s.w k v).clock = s.clock := rfl
@[simp] theorem State.w_out (k v : Nat) : (s.w k v).out = s.out := rfl
@[simp] theorem State.w_freeCtr (k v : Nat) : (s.w k v).freeCtr = s.freeCtr := rfl
@[simp] theorem State.w_staged (k v : Nat) : (s.w k v).staged = s.staged := rfl
@[simp] theorem State.w_stagedActs (k v : Nat) : (s.w k v).stagedActs = s.stagedActs := rfl
@[simp] theorem State.w_armed (k v : Nat) : (s.w k v).armed = s.armed := rfl
@[simp] theorem State.w_commits (k v : Nat) : (s.w k v).commits = s.commits := rfl
@[simp] theorem State.w_cmds (k v : Nat) : (s.w k v).cmds = s.cmds := rfl
@[simp] theorem State.w_pins (k v : Nat) : (s.w k v).pins = s.pins := rfl
@[simp] theorem State.w_store (k v : Nat) : (s.w k v).store = s.store := rfl
@[simp] theorem State.w_flash (k v : Nat) : (s.w k v).flash = s.flash := rfl
@[simp] theorem State.w_mgmt (k v : Nat) : (s.w k v).mgmt = s.mgmt := rfl
@[simp] theorem State.w_quartz (k v : Nat) : (s.w k v).quartz = s.quartz := rfl
@[simp] theorem State.w_onyx (k v : Nat) : (s.w k v).onyx = s.onyx := rfl
@[simp] theorem State.w_startup (k v : Nat) : (s.w k v).startup = s.startup := rfl
@[simp] theorem State.w_mesh (k v : Nat) : (s.w k v).mesh = s.mesh := rfl
@[simp] theorem State.w_core (k v : Nat) : (s.w k v).core = s.core := rfl
@[simp] theorem State.w_ports (k v : Nat) : (s.w k v).ports = s.ports := rfl
@[simp] theorem State.w_atomic (k v : Nat) : (s.w k v).atomic = s.atomic := rfl
@[simp] theorem State.w_tenants (k v : Nat) : (s.w k v).tenants = s.tenants := rfl
@[simp] theorem State.w_vmds (k v : Nat) : (s.w k v).vmds = s.vmds := rfl
@[simp] theorem State.w_regions (k v : Nat) : (s.w k v).regions = s.regions := rfl
@[simp] theorem State.w_beryl (k v : Nat) : (s.w k v).beryl = s.beryl := rfl
@[simp] theorem State.w_garnet (k v : Nat) : (s.w k v).garnet = s.garnet := rfl
@[simp] theorem State.w_jasper (k v : Nat) : (s.w k v).jasper = s.jasper := rfl
@[simp] theorem State.w_fabric (k v : Nat) : (s.w k v).fabric = s.fabric := rfl
@[simp] theorem State.w_tel (k v : Nat) : (s.w k v).tel = s.tel := rfl
@[simp] theorem State.w_slots (k v : Nat) : (s.w k v).slots = s.slots := rfl

@[simp] theorem State.emit_pending (o : Out) : (s.emit o).pending = s.pending := rfl
@[simp] theorem State.emit_beat (o : Out) : (s.emit o).beat = s.beat := rfl
@[simp] theorem State.emit_tick (o : Out) : (s.emit o).tick = s.tick := rfl
@[simp] theorem State.emit_clock (o : Out) : (s.emit o).clock = s.clock := rfl
@[simp] theorem State.emit_freeCtr (o : Out) : (s.emit o).freeCtr = s.freeCtr := rfl
@[simp] theorem State.emit_regs (o : Out) : (s.emit o).regs = s.regs := rfl
@[simp] theorem State.emit_staged (o : Out) : (s.emit o).staged = s.staged := rfl
@[simp] theorem State.emit_stagedActs (o : Out) : (s.emit o).stagedActs = s.stagedActs := rfl
@[simp] theorem State.emit_armed (o : Out) : (s.emit o).armed = s.armed := rfl
@[simp] theorem State.emit_commits (o : Out) : (s.emit o).commits = s.commits := rfl
@[simp] theorem State.emit_cmds (o : Out) : (s.emit o).cmds = s.cmds := rfl
@[simp] theorem State.emit_pins (o : Out) : (s.emit o).pins = s.pins := rfl
@[simp] theorem State.emit_store (o : Out) : (s.emit o).store = s.store := rfl
@[simp] theorem State.emit_flash (o : Out) : (s.emit o).flash = s.flash := rfl
@[simp] theorem State.emit_mgmt (o : Out) : (s.emit o).mgmt = s.mgmt := rfl
@[simp] theorem State.emit_quartz (o : Out) : (s.emit o).quartz = s.quartz := rfl
@[simp] theorem State.emit_onyx (o : Out) : (s.emit o).onyx = s.onyx := rfl
@[simp] theorem State.emit_startup (o : Out) : (s.emit o).startup = s.startup := rfl
@[simp] theorem State.emit_mesh (o : Out) : (s.emit o).mesh = s.mesh := rfl
@[simp] theorem State.emit_core (o : Out) : (s.emit o).core = s.core := rfl
@[simp] theorem State.emit_ports (o : Out) : (s.emit o).ports = s.ports := rfl
@[simp] theorem State.emit_atomic (o : Out) : (s.emit o).atomic = s.atomic := rfl
@[simp] theorem State.emit_tenants (o : Out) : (s.emit o).tenants = s.tenants := rfl
@[simp] theorem State.emit_vmds (o : Out) : (s.emit o).vmds = s.vmds := rfl
@[simp] theorem State.emit_regions (o : Out) : (s.emit o).regions = s.regions := rfl
@[simp] theorem State.emit_beryl (o : Out) : (s.emit o).beryl = s.beryl := rfl
@[simp] theorem State.emit_garnet (o : Out) : (s.emit o).garnet = s.garnet := rfl
@[simp] theorem State.emit_jasper (o : Out) : (s.emit o).jasper = s.jasper := rfl
@[simp] theorem State.emit_fabric (o : Out) : (s.emit o).fabric = s.fabric := rfl
@[simp] theorem State.emit_tel (o : Out) : (s.emit o).tel = s.tel := rfl
@[simp] theorem State.emit_slots (o : Out) : (s.emit o).slots = s.slots := rfl

@[simp] theorem State.modPort_pending (p : Nat) (f : PortSt → PortSt) : (s.modPort p f).pending = s.pending := rfl
@[simp] theorem State.modPort_beat (p : Nat) (f : PortSt → PortSt) : (s.modPort p f).beat = s.beat := rfl
@[simp] theorem State.modPort_tick (p : Nat) (f : PortSt → PortSt) : (s.modPort p f).tick = s.tick := rfl
@[simp] theorem State.modPort_clock (p : Nat) (f : PortSt → PortSt) : (s.modPort p f).clock = s.clock := rfl
@[simp] theorem State.modPort_out (p : Nat) (f : PortSt → PortSt) : (s.modPort p f).out = s.out := rfl
@[simp] theorem State.modPort_freeCtr (p : Nat) (f : PortSt → PortSt) : (s.modPort p f).freeCtr = s.freeCtr := rfl
@[simp] theorem State.modPort_regs (p : Nat) (f : PortSt → PortSt) : (s.modPort p f).regs = s.regs := rfl
@[simp] theorem State.modPort_staged (p : Nat) (f : PortSt → PortSt) : (s.modPort p f).staged = s.staged := rfl
@[simp] theorem State.modPort_stagedActs (p : Nat) (f : PortSt → PortSt) : (s.modPort p f).stagedActs = s.stagedActs := rfl
@[simp] theorem State.modPort_armed (p : Nat) (f : PortSt → PortSt) : (s.modPort p f).armed = s.armed := rfl
@[simp] theorem State.modPort_commits (p : Nat) (f : PortSt → PortSt) : (s.modPort p f).commits = s.commits := rfl
@[simp] theorem State.modPort_cmds (p : Nat) (f : PortSt → PortSt) : (s.modPort p f).cmds = s.cmds := rfl
@[simp] theorem State.modPort_pins (p : Nat) (f : PortSt → PortSt) : (s.modPort p f).pins = s.pins := rfl
@[simp] theorem State.modPort_store (p : Nat) (f : PortSt → PortSt) : (s.modPort p f).store = s.store := rfl
@[simp] theorem State.modPort_flash (p : Nat) (f : PortSt → PortSt) : (s.modPort p f).flash = s.flash := rfl
@[simp] theorem State.modPort_mgmt (p : Nat) (f : PortSt → PortSt) : (s.modPort p f).mgmt = s.mgmt := rfl
@[simp] theorem State.modPort_quartz (p : Nat) (f : PortSt → PortSt) : (s.modPort p f).quartz = s.quartz := rfl
@[simp] theorem State.modPort_onyx (p : Nat) (f : PortSt → PortSt) : (s.modPort p f).onyx = s.onyx := rfl
@[simp] theorem State.modPort_startup (p : Nat) (f : PortSt → PortSt) : (s.modPort p f).startup = s.startup := rfl
@[simp] theorem State.modPort_mesh (p : Nat) (f : PortSt → PortSt) : (s.modPort p f).mesh = s.mesh := rfl
@[simp] theorem State.modPort_core (p : Nat) (f : PortSt → PortSt) : (s.modPort p f).core = s.core := rfl
@[simp] theorem State.modPort_atomic (p : Nat) (f : PortSt → PortSt) : (s.modPort p f).atomic = s.atomic := rfl
@[simp] theorem State.modPort_tenants (p : Nat) (f : PortSt → PortSt) : (s.modPort p f).tenants = s.tenants := rfl
@[simp] theorem State.modPort_vmds (p : Nat) (f : PortSt → PortSt) : (s.modPort p f).vmds = s.vmds := rfl
@[simp] theorem State.modPort_regions (p : Nat) (f : PortSt → PortSt) : (s.modPort p f).regions = s.regions := rfl
@[simp] theorem State.modPort_beryl (p : Nat) (f : PortSt → PortSt) : (s.modPort p f).beryl = s.beryl := rfl
@[simp] theorem State.modPort_garnet (p : Nat) (f : PortSt → PortSt) : (s.modPort p f).garnet = s.garnet := rfl
@[simp] theorem State.modPort_jasper (p : Nat) (f : PortSt → PortSt) : (s.modPort p f).jasper = s.jasper := rfl
@[simp] theorem State.modPort_fabric (p : Nat) (f : PortSt → PortSt) : (s.modPort p f).fabric = s.fabric := rfl
@[simp] theorem State.modPort_tel (p : Nat) (f : PortSt → PortSt) : (s.modPort p f).tel = s.tel := rfl
@[simp] theorem State.modPort_slots (p : Nat) (f : PortSt → PortSt) : (s.modPort p f).slots = s.slots := rfl

@[simp] theorem State.modTenant_pending (t : Nat) (f : TenantSt → TenantSt) : (s.modTenant t f).pending = s.pending := rfl
@[simp] theorem State.modTenant_beat (t : Nat) (f : TenantSt → TenantSt) : (s.modTenant t f).beat = s.beat := rfl
@[simp] theorem State.modTenant_tick (t : Nat) (f : TenantSt → TenantSt) : (s.modTenant t f).tick = s.tick := rfl
@[simp] theorem State.modTenant_clock (t : Nat) (f : TenantSt → TenantSt) : (s.modTenant t f).clock = s.clock := rfl
@[simp] theorem State.modTenant_out (t : Nat) (f : TenantSt → TenantSt) : (s.modTenant t f).out = s.out := rfl
@[simp] theorem State.modTenant_freeCtr (t : Nat) (f : TenantSt → TenantSt) : (s.modTenant t f).freeCtr = s.freeCtr := rfl
@[simp] theorem State.modTenant_regs (t : Nat) (f : TenantSt → TenantSt) : (s.modTenant t f).regs = s.regs := rfl
@[simp] theorem State.modTenant_staged (t : Nat) (f : TenantSt → TenantSt) : (s.modTenant t f).staged = s.staged := rfl
@[simp] theorem State.modTenant_stagedActs (t : Nat) (f : TenantSt → TenantSt) : (s.modTenant t f).stagedActs = s.stagedActs := rfl
@[simp] theorem State.modTenant_armed (t : Nat) (f : TenantSt → TenantSt) : (s.modTenant t f).armed = s.armed := rfl
@[simp] theorem State.modTenant_commits (t : Nat) (f : TenantSt → TenantSt) : (s.modTenant t f).commits = s.commits := rfl
@[simp] theorem State.modTenant_cmds (t : Nat) (f : TenantSt → TenantSt) : (s.modTenant t f).cmds = s.cmds := rfl
@[simp] theorem State.modTenant_pins (t : Nat) (f : TenantSt → TenantSt) : (s.modTenant t f).pins = s.pins := rfl
@[simp] theorem State.modTenant_store (t : Nat) (f : TenantSt → TenantSt) : (s.modTenant t f).store = s.store := rfl
@[simp] theorem State.modTenant_flash (t : Nat) (f : TenantSt → TenantSt) : (s.modTenant t f).flash = s.flash := rfl
@[simp] theorem State.modTenant_mgmt (t : Nat) (f : TenantSt → TenantSt) : (s.modTenant t f).mgmt = s.mgmt := rfl
@[simp] theorem State.modTenant_quartz (t : Nat) (f : TenantSt → TenantSt) : (s.modTenant t f).quartz = s.quartz := rfl
@[simp] theorem State.modTenant_onyx (t : Nat) (f : TenantSt → TenantSt) : (s.modTenant t f).onyx = s.onyx := rfl
@[simp] theorem State.modTenant_startup (t : Nat) (f : TenantSt → TenantSt) : (s.modTenant t f).startup = s.startup := rfl
@[simp] theorem State.modTenant_mesh (t : Nat) (f : TenantSt → TenantSt) : (s.modTenant t f).mesh = s.mesh := rfl
@[simp] theorem State.modTenant_core (t : Nat) (f : TenantSt → TenantSt) : (s.modTenant t f).core = s.core := rfl
@[simp] theorem State.modTenant_ports (t : Nat) (f : TenantSt → TenantSt) : (s.modTenant t f).ports = s.ports := rfl
@[simp] theorem State.modTenant_atomic (t : Nat) (f : TenantSt → TenantSt) : (s.modTenant t f).atomic = s.atomic := rfl
@[simp] theorem State.modTenant_vmds (t : Nat) (f : TenantSt → TenantSt) : (s.modTenant t f).vmds = s.vmds := rfl
@[simp] theorem State.modTenant_regions (t : Nat) (f : TenantSt → TenantSt) : (s.modTenant t f).regions = s.regions := rfl
@[simp] theorem State.modTenant_beryl (t : Nat) (f : TenantSt → TenantSt) : (s.modTenant t f).beryl = s.beryl := rfl
@[simp] theorem State.modTenant_garnet (t : Nat) (f : TenantSt → TenantSt) : (s.modTenant t f).garnet = s.garnet := rfl
@[simp] theorem State.modTenant_jasper (t : Nat) (f : TenantSt → TenantSt) : (s.modTenant t f).jasper = s.jasper := rfl
@[simp] theorem State.modTenant_fabric (t : Nat) (f : TenantSt → TenantSt) : (s.modTenant t f).fabric = s.fabric := rfl
@[simp] theorem State.modTenant_tel (t : Nat) (f : TenantSt → TenantSt) : (s.modTenant t f).tel = s.tel := rfl
@[simp] theorem State.modTenant_slots (t : Nat) (f : TenantSt → TenantSt) : (s.modTenant t f).slots = s.slots := rfl

@[simp] theorem State.modVmd_pending (v : Nat) (f : VmdSt → VmdSt) : (s.modVmd v f).pending = s.pending := rfl
@[simp] theorem State.modVmd_beat (v : Nat) (f : VmdSt → VmdSt) : (s.modVmd v f).beat = s.beat := rfl
@[simp] theorem State.modVmd_tick (v : Nat) (f : VmdSt → VmdSt) : (s.modVmd v f).tick = s.tick := rfl
@[simp] theorem State.modVmd_clock (v : Nat) (f : VmdSt → VmdSt) : (s.modVmd v f).clock = s.clock := rfl
@[simp] theorem State.modVmd_out (v : Nat) (f : VmdSt → VmdSt) : (s.modVmd v f).out = s.out := rfl
@[simp] theorem State.modVmd_freeCtr (v : Nat) (f : VmdSt → VmdSt) : (s.modVmd v f).freeCtr = s.freeCtr := rfl
@[simp] theorem State.modVmd_regs (v : Nat) (f : VmdSt → VmdSt) : (s.modVmd v f).regs = s.regs := rfl
@[simp] theorem State.modVmd_staged (v : Nat) (f : VmdSt → VmdSt) : (s.modVmd v f).staged = s.staged := rfl
@[simp] theorem State.modVmd_stagedActs (v : Nat) (f : VmdSt → VmdSt) : (s.modVmd v f).stagedActs = s.stagedActs := rfl
@[simp] theorem State.modVmd_armed (v : Nat) (f : VmdSt → VmdSt) : (s.modVmd v f).armed = s.armed := rfl
@[simp] theorem State.modVmd_commits (v : Nat) (f : VmdSt → VmdSt) : (s.modVmd v f).commits = s.commits := rfl
@[simp] theorem State.modVmd_cmds (v : Nat) (f : VmdSt → VmdSt) : (s.modVmd v f).cmds = s.cmds := rfl
@[simp] theorem State.modVmd_pins (v : Nat) (f : VmdSt → VmdSt) : (s.modVmd v f).pins = s.pins := rfl
@[simp] theorem State.modVmd_store (v : Nat) (f : VmdSt → VmdSt) : (s.modVmd v f).store = s.store := rfl
@[simp] theorem State.modVmd_flash (v : Nat) (f : VmdSt → VmdSt) : (s.modVmd v f).flash = s.flash := rfl
@[simp] theorem State.modVmd_mgmt (v : Nat) (f : VmdSt → VmdSt) : (s.modVmd v f).mgmt = s.mgmt := rfl
@[simp] theorem State.modVmd_quartz (v : Nat) (f : VmdSt → VmdSt) : (s.modVmd v f).quartz = s.quartz := rfl
@[simp] theorem State.modVmd_onyx (v : Nat) (f : VmdSt → VmdSt) : (s.modVmd v f).onyx = s.onyx := rfl
@[simp] theorem State.modVmd_startup (v : Nat) (f : VmdSt → VmdSt) : (s.modVmd v f).startup = s.startup := rfl
@[simp] theorem State.modVmd_mesh (v : Nat) (f : VmdSt → VmdSt) : (s.modVmd v f).mesh = s.mesh := rfl
@[simp] theorem State.modVmd_core (v : Nat) (f : VmdSt → VmdSt) : (s.modVmd v f).core = s.core := rfl
@[simp] theorem State.modVmd_ports (v : Nat) (f : VmdSt → VmdSt) : (s.modVmd v f).ports = s.ports := rfl
@[simp] theorem State.modVmd_atomic (v : Nat) (f : VmdSt → VmdSt) : (s.modVmd v f).atomic = s.atomic := rfl
@[simp] theorem State.modVmd_tenants (v : Nat) (f : VmdSt → VmdSt) : (s.modVmd v f).tenants = s.tenants := rfl
@[simp] theorem State.modVmd_regions (v : Nat) (f : VmdSt → VmdSt) : (s.modVmd v f).regions = s.regions := rfl
@[simp] theorem State.modVmd_beryl (v : Nat) (f : VmdSt → VmdSt) : (s.modVmd v f).beryl = s.beryl := rfl
@[simp] theorem State.modVmd_garnet (v : Nat) (f : VmdSt → VmdSt) : (s.modVmd v f).garnet = s.garnet := rfl
@[simp] theorem State.modVmd_jasper (v : Nat) (f : VmdSt → VmdSt) : (s.modVmd v f).jasper = s.jasper := rfl
@[simp] theorem State.modVmd_fabric (v : Nat) (f : VmdSt → VmdSt) : (s.modVmd v f).fabric = s.fabric := rfl
@[simp] theorem State.modVmd_tel (v : Nat) (f : VmdSt → VmdSt) : (s.modVmd v f).tel = s.tel := rfl
@[simp] theorem State.modVmd_slots (v : Nat) (f : VmdSt → VmdSt) : (s.modVmd v f).slots = s.slots := rfl

@[simp] theorem State.modRegion_pending (r : Nat) (f : RegionSt → RegionSt) : (s.modRegion r f).pending = s.pending := rfl
@[simp] theorem State.modRegion_beat (r : Nat) (f : RegionSt → RegionSt) : (s.modRegion r f).beat = s.beat := rfl
@[simp] theorem State.modRegion_tick (r : Nat) (f : RegionSt → RegionSt) : (s.modRegion r f).tick = s.tick := rfl
@[simp] theorem State.modRegion_clock (r : Nat) (f : RegionSt → RegionSt) : (s.modRegion r f).clock = s.clock := rfl
@[simp] theorem State.modRegion_out (r : Nat) (f : RegionSt → RegionSt) : (s.modRegion r f).out = s.out := rfl
@[simp] theorem State.modRegion_freeCtr (r : Nat) (f : RegionSt → RegionSt) : (s.modRegion r f).freeCtr = s.freeCtr := rfl
@[simp] theorem State.modRegion_regs (r : Nat) (f : RegionSt → RegionSt) : (s.modRegion r f).regs = s.regs := rfl
@[simp] theorem State.modRegion_staged (r : Nat) (f : RegionSt → RegionSt) : (s.modRegion r f).staged = s.staged := rfl
@[simp] theorem State.modRegion_stagedActs (r : Nat) (f : RegionSt → RegionSt) : (s.modRegion r f).stagedActs = s.stagedActs := rfl
@[simp] theorem State.modRegion_armed (r : Nat) (f : RegionSt → RegionSt) : (s.modRegion r f).armed = s.armed := rfl
@[simp] theorem State.modRegion_commits (r : Nat) (f : RegionSt → RegionSt) : (s.modRegion r f).commits = s.commits := rfl
@[simp] theorem State.modRegion_cmds (r : Nat) (f : RegionSt → RegionSt) : (s.modRegion r f).cmds = s.cmds := rfl
@[simp] theorem State.modRegion_pins (r : Nat) (f : RegionSt → RegionSt) : (s.modRegion r f).pins = s.pins := rfl
@[simp] theorem State.modRegion_store (r : Nat) (f : RegionSt → RegionSt) : (s.modRegion r f).store = s.store := rfl
@[simp] theorem State.modRegion_flash (r : Nat) (f : RegionSt → RegionSt) : (s.modRegion r f).flash = s.flash := rfl
@[simp] theorem State.modRegion_mgmt (r : Nat) (f : RegionSt → RegionSt) : (s.modRegion r f).mgmt = s.mgmt := rfl
@[simp] theorem State.modRegion_quartz (r : Nat) (f : RegionSt → RegionSt) : (s.modRegion r f).quartz = s.quartz := rfl
@[simp] theorem State.modRegion_onyx (r : Nat) (f : RegionSt → RegionSt) : (s.modRegion r f).onyx = s.onyx := rfl
@[simp] theorem State.modRegion_startup (r : Nat) (f : RegionSt → RegionSt) : (s.modRegion r f).startup = s.startup := rfl
@[simp] theorem State.modRegion_mesh (r : Nat) (f : RegionSt → RegionSt) : (s.modRegion r f).mesh = s.mesh := rfl
@[simp] theorem State.modRegion_core (r : Nat) (f : RegionSt → RegionSt) : (s.modRegion r f).core = s.core := rfl
@[simp] theorem State.modRegion_ports (r : Nat) (f : RegionSt → RegionSt) : (s.modRegion r f).ports = s.ports := rfl
@[simp] theorem State.modRegion_atomic (r : Nat) (f : RegionSt → RegionSt) : (s.modRegion r f).atomic = s.atomic := rfl
@[simp] theorem State.modRegion_tenants (r : Nat) (f : RegionSt → RegionSt) : (s.modRegion r f).tenants = s.tenants := rfl
@[simp] theorem State.modRegion_vmds (r : Nat) (f : RegionSt → RegionSt) : (s.modRegion r f).vmds = s.vmds := rfl
@[simp] theorem State.modRegion_beryl (r : Nat) (f : RegionSt → RegionSt) : (s.modRegion r f).beryl = s.beryl := rfl
@[simp] theorem State.modRegion_garnet (r : Nat) (f : RegionSt → RegionSt) : (s.modRegion r f).garnet = s.garnet := rfl
@[simp] theorem State.modRegion_jasper (r : Nat) (f : RegionSt → RegionSt) : (s.modRegion r f).jasper = s.jasper := rfl
@[simp] theorem State.modRegion_fabric (r : Nat) (f : RegionSt → RegionSt) : (s.modRegion r f).fabric = s.fabric := rfl
@[simp] theorem State.modRegion_tel (r : Nat) (f : RegionSt → RegionSt) : (s.modRegion r f).tel = s.tel := rfl
@[simp] theorem State.modRegion_slots (r : Nat) (f : RegionSt → RegionSt) : (s.modRegion r f).slots = s.slots := rfl

@[simp] theorem State.modSlot_pending (c : Nat) (f : SlotSt → SlotSt) : (s.modSlot c f).pending = s.pending := rfl
@[simp] theorem State.modSlot_beat (c : Nat) (f : SlotSt → SlotSt) : (s.modSlot c f).beat = s.beat := rfl
@[simp] theorem State.modSlot_tick (c : Nat) (f : SlotSt → SlotSt) : (s.modSlot c f).tick = s.tick := rfl
@[simp] theorem State.modSlot_clock (c : Nat) (f : SlotSt → SlotSt) : (s.modSlot c f).clock = s.clock := rfl
@[simp] theorem State.modSlot_out (c : Nat) (f : SlotSt → SlotSt) : (s.modSlot c f).out = s.out := rfl
@[simp] theorem State.modSlot_freeCtr (c : Nat) (f : SlotSt → SlotSt) : (s.modSlot c f).freeCtr = s.freeCtr := rfl
@[simp] theorem State.modSlot_regs (c : Nat) (f : SlotSt → SlotSt) : (s.modSlot c f).regs = s.regs := rfl
@[simp] theorem State.modSlot_staged (c : Nat) (f : SlotSt → SlotSt) : (s.modSlot c f).staged = s.staged := rfl
@[simp] theorem State.modSlot_stagedActs (c : Nat) (f : SlotSt → SlotSt) : (s.modSlot c f).stagedActs = s.stagedActs := rfl
@[simp] theorem State.modSlot_armed (c : Nat) (f : SlotSt → SlotSt) : (s.modSlot c f).armed = s.armed := rfl
@[simp] theorem State.modSlot_commits (c : Nat) (f : SlotSt → SlotSt) : (s.modSlot c f).commits = s.commits := rfl
@[simp] theorem State.modSlot_cmds (c : Nat) (f : SlotSt → SlotSt) : (s.modSlot c f).cmds = s.cmds := rfl
@[simp] theorem State.modSlot_pins (c : Nat) (f : SlotSt → SlotSt) : (s.modSlot c f).pins = s.pins := rfl
@[simp] theorem State.modSlot_store (c : Nat) (f : SlotSt → SlotSt) : (s.modSlot c f).store = s.store := rfl
@[simp] theorem State.modSlot_flash (c : Nat) (f : SlotSt → SlotSt) : (s.modSlot c f).flash = s.flash := rfl
@[simp] theorem State.modSlot_mgmt (c : Nat) (f : SlotSt → SlotSt) : (s.modSlot c f).mgmt = s.mgmt := rfl
@[simp] theorem State.modSlot_quartz (c : Nat) (f : SlotSt → SlotSt) : (s.modSlot c f).quartz = s.quartz := rfl
@[simp] theorem State.modSlot_onyx (c : Nat) (f : SlotSt → SlotSt) : (s.modSlot c f).onyx = s.onyx := rfl
@[simp] theorem State.modSlot_startup (c : Nat) (f : SlotSt → SlotSt) : (s.modSlot c f).startup = s.startup := rfl
@[simp] theorem State.modSlot_mesh (c : Nat) (f : SlotSt → SlotSt) : (s.modSlot c f).mesh = s.mesh := rfl
@[simp] theorem State.modSlot_core (c : Nat) (f : SlotSt → SlotSt) : (s.modSlot c f).core = s.core := rfl
@[simp] theorem State.modSlot_ports (c : Nat) (f : SlotSt → SlotSt) : (s.modSlot c f).ports = s.ports := rfl
@[simp] theorem State.modSlot_atomic (c : Nat) (f : SlotSt → SlotSt) : (s.modSlot c f).atomic = s.atomic := rfl
@[simp] theorem State.modSlot_tenants (c : Nat) (f : SlotSt → SlotSt) : (s.modSlot c f).tenants = s.tenants := rfl
@[simp] theorem State.modSlot_vmds (c : Nat) (f : SlotSt → SlotSt) : (s.modSlot c f).vmds = s.vmds := rfl
@[simp] theorem State.modSlot_regions (c : Nat) (f : SlotSt → SlotSt) : (s.modSlot c f).regions = s.regions := rfl
@[simp] theorem State.modSlot_beryl (c : Nat) (f : SlotSt → SlotSt) : (s.modSlot c f).beryl = s.beryl := rfl
@[simp] theorem State.modSlot_garnet (c : Nat) (f : SlotSt → SlotSt) : (s.modSlot c f).garnet = s.garnet := rfl
@[simp] theorem State.modSlot_jasper (c : Nat) (f : SlotSt → SlotSt) : (s.modSlot c f).jasper = s.jasper := rfl
@[simp] theorem State.modSlot_fabric (c : Nat) (f : SlotSt → SlotSt) : (s.modSlot c f).fabric = s.fabric := rfl
@[simp] theorem State.modSlot_tel (c : Nat) (f : SlotSt → SlotSt) : (s.modSlot c f).tel = s.tel := rfl

@[simp] theorem State.modEngine_pending (n : Nat) (f : EngineSt → EngineSt) : (s.modEngine n f).pending = s.pending := rfl
@[simp] theorem State.modEngine_beat (n : Nat) (f : EngineSt → EngineSt) : (s.modEngine n f).beat = s.beat := rfl
@[simp] theorem State.modEngine_tick (n : Nat) (f : EngineSt → EngineSt) : (s.modEngine n f).tick = s.tick := rfl
@[simp] theorem State.modEngine_clock (n : Nat) (f : EngineSt → EngineSt) : (s.modEngine n f).clock = s.clock := rfl
@[simp] theorem State.modEngine_out (n : Nat) (f : EngineSt → EngineSt) : (s.modEngine n f).out = s.out := rfl
@[simp] theorem State.modEngine_freeCtr (n : Nat) (f : EngineSt → EngineSt) : (s.modEngine n f).freeCtr = s.freeCtr := rfl
@[simp] theorem State.modEngine_regs (n : Nat) (f : EngineSt → EngineSt) : (s.modEngine n f).regs = s.regs := rfl
@[simp] theorem State.modEngine_staged (n : Nat) (f : EngineSt → EngineSt) : (s.modEngine n f).staged = s.staged := rfl
@[simp] theorem State.modEngine_stagedActs (n : Nat) (f : EngineSt → EngineSt) : (s.modEngine n f).stagedActs = s.stagedActs := rfl
@[simp] theorem State.modEngine_armed (n : Nat) (f : EngineSt → EngineSt) : (s.modEngine n f).armed = s.armed := rfl
@[simp] theorem State.modEngine_commits (n : Nat) (f : EngineSt → EngineSt) : (s.modEngine n f).commits = s.commits := rfl
@[simp] theorem State.modEngine_cmds (n : Nat) (f : EngineSt → EngineSt) : (s.modEngine n f).cmds = s.cmds := rfl
@[simp] theorem State.modEngine_pins (n : Nat) (f : EngineSt → EngineSt) : (s.modEngine n f).pins = s.pins := rfl
@[simp] theorem State.modEngine_store (n : Nat) (f : EngineSt → EngineSt) : (s.modEngine n f).store = s.store := rfl
@[simp] theorem State.modEngine_flash (n : Nat) (f : EngineSt → EngineSt) : (s.modEngine n f).flash = s.flash := rfl
@[simp] theorem State.modEngine_mgmt (n : Nat) (f : EngineSt → EngineSt) : (s.modEngine n f).mgmt = s.mgmt := rfl
@[simp] theorem State.modEngine_quartz (n : Nat) (f : EngineSt → EngineSt) : (s.modEngine n f).quartz = s.quartz := rfl
@[simp] theorem State.modEngine_onyx (n : Nat) (f : EngineSt → EngineSt) : (s.modEngine n f).onyx = s.onyx := rfl
@[simp] theorem State.modEngine_startup (n : Nat) (f : EngineSt → EngineSt) : (s.modEngine n f).startup = s.startup := rfl
@[simp] theorem State.modEngine_mesh (n : Nat) (f : EngineSt → EngineSt) : (s.modEngine n f).mesh = s.mesh := rfl
@[simp] theorem State.modEngine_core (n : Nat) (f : EngineSt → EngineSt) : (s.modEngine n f).core = s.core := rfl
@[simp] theorem State.modEngine_ports (n : Nat) (f : EngineSt → EngineSt) : (s.modEngine n f).ports = s.ports := rfl
@[simp] theorem State.modEngine_atomic (n : Nat) (f : EngineSt → EngineSt) : (s.modEngine n f).atomic = s.atomic := rfl
@[simp] theorem State.modEngine_tenants (n : Nat) (f : EngineSt → EngineSt) : (s.modEngine n f).tenants = s.tenants := rfl
@[simp] theorem State.modEngine_vmds (n : Nat) (f : EngineSt → EngineSt) : (s.modEngine n f).vmds = s.vmds := rfl
@[simp] theorem State.modEngine_regions (n : Nat) (f : EngineSt → EngineSt) : (s.modEngine n f).regions = s.regions := rfl
@[simp] theorem State.modEngine_beryl (n : Nat) (f : EngineSt → EngineSt) : (s.modEngine n f).beryl = s.beryl := rfl
@[simp] theorem State.modEngine_garnet (n : Nat) (f : EngineSt → EngineSt) : (s.modEngine n f).garnet = s.garnet := rfl
@[simp] theorem State.modEngine_fabric (n : Nat) (f : EngineSt → EngineSt) : (s.modEngine n f).fabric = s.fabric := rfl
@[simp] theorem State.modEngine_tel (n : Nat) (f : EngineSt → EngineSt) : (s.modEngine n f).tel = s.tel := rfl
@[simp] theorem State.modEngine_slots (n : Nat) (f : EngineSt → EngineSt) : (s.modEngine n f).slots = s.slots := rfl

@[simp] theorem State.modJob_pending (j : Nat) (f : Job → Job) : (s.modJob j f).pending = s.pending := rfl
@[simp] theorem State.modJob_beat (j : Nat) (f : Job → Job) : (s.modJob j f).beat = s.beat := rfl
@[simp] theorem State.modJob_tick (j : Nat) (f : Job → Job) : (s.modJob j f).tick = s.tick := rfl
@[simp] theorem State.modJob_clock (j : Nat) (f : Job → Job) : (s.modJob j f).clock = s.clock := rfl
@[simp] theorem State.modJob_out (j : Nat) (f : Job → Job) : (s.modJob j f).out = s.out := rfl
@[simp] theorem State.modJob_freeCtr (j : Nat) (f : Job → Job) : (s.modJob j f).freeCtr = s.freeCtr := rfl
@[simp] theorem State.modJob_regs (j : Nat) (f : Job → Job) : (s.modJob j f).regs = s.regs := rfl
@[simp] theorem State.modJob_staged (j : Nat) (f : Job → Job) : (s.modJob j f).staged = s.staged := rfl
@[simp] theorem State.modJob_stagedActs (j : Nat) (f : Job → Job) : (s.modJob j f).stagedActs = s.stagedActs := rfl
@[simp] theorem State.modJob_armed (j : Nat) (f : Job → Job) : (s.modJob j f).armed = s.armed := rfl
@[simp] theorem State.modJob_commits (j : Nat) (f : Job → Job) : (s.modJob j f).commits = s.commits := rfl
@[simp] theorem State.modJob_cmds (j : Nat) (f : Job → Job) : (s.modJob j f).cmds = s.cmds := rfl
@[simp] theorem State.modJob_pins (j : Nat) (f : Job → Job) : (s.modJob j f).pins = s.pins := rfl
@[simp] theorem State.modJob_store (j : Nat) (f : Job → Job) : (s.modJob j f).store = s.store := rfl
@[simp] theorem State.modJob_flash (j : Nat) (f : Job → Job) : (s.modJob j f).flash = s.flash := rfl
@[simp] theorem State.modJob_mgmt (j : Nat) (f : Job → Job) : (s.modJob j f).mgmt = s.mgmt := rfl
@[simp] theorem State.modJob_quartz (j : Nat) (f : Job → Job) : (s.modJob j f).quartz = s.quartz := rfl
@[simp] theorem State.modJob_onyx (j : Nat) (f : Job → Job) : (s.modJob j f).onyx = s.onyx := rfl
@[simp] theorem State.modJob_startup (j : Nat) (f : Job → Job) : (s.modJob j f).startup = s.startup := rfl
@[simp] theorem State.modJob_mesh (j : Nat) (f : Job → Job) : (s.modJob j f).mesh = s.mesh := rfl
@[simp] theorem State.modJob_core (j : Nat) (f : Job → Job) : (s.modJob j f).core = s.core := rfl
@[simp] theorem State.modJob_ports (j : Nat) (f : Job → Job) : (s.modJob j f).ports = s.ports := rfl
@[simp] theorem State.modJob_atomic (j : Nat) (f : Job → Job) : (s.modJob j f).atomic = s.atomic := rfl
@[simp] theorem State.modJob_tenants (j : Nat) (f : Job → Job) : (s.modJob j f).tenants = s.tenants := rfl
@[simp] theorem State.modJob_vmds (j : Nat) (f : Job → Job) : (s.modJob j f).vmds = s.vmds := rfl
@[simp] theorem State.modJob_regions (j : Nat) (f : Job → Job) : (s.modJob j f).regions = s.regions := rfl
@[simp] theorem State.modJob_beryl (j : Nat) (f : Job → Job) : (s.modJob j f).beryl = s.beryl := rfl
@[simp] theorem State.modJob_garnet (j : Nat) (f : Job → Job) : (s.modJob j f).garnet = s.garnet := rfl
@[simp] theorem State.modJob_fabric (j : Nat) (f : Job → Job) : (s.modJob j f).fabric = s.fabric := rfl
@[simp] theorem State.modJob_tel (j : Nat) (f : Job → Job) : (s.modJob j f).tel = s.tel := rfl
@[simp] theorem State.modJob_slots (j : Nat) (f : Job → Job) : (s.modJob j f).slots = s.slots := rfl

@[simp] theorem State.modCmd_pending (i : Nat) (f : CmdRec → CmdRec) : (s.modCmd i f).pending = s.pending := rfl
@[simp] theorem State.modCmd_beat (i : Nat) (f : CmdRec → CmdRec) : (s.modCmd i f).beat = s.beat := rfl
@[simp] theorem State.modCmd_tick (i : Nat) (f : CmdRec → CmdRec) : (s.modCmd i f).tick = s.tick := rfl
@[simp] theorem State.modCmd_clock (i : Nat) (f : CmdRec → CmdRec) : (s.modCmd i f).clock = s.clock := rfl
@[simp] theorem State.modCmd_out (i : Nat) (f : CmdRec → CmdRec) : (s.modCmd i f).out = s.out := rfl
@[simp] theorem State.modCmd_freeCtr (i : Nat) (f : CmdRec → CmdRec) : (s.modCmd i f).freeCtr = s.freeCtr := rfl
@[simp] theorem State.modCmd_regs (i : Nat) (f : CmdRec → CmdRec) : (s.modCmd i f).regs = s.regs := rfl
@[simp] theorem State.modCmd_staged (i : Nat) (f : CmdRec → CmdRec) : (s.modCmd i f).staged = s.staged := rfl
@[simp] theorem State.modCmd_stagedActs (i : Nat) (f : CmdRec → CmdRec) : (s.modCmd i f).stagedActs = s.stagedActs := rfl
@[simp] theorem State.modCmd_armed (i : Nat) (f : CmdRec → CmdRec) : (s.modCmd i f).armed = s.armed := rfl
@[simp] theorem State.modCmd_commits (i : Nat) (f : CmdRec → CmdRec) : (s.modCmd i f).commits = s.commits := rfl
@[simp] theorem State.modCmd_pins (i : Nat) (f : CmdRec → CmdRec) : (s.modCmd i f).pins = s.pins := rfl
@[simp] theorem State.modCmd_store (i : Nat) (f : CmdRec → CmdRec) : (s.modCmd i f).store = s.store := rfl
@[simp] theorem State.modCmd_flash (i : Nat) (f : CmdRec → CmdRec) : (s.modCmd i f).flash = s.flash := rfl
@[simp] theorem State.modCmd_mgmt (i : Nat) (f : CmdRec → CmdRec) : (s.modCmd i f).mgmt = s.mgmt := rfl
@[simp] theorem State.modCmd_quartz (i : Nat) (f : CmdRec → CmdRec) : (s.modCmd i f).quartz = s.quartz := rfl
@[simp] theorem State.modCmd_onyx (i : Nat) (f : CmdRec → CmdRec) : (s.modCmd i f).onyx = s.onyx := rfl
@[simp] theorem State.modCmd_startup (i : Nat) (f : CmdRec → CmdRec) : (s.modCmd i f).startup = s.startup := rfl
@[simp] theorem State.modCmd_mesh (i : Nat) (f : CmdRec → CmdRec) : (s.modCmd i f).mesh = s.mesh := rfl
@[simp] theorem State.modCmd_core (i : Nat) (f : CmdRec → CmdRec) : (s.modCmd i f).core = s.core := rfl
@[simp] theorem State.modCmd_ports (i : Nat) (f : CmdRec → CmdRec) : (s.modCmd i f).ports = s.ports := rfl
@[simp] theorem State.modCmd_atomic (i : Nat) (f : CmdRec → CmdRec) : (s.modCmd i f).atomic = s.atomic := rfl
@[simp] theorem State.modCmd_tenants (i : Nat) (f : CmdRec → CmdRec) : (s.modCmd i f).tenants = s.tenants := rfl
@[simp] theorem State.modCmd_vmds (i : Nat) (f : CmdRec → CmdRec) : (s.modCmd i f).vmds = s.vmds := rfl
@[simp] theorem State.modCmd_regions (i : Nat) (f : CmdRec → CmdRec) : (s.modCmd i f).regions = s.regions := rfl
@[simp] theorem State.modCmd_beryl (i : Nat) (f : CmdRec → CmdRec) : (s.modCmd i f).beryl = s.beryl := rfl
@[simp] theorem State.modCmd_garnet (i : Nat) (f : CmdRec → CmdRec) : (s.modCmd i f).garnet = s.garnet := rfl
@[simp] theorem State.modCmd_jasper (i : Nat) (f : CmdRec → CmdRec) : (s.modCmd i f).jasper = s.jasper := rfl
@[simp] theorem State.modCmd_fabric (i : Nat) (f : CmdRec → CmdRec) : (s.modCmd i f).fabric = s.fabric := rfl
@[simp] theorem State.modCmd_tel (i : Nat) (f : CmdRec → CmdRec) : (s.modCmd i f).tel = s.tel := rfl
@[simp] theorem State.modCmd_slots (i : Nat) (f : CmdRec → CmdRec) : (s.modCmd i f).slots = s.slots := rfl

@[simp] theorem State.modSession_pending (i : Nat) (f : Session → Session) : (s.modSession i f).pending = s.pending := rfl
@[simp] theorem State.modSession_beat (i : Nat) (f : Session → Session) : (s.modSession i f).beat = s.beat := rfl
@[simp] theorem State.modSession_tick (i : Nat) (f : Session → Session) : (s.modSession i f).tick = s.tick := rfl
@[simp] theorem State.modSession_clock (i : Nat) (f : Session → Session) : (s.modSession i f).clock = s.clock := rfl
@[simp] theorem State.modSession_out (i : Nat) (f : Session → Session) : (s.modSession i f).out = s.out := rfl
@[simp] theorem State.modSession_freeCtr (i : Nat) (f : Session → Session) : (s.modSession i f).freeCtr = s.freeCtr := rfl
@[simp] theorem State.modSession_regs (i : Nat) (f : Session → Session) : (s.modSession i f).regs = s.regs := rfl
@[simp] theorem State.modSession_staged (i : Nat) (f : Session → Session) : (s.modSession i f).staged = s.staged := rfl
@[simp] theorem State.modSession_stagedActs (i : Nat) (f : Session → Session) : (s.modSession i f).stagedActs = s.stagedActs := rfl
@[simp] theorem State.modSession_armed (i : Nat) (f : Session → Session) : (s.modSession i f).armed = s.armed := rfl
@[simp] theorem State.modSession_commits (i : Nat) (f : Session → Session) : (s.modSession i f).commits = s.commits := rfl
@[simp] theorem State.modSession_pins (i : Nat) (f : Session → Session) : (s.modSession i f).pins = s.pins := rfl
@[simp] theorem State.modSession_store (i : Nat) (f : Session → Session) : (s.modSession i f).store = s.store := rfl
@[simp] theorem State.modSession_flash (i : Nat) (f : Session → Session) : (s.modSession i f).flash = s.flash := rfl
@[simp] theorem State.modSession_cmds (i : Nat) (f : Session → Session) : (s.modSession i f).cmds = s.cmds := rfl
@[simp] theorem State.modSession_quartz (i : Nat) (f : Session → Session) : (s.modSession i f).quartz = s.quartz := rfl
@[simp] theorem State.modSession_onyx (i : Nat) (f : Session → Session) : (s.modSession i f).onyx = s.onyx := rfl
@[simp] theorem State.modSession_startup (i : Nat) (f : Session → Session) : (s.modSession i f).startup = s.startup := rfl
@[simp] theorem State.modSession_mesh (i : Nat) (f : Session → Session) : (s.modSession i f).mesh = s.mesh := rfl
@[simp] theorem State.modSession_core (i : Nat) (f : Session → Session) : (s.modSession i f).core = s.core := rfl
@[simp] theorem State.modSession_ports (i : Nat) (f : Session → Session) : (s.modSession i f).ports = s.ports := rfl
@[simp] theorem State.modSession_atomic (i : Nat) (f : Session → Session) : (s.modSession i f).atomic = s.atomic := rfl
@[simp] theorem State.modSession_tenants (i : Nat) (f : Session → Session) : (s.modSession i f).tenants = s.tenants := rfl
@[simp] theorem State.modSession_vmds (i : Nat) (f : Session → Session) : (s.modSession i f).vmds = s.vmds := rfl
@[simp] theorem State.modSession_regions (i : Nat) (f : Session → Session) : (s.modSession i f).regions = s.regions := rfl
@[simp] theorem State.modSession_beryl (i : Nat) (f : Session → Session) : (s.modSession i f).beryl = s.beryl := rfl
@[simp] theorem State.modSession_garnet (i : Nat) (f : Session → Session) : (s.modSession i f).garnet = s.garnet := rfl
@[simp] theorem State.modSession_jasper (i : Nat) (f : Session → Session) : (s.modSession i f).jasper = s.jasper := rfl
@[simp] theorem State.modSession_fabric (i : Nat) (f : Session → Session) : (s.modSession i f).fabric = s.fabric := rfl
@[simp] theorem State.modSession_tel (i : Nat) (f : Session → Session) : (s.modSession i f).tel = s.tel := rfl
@[simp] theorem State.modSession_slots (i : Nat) (f : Session → Session) : (s.modSession i f).slots = s.slots := rfl

@[simp] theorem State.w_regs (k v : Nat) : (s.w k v).regs = Tbl.putD s.regs k v (defaultOf k) := rfl
@[simp] theorem State.emit_out (o : Out) : (s.emit o).out = s.out ++ [o] := rfl

/-- An object reads what was written to it. -/
@[simp] theorem State.r_w_self (k v : Nat) : (s.w k v).r k = v := by simp [State.r]

/-- An object reads as before after a write to another. -/
theorem State.r_w_ne {i k : Nat} (h : i ≠ k) (v : Nat) : (s.w k v).r i = s.r i := by
  simp [State.r, Tbl.getD_putD_ne _ h]

/-- What an object reads as follows from the register file alone. -/
theorem State.r_of_regs {s t : State} (h : t.regs = s.regs) (k : Nat) : t.r k = s.r k := by simp [State.r, h]

@[simp] theorem State.r_emit (o : Out) (k : Nat) : (s.emit o).r k = s.r k := rfl
@[simp] theorem State.r_modPort (p : Nat) (f : PortSt → PortSt) (k : Nat) : (s.modPort p f).r k = s.r k := rfl
@[simp] theorem State.r_modTenant (t : Nat) (f : TenantSt → TenantSt) (k : Nat) : (s.modTenant t f).r k = s.r k := rfl
@[simp] theorem State.r_modVmd (v : Nat) (f : VmdSt → VmdSt) (k : Nat) : (s.modVmd v f).r k = s.r k := rfl
@[simp] theorem State.r_modRegion (x : Nat) (f : RegionSt → RegionSt) (k : Nat) : (s.modRegion x f).r k = s.r k := rfl
@[simp] theorem State.r_modSlot (c : Nat) (f : SlotSt → SlotSt) (k : Nat) : (s.modSlot c f).r k = s.r k := rfl
@[simp] theorem State.r_modEngine (n : Nat) (f : EngineSt → EngineSt) (k : Nat) : (s.modEngine n f).r k = s.r k := rfl
@[simp] theorem State.r_modJob (j : Nat) (f : Job → Job) (k : Nat) : (s.modJob j f).r k = s.r k := rfl
@[simp] theorem State.r_modCmd (i : Nat) (f : CmdRec → CmdRec) (k : Nat) : (s.modCmd i f).r k = s.r k := rfl

@[simp] theorem State.port_modPort (p : Nat) (f : PortSt → PortSt) : (s.modPort p f).port p = f (s.port p) := by
  simp [State.port, State.modPort]
@[simp] theorem State.tenant_modTenant (t : Nat) (f : TenantSt → TenantSt) :
    (s.modTenant t f).tenant t = f (s.tenant t) := by simp [State.tenant, State.modTenant]
@[simp] theorem State.vmd_modVmd (v : Nat) (f : VmdSt → VmdSt) : (s.modVmd v f).vmd v = f (s.vmd v) := by
  simp [State.vmd, State.modVmd]
@[simp] theorem State.regionSt_modRegion (x : Nat) (f : RegionSt → RegionSt) :
    (s.modRegion x f).regionSt x = f (s.regionSt x) := by simp [State.regionSt, State.modRegion]
@[simp] theorem State.slot_modSlot (c : Nat) (f : SlotSt → SlotSt) : (s.modSlot c f).slot c = f (s.slot c) := by
  simp [State.slot, State.modSlot]
@[simp] theorem State.engine_modEngine (n : Nat) (f : EngineSt → EngineSt) :
    (s.modEngine n f).engine n = f (s.engine n) := by simp [State.engine, State.modEngine]
@[simp] theorem State.job_modJob (j : Nat) (f : Job → Job) : (s.modJob j f).job j = f (s.job j) := by
  simp [State.job, State.modJob]
@[simp] theorem State.cmd_modCmd (i : Nat) (f : CmdRec → CmdRec) : (s.modCmd i f).cmd i = f (s.cmd i) := by
  simp [State.cmd, State.modCmd]
theorem State.cmd_modCmd_ne {i j : Nat} (h : j ≠ i) (f : CmdRec → CmdRec) : (s.modCmd i f).cmd j = s.cmd j := by
  simp [State.cmd, State.modCmd, Tbl.getD_putD_ne _ h]

end Sys2Proof.Machine
end

