-- ==== Sys2Proof/Laws/Ops.lean ====
section
/-! SUPPORT. Everything that the shared operations can do: occurrences, counters, and the front of the dictionary. -/

namespace Sys2Proof.Machine

variable (s : State)

/-- An occurrence changes Onyx's pending counts and nothing else. -/
theorem State.occurWith_frame (k : Nat) (d : Report) : s.occurWith k d = { s with onyx := (s.occurWith k d).onyx } := by
  unfold State.occurWith; split
  · dsimp only; split <;> rfl
  · rfl

theorem State.occur_frame (k : Nat) : s.occur k = { s with onyx := (s.occur k).onyx } := s.occurWith_frame k _

theorem State.occurOf_frame (k id : Nat) : s.occurOf k id = { s with onyx := (s.occurOf k id).onyx } :=
  s.occurWith_frame k _

/-- An assigned source with fewer than 255 occurrences pending has one more, reported with its details (R266). -/
theorem State.occurWith_pend (k : Nat) (d : Report) (h : s.canOccur k = true)
    (n : (Tbl.getD s.onyx.pend k []).length < 255) :
    Tbl.getD (s.occurWith k d).onyx.pend k [] = Tbl.getD s.onyx.pend k [] ++ [d] := by
  simp [State.occurWith, h, n]

@[simp] theorem State.r_occurWith (k : Nat) (d : Report) (i : Nat) : (s.occurWith k d).r i = s.r i := by
  rw [s.occurWith_frame]; rfl
@[simp] theorem State.r_occur (k i : Nat) : (s.occur k).r i = s.r i := s.r_occurWith k _ i
@[simp] theorem State.r_occurOf (k id i : Nat) : (s.occurOf k id).r i = s.r i := s.r_occurWith k _ i

/-- A counter raised changes its object, and a free value drawn where it passes its size; nothing else. -/
theorem State.bump_frame (k n : Nat) :
    s.bump k n = { s with regs := (s.bump k n).regs, freeCtr := (s.bump k n).freeCtr } := by
  unfold State.bump State.fresh; dsimp only; split <;> rfl

/-- A counter within its size. -/
theorem State.bump_in (k n : Nat) (h : s.r k + n < 2 ^ Schema.width k) : s.bump k n = s.w k (s.r k + n) := by
  simp [State.bump, h]

theorem State.r_bump_ne {i k : Nat} (h : i ≠ k) (n : Nat) : (s.bump k n).r i = s.r i := by
  unfold State.bump State.fresh; dsimp only; split
  · exact s.r_w_ne h _
  · exact State.r_w_ne _ h _

/-- A message told to a session changes its counter and what has been sent, and nothing else. -/
theorem State.tell_frame (id : Nat) (m : JdpSent) :
    s.tell id m = { s with mgmt := (s.tell id m).mgmt, out := (s.tell id m).out } := by
  unfold State.tell; split <;> rfl

/-- An answer changes sessions and what has been sent, and nothing else. -/
theorem State.reply_frame (e : JdpEnv) (op i b a : Nat) (p : List Byte) (m : Bool) :
    s.reply e op i b a p m = { s with mgmt := (s.reply e op i b a p m).mgmt, out := (s.reply e op i b a p m).out } := by
  unfold State.reply; split
  · exact s.tell_frame _ _
  · rfl

/-- A session found by an identifier bears it. -/
theorem State.session_id {id : Nat} {x : Session} (h : s.session id = some x) : x.id = id := by
  have := List.find?_some h
  simpa using this

/-- What is sent last is the answer. -/
theorem State.reply_out (e : JdpEnv) (op i b a : Nat) (p : List Byte) (m : Bool) :
    (s.reply e op i b a p m).out = s.out ++ [.jdp (s.answered e op i b a p m)] := by
  unfold State.reply State.answered
  split
  · rename_i x h
    unfold State.sessionOf at h
    split at h
    · simp [State.tell, s.session_id h, h, State.modSession, State.emit]
    · cases h
  · rfl

@[simp] theorem State.r_reply (e : JdpEnv) (op i b a : Nat) (p : List Byte) (m : Bool) (k : Nat) :
    (s.reply e op i b a p m).r k = s.r k := by rw [s.reply_frame]; rfl

/-- A message that steps 1 to 5 accept changes the session it came in, and nothing else. -/
theorem State.front_ok {e : JdpEnv} {op i b : Nat} {p : Priv} {t : State} (h : s.front e op i b = .ok (p, t)) :
    t = { s with mgmt := t.mgmt } := by
  unfold State.front at h
  repeat' (first | (simp only [Except.ok.injEq, Prod.mk.injEq, reduceCtorEq] at h) | split at h)
  all_goals (obtain ⟨_, rfl⟩ := h; rfl)

/-- An accepted message over proxy access changes nothing (R39). -/
theorem State.front_proxy {e : JdpEnv} {q : Priv} (op i b : Nat) (hv : e.via = .proxy q) (hi : s.islandOnly = false)
    (ha : s.on K.proxyAdmit = true) (hr : versionRefusal e op = none)
    (hp : e.proxied = false ∨ s.ownsPid (e.proxyTarget % 4096) = true) : s.front e op i b = .ok (q, s) := by
  rcases hp with hp | hp <;> simp [State.front, hv, hi, ha, hr, hp]

/-- A message accepted and refused by its handler: its answer, and nothing else changes (R22). -/
theorem State.serve_refused {e : JdpEnv} {op i b code : Nat} {p : Priv} {t : State} {h : Priv → State → Served}
    (hf : s.front e op i b = .ok (p, t)) (hh : h p t = .error code) :
    s.serve e op i b h = t.reply e op i b code [] := by simp [State.serve, hf, hh, State.answer]

/-- A message accepted and handled. -/
theorem State.serve_done {e : JdpEnv} {op i b : Nat} {p : Priv} {t u : State} {d : List Byte} {h : Priv → State → Served}
    (hf : s.front e op i b = .ok (p, t)) (hh : h p t = .ok (u, d)) :
    s.serve e op i b h = t.answer e op i b (.ok (u, d)) := by simp [State.serve, hf, hh]

/-- A trigger accepted: the command runs on its arguments (R26, R27). -/
theorem State.trigger_done {e : JdpEnv} {i : Nat} {checks : State → List Byte → CmdChecks}
    {run : State → List Byte → State} {p : Priv} {t : State} {c : CmdInfo} (hf : s.front e opCommand i 2 = .ok (p, t))
    (hc : Schema.cmd i = some c)
    (hr : t.triggerRefusal e p c (c.admits t.device) (checks t (t.cmd i).args) = none) :
    s.trigger e i checks run = (run (t.accept e i) (t.cmd i).args).reply e opCommand i 2 0 [] := by
  unfold State.trigger State.serve
  rw [hf]
  simp [hc, hr, State.answer]

end Sys2Proof.Machine
end

