-- ==== Sys2Proof/Laws/Step.lean ====
section
/-! SUPPORT. What a step and its three answering operations can do: each lemma says all of it once. -/

namespace Sys2Proof.Machine

variable {f : State → State} {s t : State}

/-- An effect always goes on; time and the queue are as before. -/
theorem effect_next (h : effect f s = .next t) : t.pending = s.pending ∧ t.beat = s.beat ∧ t.tick = s.tick ∧ t.clock = s.clock := by
  cases h; exact ⟨rfl, rfl, rfl, rfl⟩

/-- A command of the beat goes on at the time that it names. -/
theorem clocked_next {n m : Nat} (h : clocked n m f s = .next t) : t.pending = s.pending ∧ t.beat = n ∧ t.tick = m ∧ t.clock = s.clock + passed s.beat s.tick n m := by
  cases h; exact ⟨rfl, rfl, rfl, rfl⟩

/-- A dictionary command goes on exactly where its payload holds bytes. -/
theorem effectOf_ok (env : JdpEnv) (h : bytesOk env.payload = true) : effectOf env f s = effect f s := by
  unfold bytesOk at h
  simp [effectOf, h]

/-- A dictionary command that goes on had a payload of bytes, and kept time and queue. -/
theorem effectOf_next (env : JdpEnv) (h : effectOf env f s = .next t) :
    bytesOk env.payload = true ∧ t.pending = s.pending ∧ t.beat = s.beat ∧ t.tick = s.tick ∧ t.clock = s.clock := by
  unfold effectOf at h
  split at h
  · exact ⟨‹_›, effect_next h⟩
  · cases h

/-- A step on a waiting command is that command on the state with the rest of the queue. -/
@[simp] theorem step_front (c : Instr) (rest : List Instr) (h : s.pending = c :: rest) :
    step s = exec c { s with pending := rest } := by simp [step, h]

/-- An idle step moves nothing but the tick. -/
theorem step_idle (h : s.pending = []) : step s = .next s.idle := by simp [step, h]

/-- The idle block keeps its queue and its beat, and its tick stays in the beat. -/
theorem State.idle_ok (h : s.tick < 1024) : s.idle.pending = s.pending ∧ s.idle.beat = s.beat ∧ s.idle.tick < 1024 := by
  unfold State.idle
  split
  · rename_i h'
    simp only [Bool.and_eq_true, decide_eq_true_eq] at h'
    exact ⟨rfl, rfl, Nat.succ_lt_succ h'.2⟩
  · exact ⟨rfl, rfl, h⟩

/-- The state in which a message is handled differs from the state before it in its session alone. -/
theorem Heard.frame {e : JdpEnv} {op i b : Nat} {p : Priv} {u : State} (h : Heard s e op i b p u) :
    u = { s with mgmt := u.mgmt } := State.front_ok s h.2

/-- A message accepted and handled goes on, with its answer. -/
theorem Heard.done {e : JdpEnv} {op i b : Nat} {p : Priv} {u v : State} {d : List Byte} {k : Priv → State → Served}
    (h : Heard s e op i b p u) (hk : k p u = .ok (v, d)) :
    effectOf e (fun s => s.serve e op i b k) s = .next { u.answer e op i b (.ok (v, d)) with
      pending := s.pending, beat := s.beat, tick := s.tick, clock := s.clock } := by
  rw [effectOf_ok e h.1]
  simp [effect, State.serve_done s h.2 hk]

/-- A message accepted and refused goes on, with its abort code, and no object changes (R22). -/
theorem Heard.refused {e : JdpEnv} {op i b code : Nat} {p : Priv} {u : State} {k : Priv → State → Served}
    (h : Heard s e op i b p u) (hk : k p u = .error code) :
    effectOf e (fun s => s.serve e op i b k) s = .next { u.reply e op i b code [] with
      pending := s.pending, beat := s.beat, tick := s.tick, clock := s.clock } := by
  rw [effectOf_ok e h.1]
  simp [effect, State.serve_refused s h.2 hk]

/-- A COMMAND accepted goes on, with the command's effect and its answer. -/
theorem Triggered.done {e : JdpEnv} {i : Nat} {checks : State → List Byte → CmdChecks} {args : List Byte} {u : State}
    (h : Triggered s e i checks args u) (run : State → List Byte → State) :
    effectOf e (fun s => s.trigger e i checks run) s = .next { (run (u.accept e i) args).reply e opCommand i 2 0 [] with
      pending := s.pending, beat := s.beat, tick := s.tick, clock := s.clock } := by
  obtain ⟨p, c, hh, hc, ha, hr⟩ := h
  rw [effectOf_ok e hh.1]
  simp only [effect]
  rw [State.trigger_done s hh.2 hc (by rw [ha]; exact hr), ha]

/-- The state in which a command runs. -/
theorem Triggered.frame {e : JdpEnv} {i : Nat} {checks : State → List Byte → CmdChecks} {args : List Byte} {u : State}
    (h : Triggered s e i checks args u) : u = { s with mgmt := u.mgmt } := by
  obtain ⟨p, c, hh, _⟩ := h
  exact hh.frame

end Sys2Proof.Machine
end

