-- ==== Sys2Proof/Laws/Keeps.lean ====
section
/-! SUPPORT. Every command goes on where its message holds bytes; all but those of the beat, of the load of firmware and of a
reset keep Quartz's time, and none touches the queue. -/

namespace Sys2Proof.Machine

/-- The answer goes on with the queue, the beat, the tick and the clock of before. -/
def KeepsTime (r : Res) (s : State) : Prop :=
  ∃ t, r = .next t ∧ t.pending = s.pending ∧ t.beat = s.beat ∧ t.tick = s.tick ∧ t.clock = s.clock

theorem keepsTime_effect (f : State → State) (s : State) : KeepsTime (effect f s) s := ⟨_, rfl, rfl, rfl, rfl, rfl⟩

theorem keepsTime_effectOf (e : JdpEnv) (f : State → State) (s : State) (h : bytesOk e.payload = true) :
    KeepsTime (effectOf e f s) s := by rw [effectOf_ok e h]; exact keepsTime_effect f s

variable (s : State)

theorem execPwronRstNRelease_keepsTime (powerOn : Bool) : KeepsTime (execPwronRstNRelease powerOn s) s := keepsTime_effect _ s
theorem execFuseLoadComplete_keepsTime (corrected : Nat) (uncorrectable : Bool) : KeepsTime (execFuseLoadComplete corrected uncorrectable s) s := keepsTime_effect _ s
theorem execLogicBistComplete_keepsTime (failed : BitVec 12) : KeepsTime (execLogicBistComplete failed s) s := keepsTime_effect _ s
theorem execMemoryBistComplete_keepsTime (found : List BistFind) : KeepsTime (execMemoryBistComplete found s) s := keepsTime_effect _ s
theorem execFwInitComplete_keepsTime : KeepsTime (execFwInitComplete s) s := keepsTime_effect _ s
theorem execRestorePhaseComplete_keepsTime : KeepsTime (execRestorePhaseComplete s) s := keepsTime_effect _ s
theorem execAvsAcknowledge_keepsTime : KeepsTime (execAvsAcknowledge s) s := keepsTime_effect _ s
theorem execAvsTimeout_keepsTime : KeepsTime (execAvsTimeout s) s := keepsTime_effect _ s
theorem execSupplyOutOfRange_keepsTime (rails : BitVec 7) : KeepsTime (execSupplyOutOfRange rails s) s := keepsTime_effect _ s
theorem execTemperatureReading_keepsTime (temps : List Int) : KeepsTime (execTemperatureReading temps s) s := keepsTime_effect _ s
theorem execRegisterWrite_keepsTime (env : JdpEnv) (index sub : Nat) (h : bytesOk env.payload = true) : KeepsTime (execRegisterWrite env index sub s) s := keepsTime_effectOf env _ s h
theorem execReadBlock_keepsTime (env : JdpEnv) (index sub : Nat) (h : bytesOk env.payload = true) : KeepsTime (execReadBlock env index sub s) s := keepsTime_effectOf env _ s h
theorem execWriteBlock_keepsTime (env : JdpEnv) (index sub : Nat) (h : bytesOk env.payload = true) : KeepsTime (execWriteBlock env index sub s) s := keepsTime_effectOf env _ s h
theorem execBlockIdleTimeout_keepsTime (session : Nat) : KeepsTime (execBlockIdleTimeout session s) s := keepsTime_effect _ s
theorem execHello_keepsTime (env : JdpEnv) (h : bytesOk env.payload = true) : KeepsTime (execHello env s) s := keepsTime_effectOf env _ s h
theorem execProof_keepsTime (env : JdpEnv) (h : bytesOk env.payload = true) : KeepsTime (execProof env s) s := keepsTime_effectOf env _ s h
theorem execChallengeTimeout_keepsTime (session : Nat) : KeepsTime (execChallengeTimeout session s) s := keepsTime_effect _ s
theorem execClose_keepsTime (env : JdpEnv) (h : bytesOk env.payload = true) : KeepsTime (execClose env s) s := keepsTime_effectOf env _ s h
theorem execSessionIdleTimeout_keepsTime (session : Nat) : KeepsTime (execSessionIdleTimeout session s) s := keepsTime_effect _ s
theorem execSubscribe_keepsTime (env : JdpEnv) (h : bytesOk env.payload = true) : KeepsTime (execSubscribe env s) s := keepsTime_effectOf env _ s h
/-- A COMMAND keeps Quartz's time, where it does not reset the device. -/
theorem runCommand_keepsTime (env : JdpEnv) (i sub : Nat) (h : bytesOk env.payload = true) (hi : i ≠ 0x1004) :
    KeepsTime (runCommand env i sub s) s := by
  unfold runCommand
  split
  · rename_i hx; split at hx <;> omega
  all_goals exact keepsTime_effectOf env _ s h

/-- A message to the server keeps Quartz's time, where it is no COMMAND to StateRequest. -/
theorem execProxyRequest_keepsTime (env : JdpEnv) (operation index sub : Nat) (h : bytesOk env.payload = true)
    (hi : operation % 256 = 0x05 → index % 65536 ≠ 0x1004) : KeepsTime (execProxyRequest env operation index sub s) s := by
  unfold execProxyRequest
  split
  case h_5 heq => exact runCommand_keepsTime s env _ _ h (hi heq)
  all_goals exact keepsTime_effectOf env _ s h
theorem execProxyAnswer_keepsTime (request : Nat) (abort : Nat) (payload : Segment) : KeepsTime (execProxyAnswer request abort payload s) s := keepsTime_effect _ s
theorem execProxyTimeout_keepsTime (request : Nat) : KeepsTime (execProxyTimeout request s) s := keepsTime_effect _ s
theorem execCredentialInstall_keepsTime (env : JdpEnv) (h : bytesOk env.payload = true) : KeepsTime (execCredentialInstall env s) s := keepsTime_effectOf env _ s h
theorem execStore_keepsTime (env : JdpEnv) (h : bytesOk env.payload = true) : KeepsTime (execStore env s) s := keepsTime_effectOf env _ s h
theorem execStoreComplete_keepsTime (badWords : List Nat) (repeatBad : List Nat) : KeepsTime (execStoreComplete badWords repeatBad s) s := keepsTime_effect _ s
theorem execRestore_keepsTime (env : JdpEnv) (h : bytesOk env.payload = true) : KeepsTime (execRestore env s) s := keepsTime_effectOf env _ s h
theorem execCheckCompute_keepsTime (env : JdpEnv) (h : bytesOk env.payload = true) : KeepsTime (execCheckCompute env s) s := keepsTime_effectOf env _ s h
theorem execCheckComputeComplete_keepsTime (data : List Byte) (poisoned : Bool) : KeepsTime (execCheckComputeComplete data poisoned s) s := keepsTime_effect _ s
theorem execCheckBytes_keepsTime (env : JdpEnv) (h : bytesOk env.payload = true) : KeepsTime (execCheckBytes env s) s := keepsTime_effectOf env _ s h
theorem execIdentify_keepsTime (via : FmVia) : KeepsTime (execIdentify via s) s := keepsTime_effect _ s
theorem execBackgroundOperationStatus_keepsTime (via : FmVia) : KeepsTime (execBackgroundOperationStatus via s) s := keepsTime_effect _ s
theorem execGetResponseMessageLimit_keepsTime (via : FmVia) : KeepsTime (execGetResponseMessageLimit via s) s := keepsTime_effect _ s
theorem execSetResponseMessageLimit_keepsTime (via : FmVia) (limit : Nat) : KeepsTime (execSetResponseMessageLimit via limit s) s := keepsTime_effect _ s
theorem execIdentifySwitchDevice_keepsTime (via : FmVia) : KeepsTime (execIdentifySwitchDevice via s) s := keepsTime_effect _ s
theorem execGetPhysicalPortState_keepsTime (via : FmVia) (ports : List PortId) : KeepsTime (execGetPhysicalPortState via ports s) s := keepsTime_effect _ s
theorem execPhysicalPortControl_keepsTime (via : FmVia) (port : PortId) (opcode : Nat) : KeepsTime (execPhysicalPortControl via port opcode s) s := keepsTime_effect _ s
theorem execSendPpbCxlIoConfigurationRequest_keepsTime (via : FmVia) (port : PortId) (routingId register : Nat) (write : Bool) (data : Nat) : KeepsTime (execSendPpbCxlIoConfigurationRequest via port routingId register write data s) s := keepsTime_effect _ s
theorem execGetVirtualCxlSwitchInfo_keepsTime (via : FmVia) (tenant : TenantId) : KeepsTime (execGetVirtualCxlSwitchInfo via tenant s) s := keepsTime_effect _ s
theorem execBindVppb_keepsTime (via : FmVia) (tenant : TenantId) (vppb : Fin 32) (port ld : Nat) : KeepsTime (execBindVppb via tenant vppb port ld s) s := keepsTime_effect _ s
theorem execUnbindVppb_keepsTime (via : FmVia) (tenant : TenantId) (vppb : Fin 32) (option : Nat) : KeepsTime (execUnbindVppb via tenant vppb option s) s := keepsTime_effect _ s
theorem execManagedRemoveTimeout_keepsTime : KeepsTime (execManagedRemoveTimeout s) s := keepsTime_effect _ s
theorem execTunnelManagementCommand_keepsTime (via : FmVia) (target : Nat) (opcode : Nat) (payload : List Byte) : KeepsTime (execTunnelManagementCommand via target opcode payload s) s := keepsTime_effect _ s
theorem execGetLdInfo_keepsTime (via : FmVia) (tenant : TenantId) : KeepsTime (execGetLdInfo via tenant s) s := keepsTime_effect _ s
theorem execGetLdAllocations_keepsTime (via : FmVia) (tenant : TenantId) : KeepsTime (execGetLdAllocations via tenant s) s := keepsTime_effect _ s
theorem execSetLdAllocations_keepsTime (via : FmVia) (tenant : TenantId) (start : Fin 16) (sizes : List Nat) : KeepsTime (execSetLdAllocations via tenant start sizes s) s := keepsTime_effect _ s
theorem execFmApiOtherCommand_keepsTime (via : FmVia) (opcode : Nat) : KeepsTime (execFmApiOtherCommand via opcode s) s := keepsTime_effect _ s
theorem execBeatPulseEdge_keepsTime (input : Fin 2) (error phase : Int) : KeepsTime (execBeatPulseEdge input error phase s) s := keepsTime_effect _ s
theorem execBeatFrame_keepsTime (input : Fin 2) (frame : BitVec 64) : KeepsTime (execBeatFrame input frame s) s := keepsTime_effect _ s
theorem execLinkBeat_keepsTime (port : PortId) (number offset : Nat) (arrival early : Int) : KeepsTime (execLinkBeat port number offset arrival early s) s := keepsTime_effect _ s
theorem execLinkDelayMeasurement_keepsTime (port : PortId) (roundTrip : Nat) : KeepsTime (execLinkDelayMeasurement port roundTrip s) s := keepsTime_effect _ s
theorem execHoldoverLimitReached_keepsTime : KeepsTime (execHoldoverLimitReached s) s := keepsTime_effect _ s
theorem execCommitArm_keepsTime (env : JdpEnv) (h : bytesOk env.payload = true) : KeepsTime (execCommitArm env s) s := keepsTime_effectOf env _ s h
theorem execStagedDiscard_keepsTime (env : JdpEnv) (h : bytesOk env.payload = true) : KeepsTime (execStagedDiscard env s) s := keepsTime_effectOf env _ s h
theorem execCommitCancel_keepsTime (env : JdpEnv) (h : bytesOk env.payload = true) : KeepsTime (execCommitCancel env s) s := keepsTime_effectOf env _ s h
theorem execCommitCancelReceive_keepsTime (port : PortId) (tag target : Nat) : KeepsTime (execCommitCancelReceive port tag target s) s := keepsTime_effect _ s
theorem execBeatReacquire_keepsTime (env : JdpEnv) (h : bytesOk env.payload = true) : KeepsTime (execBeatReacquire env s) s := keepsTime_effectOf env _ s h
theorem execMeshPacketReceive_keepsTime (unit : MeshUnit) (packet : MeshPacket) (good : Bool) : KeepsTime (execMeshPacketReceive unit packet good s) s := keepsTime_effect _ s
theorem execMeshAgeTick_keepsTime (router : Nat) (packet : MeshPacket) : KeepsTime (execMeshAgeTick router packet s) s := keepsTime_effect _ s
theorem execLossOfSignal_keepsTime (lane : LaneId) : KeepsTime (execLossOfSignal lane s) s := keepsTime_effect _ s
theorem execLossOfSignalDeassert_keepsTime (lane : LaneId) : KeepsTime (execLossOfSignalDeassert lane s) s := keepsTime_effect _ s
theorem execLossOfLock_keepsTime (lane : LaneId) : KeepsTime (execLossOfLock lane s) s := keepsTime_effect _ s
theorem execEyeScanComplete_keepsTime (lane : LaneId) (marginH marginV : Nat) : KeepsTime (execEyeScanComplete lane marginH marginV s) s := keepsTime_effect _ s
theorem execPortLockLost_keepsTime (port : PortId) : KeepsTime (execPortLockLost port s) s := keepsTime_effect _ s
theorem execPortLockRegained_keepsTime (port : PortId) : KeepsTime (execPortLockRegained port s) s := keepsTime_effect _ s
theorem execLockLossHoldExpiry_keepsTime (port : PortId) : KeepsTime (execLockLossHoldExpiry port s) s := keepsTime_effect _ s
theorem execPartnerRecovery_keepsTime (port : PortId) : KeepsTime (execPartnerRecovery port s) s := keepsTime_effect _ s
theorem execTrainingReachesL0_keepsTime (port : PortId) (rate width : Nat) (partnerFlit partnerLopt : Bool) (polarity : LaneTraining) (partnerCount partnerLast : Nat) (partnerRetired : List Nat) : KeepsTime (execTrainingReachesL0 port rate width partnerFlit partnerLopt polarity partnerCount partnerLast partnerRetired s) s := keepsTime_effect _ s
theorem execTrainingAttemptFailure_keepsTime (port : PortId) : KeepsTime (execTrainingAttemptFailure port s) s := keepsTime_effect _ s
theorem execDetectNoReceiver_keepsTime (port : PortId) : KeepsTime (execDetectNoReceiver port s) s := keepsTime_effect _ s
theorem execHotReset_keepsTime (port : PortId) : KeepsTime (execHotReset port s) s := keepsTime_effect _ s
theorem execWeuriMarkerTransmit_keepsTime (port : PortId) : KeepsTime (execWeuriMarkerTransmit port s) s := keepsTime_effect _ s
theorem execWeuriMarkerReceive_keepsTime (port : PortId) (copies : List MarkerCopy) : KeepsTime (execWeuriMarkerReceive port copies s) s := keepsTime_effect _ s
theorem execLaneParkExitReady_keepsTime (port : PortId) : KeepsTime (execLaneParkExitReady port s) s := keepsTime_effect _ s
theorem execIdeKeyRefresh_keepsTime (env : JdpEnv) (h : bytesOk env.payload = true) : KeepsTime (execIdeKeyRefresh env s) s := keepsTime_effectOf env _ s h
theorem execIdeMacFailure_keepsTime (port : PortId) : KeepsTime (execIdeMacFailure port s) s := keepsTime_effect _ s
theorem execFlitReceive_keepsTime (port : PortId) (sequence : Fin 4096) (crcGood : Bool) (payload : Nat) (corrected : Nat) : KeepsTime (execFlitReceive port sequence crcGood payload corrected s) s := keepsTime_effect _ s
theorem execAckReceive_keepsTime (port : PortId) (sequence : Fin 4096) : KeepsTime (execAckReceive port sequence s) s := keepsTime_effect _ s
theorem execNakReceive_keepsTime (port : PortId) (sequence : Nak) : KeepsTime (execNakReceive port sequence s) s := keepsTime_effect _ s
theorem execReplayTimerExpiry_keepsTime (port : PortId) : KeepsTime (execReplayTimerExpiry port s) s := keepsTime_effect _ s
theorem execCreditUpdateReceive_keepsTime (port : PortId) (chan : Chan) (headers datas : Credits) : KeepsTime (execCreditUpdateReceive port chan headers datas s) s := keepsTime_effect _ s
theorem execCreditUpdateRepeat_keepsTime (port : PortId) : KeepsTime (execCreditUpdateRepeat port s) s := keepsTime_effect _ s
theorem execCreditTimeout_keepsTime (port : PortId) (chan : Chan) : KeepsTime (execCreditTimeout port chan s) s := keepsTime_effect _ s
theorem execMemRequestIngress_keepsTime (port : PortId) (req : MemReq) : KeepsTime (execMemRequestIngress port req s) s := keepsTime_effect _ s
theorem execTlpIngress_keepsTime (port : PortId) (req : TlpReq) : KeepsTime (execTlpIngress port req s) s := keepsTime_effect _ s
theorem execIngressStagingEntry_keepsTime (port : PortId) (chan : Chan) : KeepsTime (execIngressStagingEntry port chan s) s := keepsTime_effect _ s
theorem execStageOneSend_keepsTime (input : SliceId) (slot : Nat) : KeepsTime (execStageOneSend input slot s) s := keepsTime_effect _ s
theorem execPoolCellArrival_keepsTime (middle : SliceId) : KeepsTime (execPoolCellArrival middle s) s := keepsTime_effect _ s
theorem execStageTwoRead_keepsTime (middle : SliceId) (slot : Nat) : KeepsTime (execStageTwoRead middle slot s) s := keepsTime_effect _ s
theorem execInternalDestinationTake_keepsTime (dest : Fin 13) (middle : SliceId) (headerError : BitVec 128) (payloadError : BitVec 1920) : KeepsTime (execInternalDestinationTake dest middle headerError payloadError s) s := keepsTime_effect _ s
theorem execResequencingArrival_keepsTime (output : SliceId) : KeepsTime (execResequencingArrival output s) s := keepsTime_effect _ s
theorem execCellRelease_keepsTime (output : SliceId) (headerError : BitVec 128) (payloadError : BitVec 1920) : KeepsTime (execCellRelease output headerError payloadError s) s := keepsTime_effect _ s
theorem execDeliveredCellFree_keepsTime (middle : SliceId) : KeepsTime (execDeliveredCellFree middle s) s := keepsTime_effect _ s
theorem execAuditSegment_keepsTime (middle : SliceId) (found : List DescFind) : KeepsTime (execAuditSegment middle found s) s := keepsTime_effect _ s
theorem execAuditSegmentAbandon_keepsTime (middle : SliceId) : KeepsTime (execAuditSegmentAbandon middle s) s := keepsTime_effect _ s
theorem execEgressTransmitDecision_keepsTime (port : PortId) : KeepsTime (execEgressTransmitDecision port s) s := keepsTime_effect _ s
theorem execQueueSample_keepsTime (port : PortId) : KeepsTime (execQueueSample port s) s := keepsTime_effect _ s
theorem execTenantReset_keepsTime (env : JdpEnv) (h : bytesOk env.payload = true) : KeepsTime (execTenantReset env s) s := keepsTime_effectOf env _ s h
theorem execDirectorySweepComplete_keepsTime (home : HomeId) (tenant : TenantId) : KeepsTime (execDirectorySweepComplete home tenant s) s := keepsTime_effect _ s
theorem execTenantCleanupEnd_keepsTime (tenant : TenantId) : KeepsTime (execTenantCleanupEnd tenant s) s := keepsTime_effect _ s
theorem execCompletionReceive_keepsTime (port : PortId) (dtag : Nat) (data : CplBody) (poisoned : Bool) (good : Bool) : KeepsTime (execCompletionReceive port dtag data poisoned good s) s := keepsTime_effect _ s
theorem execVmdCreate_keepsTime (env : JdpEnv) (h : bytesOk env.payload = true) : KeepsTime (execVmdCreate env s) s := keepsTime_effectOf env _ s h
theorem execVmdDestroy_keepsTime (env : JdpEnv) (h : bytesOk env.payload = true) : KeepsTime (execVmdDestroy env s) s := keepsTime_effectOf env _ s h
theorem execVmdDrainComplete_keepsTime (vmd : VmdId) : KeepsTime (execVmdDrainComplete vmd s) s := keepsTime_effect _ s
theorem execEmulatedPowerControlWrite_keepsTime (tenant : TenantId) (vppb : Fin 32) (off : Bool) : KeepsTime (execEmulatedPowerControlWrite tenant vppb off s) s := keepsTime_effect _ s
theorem execEmulatedAttentionAcknowledge_keepsTime (tenant : TenantId) (vppb : Fin 32) : KeepsTime (execEmulatedAttentionAcknowledge tenant vppb s) s := keepsTime_effect _ s
theorem execAttentionPress_keepsTime (env : JdpEnv) (h : bytesOk env.payload = true) : KeepsTime (execAttentionPress env s) s := keepsTime_effectOf env _ s h
theorem execHdmDecoderCommit_keepsTime (vmd : VmdId) (decoder : Fin 4) : KeepsTime (execHdmDecoderCommit vmd decoder s) s := keepsTime_effect _ s
theorem execEntryTableWrite_keepsTime (env : JdpEnv) (h : bytesOk env.payload = true) : KeepsTime (execEntryTableWrite env s) s := keepsTime_effectOf env _ s h
theorem execDescriptorTableWrite_keepsTime (env : JdpEnv) (h : bytesOk env.payload = true) : KeepsTime (execDescriptorTableWrite env s) s := keepsTime_effectOf env _ s h
theorem execRegionRunTableWrite_keepsTime (env : JdpEnv) (h : bytesOk env.payload = true) : KeepsTime (execRegionRunTableWrite env s) s := keepsTime_effectOf env _ s h
theorem execDeviceInventoryWrite_keepsTime (env : JdpEnv) (h : bytesOk env.payload = true) : KeepsTime (execDeviceInventoryWrite env s) s := keepsTime_effectOf env _ s h
theorem execEntryRunWrite_keepsTime (env : JdpEnv) (h : bytesOk env.payload = true) : KeepsTime (execEntryRunWrite env s) s := keepsTime_effectOf env _ s h
theorem execEntryRunWriteComplete_keepsTime : KeepsTime (execEntryRunWriteComplete s) s := keepsTime_effect _ s
theorem execEntryReplace_keepsTime (env : JdpEnv) (h : bytesOk env.payload = true) : KeepsTime (execEntryReplace env s) s := keepsTime_effectOf env _ s h
theorem execRowSettled_keepsTime (region : Bool) (row : Nat) : KeepsTime (execRowSettled region row s) s := keepsTime_effect _ s
theorem execBackgroundWrite_keepsTime (bank : BankId) : KeepsTime (execBackgroundWrite bank s) s := keepsTime_effect _ s
theorem execExtentCacheRefill_keepsTime (slice : SliceId) (entry : Nat) (eccUncorrectable eccCorrected : Bool) (waitNs : Nat) : KeepsTime (execExtentCacheRefill slice entry eccUncorrectable eccCorrected waitNs s) s := keepsTime_effect _ s
theorem execPoisonScrubComplete_keepsTime : KeepsTime (execPoisonScrubComplete s) s := keepsTime_effect _ s
theorem execHomeAcquireArrival_keepsTime (home : HomeId) : KeepsTime (execHomeAcquireArrival home s) s := keepsTime_effect _ s
theorem execHomeAcquireStart_keepsTime (home : HomeId) : KeepsTime (execHomeAcquireStart home s) s := keepsTime_effect _ s
theorem execHomeRelease_keepsTime (home : HomeId) : KeepsTime (execHomeRelease home s) s := keepsTime_effect _ s
theorem execBiconflict_keepsTime (port : PortId) (region : Fin 256) (line : Nat) : KeepsTime (execBiconflict port region line s) s := keepsTime_effect _ s
theorem execBirspArrival_keepsTime (home : HomeId) (region : Fin 256) (line : Nat) (tenant : TenantId) (keeps : BiState) : KeepsTime (execBirspArrival home region line tenant keeps s) s := keepsTime_effect _ s
theorem execHomeMemoryCompletion_keepsTime (home : HomeId) (dtag : Nat) (data : Nat) (poisoned : Bool) : KeepsTime (execHomeMemoryCompletion home dtag data poisoned s) s := keepsTime_effect _ s
theorem execSnoopAge_keepsTime (home : HomeId) (region : Fin 256) (line : Nat) (tenant : TenantId) : KeepsTime (execSnoopAge home region line tenant s) s := keepsTime_effect _ s
theorem execDirectoryScrub_keepsTime (home : HomeId) (set : Fin 16384) (way : Fin 16) (corrected uncorrectable : Bool) : KeepsTime (execDirectoryScrub home set way corrected uncorrectable s) s := keepsTime_effect _ s
theorem execCopyLockRequest_keepsTime (engine : EngineId) (line : Nat) : KeepsTime (execCopyLockRequest engine line s) s := keepsTime_effect _ s
theorem execRegionCreate_keepsTime (env : JdpEnv) (h : bytesOk env.payload = true) : KeepsTime (execRegionCreate env s) s := keepsTime_effectOf env _ s h
theorem execRegionDestroy_keepsTime (env : JdpEnv) (h : bytesOk env.payload = true) : KeepsTime (execRegionDestroy env s) s := keepsTime_effectOf env _ s h
theorem execRegionRecall_keepsTime (env : JdpEnv) (h : bytesOk env.payload = true) : KeepsTime (execRegionRecall env s) s := keepsTime_effectOf env _ s h
theorem execRegionRecallComplete_keepsTime : KeepsTime (execRegionRecallComplete s) s := keepsTime_effect _ s
theorem execAtomicEngineRequest_keepsTime : KeepsTime (execAtomicEngineRequest s) s := keepsTime_effect _ s
theorem execAtomicWriteCompletion_keepsTime (dtag : Nat) : KeepsTime (execAtomicWriteCompletion dtag s) s := keepsTime_effect _ s
theorem execJobCreate_keepsTime (env : JdpEnv) (h : bytesOk env.payload = true) : KeepsTime (execJobCreate env s) s := keepsTime_effectOf env _ s h
theorem execJobCancel_keepsTime (env : JdpEnv) (h : bytesOk env.payload = true) : KeepsTime (execJobCancel env s) s := keepsTime_effectOf env _ s h
theorem execArmSettled_keepsTime (engine : EngineId) : KeepsTime (execArmSettled engine s) s := keepsTime_effect _ s
theorem execChunkStart_keepsTime (engine : EngineId) : KeepsTime (execChunkStart engine s) s := keepsTime_effect _ s
theorem execCopyLineReadback_keepsTime (engine : EngineId) (line : Nat) (data : Nat) (poisoned : Bool) : KeepsTime (execCopyLineReadback engine line data poisoned s) s := keepsTime_effect _ s
theorem execDualWrite_keepsTime (engine : EngineId) : KeepsTime (execDualWrite engine s) s := keepsTime_effect _ s
theorem execDualWriteCompletion_keepsTime (engine : EngineId) (line : Nat) (legA legB : Bool) : KeepsTime (execDualWriteCompletion engine line legA legB s) s := keepsTime_effect _ s
theorem execCommitSettled_keepsTime (job : Fin 1024) : KeepsTime (execCommitSettled job s) s := keepsTime_effect _ s
theorem execFabricHelloReceive_keepsTime (port : PortId) (hello : Hello) : KeepsTime (execFabricHelloReceive port hello s) s := keepsTime_effect _ s
theorem execForeignNeighbour_keepsTime (port : PortId) : KeepsTime (execForeignNeighbour port s) s := keepsTime_effect _ s
theorem execHelloLoss_keepsTime (port : PortId) : KeepsTime (execHelloLoss port s) s := keepsTime_effect _ s
theorem execLsrReceive_keepsTime (port : PortId) (lsr : Lsr) : KeepsTime (execLsrReceive port lsr s) s := keepsTime_effect _ s
theorem execLsrRefresh_keepsTime : KeepsTime (execLsrRefresh s) s := keepsTime_effect _ s
theorem execLsrExpiry_keepsTime (identity : Nat) : KeepsTime (execLsrExpiry identity s) s := keepsTime_effect _ s
theorem execRemotePidAssign_keepsTime (env : JdpEnv) (h : bytesOk env.payload = true) : KeepsTime (execRemotePidAssign env s) s := keepsTime_effectOf env _ s h
theorem execRemotePidAssignDelivery_keepsTime (pid : PidWrite) : KeepsTime (execRemotePidAssignDelivery pid s) s := keepsTime_effect _ s
theorem execRemotePidAssignConfirm_keepsTime (admitted : Bool) : KeepsTime (execRemotePidAssignConfirm admitted s) s := keepsTime_effect _ s
theorem execRemotePidAssignTimeout_keepsTime : KeepsTime (execRemotePidAssignTimeout s) s := keepsTime_effect _ s
theorem execRouteProbe_keepsTime (env : JdpEnv) (h : bytesOk env.payload = true) : KeepsTime (execRouteProbe env s) s := keepsTime_effectOf env _ s h
theorem execFabricForward_keepsTime (port : Option PortId) (arrivedDown : Bool) (msg : FabricMsg) : KeepsTime (execFabricForward port arrivedDown msg s) s := keepsTime_effect _ s
theorem execAcuSettled_keepsTime (unit : AcuId) : KeepsTime (execAcuSettled unit s) s := keepsTime_effect _ s
theorem execSwapWrite_keepsTime (env : JdpEnv) (unit : AcuId) (h : bytesOk env.payload = true) : KeepsTime (execSwapWrite env unit s) s := keepsTime_effectOf env _ s h
theorem execOnyxSweep_keepsTime : KeepsTime (execOnyxSweep s) s := keepsTime_effect _ s
theorem execForce_keepsTime (env : JdpEnv) (source : SourceId) (h : bytesOk env.payload = true) : KeepsTime (execForce env source s) s := keepsTime_effectOf env _ s h
theorem execForceDry_keepsTime (env : JdpEnv) (source : SourceId) (h : bytesOk env.payload = true) : KeepsTime (execForceDry env source s) s := keepsTime_effectOf env _ s h
theorem execLatchClear_keepsTime (env : JdpEnv) (source : SourceId) (h : bytesOk env.payload = true) : KeepsTime (execLatchClear env source s) s := keepsTime_effectOf env _ s h
theorem execOccurrencesClear_keepsTime (env : JdpEnv) (source : SourceId) (h : bytesOk env.payload = true) : KeepsTime (execOccurrencesClear env source s) s := keepsTime_effectOf env _ s h
theorem execClearLatches_keepsTime (env : JdpEnv) (h : bytesOk env.payload = true) : KeepsTime (execClearLatches env s) s := keepsTime_effectOf env _ s h
theorem execCounterWindowRead_keepsTime (env : JdpEnv) (h : bytesOk env.payload = true) : KeepsTime (execCounterWindowRead env s) s := keepsTime_effectOf env _ s h
theorem execSnapshotArm_keepsTime (env : JdpEnv) (h : bytesOk env.payload = true) : KeepsTime (execSnapshotArm env s) s := keepsTime_effectOf env _ s h
theorem execShadowRelease_keepsTime (env : JdpEnv) (h : bytesOk env.payload = true) : KeepsTime (execShadowRelease env s) s := keepsTime_effectOf env _ s h
theorem execSampleRecordComplete_keepsTime (record : Nat) (toEgress toCompletion : Nat) (outcome : Fin 6) : KeepsTime (execSampleRecordComplete record toEgress toCompletion outcome s) s := keepsTime_effect _ s
theorem execSampleTailWrite_keepsTime (env : JdpEnv) (h : bytesOk env.payload = true) : KeepsTime (execSampleTailWrite env s) s := keepsTime_effectOf env _ s h
theorem execReadCounters_keepsTime (tenant : TenantId) (shadow : Bool) : KeepsTime (execReadCounters tenant shadow s) s := keepsTime_effect _ s
theorem execReadSamples_keepsTime (tenant : TenantId) (start : Nat) : KeepsTime (execReadSamples tenant start s) s := keepsTime_effect _ s
theorem execPresenceChange_keepsTime (slot : SlotId) (long short : Bool) : KeepsTime (execPresenceChange slot long short s) s := keepsTime_effect _ s
theorem execPresenceSeated_keepsTime (slot : SlotId) : KeepsTime (execPresenceSeated slot s) s := keepsTime_effect _ s
theorem execAttemptStart_keepsTime (slot : SlotId) : KeepsTime (execAttemptStart slot s) s := keepsTime_effect _ s
theorem execSlotSample_keepsTime (slot : SlotId) (m : SlotMeas) : KeepsTime (execSlotSample slot m s) s := keepsTime_effect _ s
theorem execPrechargeComplete_keepsTime (slot : SlotId) : KeepsTime (execPrechargeComplete slot s) s := keepsTime_effect _ s
theorem execPcgTurnOff_keepsTime (slot : SlotId) : KeepsTime (execPcgTurnOff slot s) s := keepsTime_effect _ s
theorem execPrechargeTimeout_keepsTime (slot : SlotId) : KeepsTime (execPrechargeTimeout slot s) s := keepsTime_effect _ s
theorem execRampComplete_keepsTime (slot : SlotId) : KeepsTime (execRampComplete slot s) s := keepsTime_effect _ s
theorem execRampTimeout_keepsTime (slot : SlotId) : KeepsTime (execRampTimeout slot s) s := keepsTime_effect _ s
theorem execFaultTimerExpiry_keepsTime (slot : SlotId) : KeepsTime (execFaultTimerExpiry slot s) s := keepsTime_effect _ s
theorem execFastTrip_keepsTime (peak : SlotPeak) : KeepsTime (execFastTrip peak s) s := keepsTime_effect _ s
theorem execRetryOffTimeElapsed_keepsTime (slot : SlotId) : KeepsTime (execRetryOffTimeElapsed slot s) s := keepsTime_effect _ s
theorem execRetriesUsedReset_keepsTime (slot : SlotId) : KeepsTime (execRetriesUsedReset slot s) s := keepsTime_effect _ s
theorem execGateStuck_keepsTime (slot : SlotId) : KeepsTime (execGateStuck slot s) s := keepsTime_effect _ s
theorem execShortedPassTransistor_keepsTime (slot : SlotId) : KeepsTime (execShortedPassTransistor slot s) s := keepsTime_effect _ s
theorem execReverseCurrent_keepsTime (slot : SlotId) (feed : Fin 2) : KeepsTime (execReverseCurrent slot feed s) s := keepsTime_effect _ s
theorem execFeedRecovery_keepsTime (slot : SlotId) (feed : Fin 2) : KeepsTime (execFeedRecovery slot feed s) s := keepsTime_effect _ s
theorem execInputLow_keepsTime (slot : SlotId) : KeepsTime (execInputLow slot s) s := keepsTime_effect _ s
theorem execInputRestored_keepsTime (slot : SlotId) : KeepsTime (execInputRestored slot s) s := keepsTime_effect _ s
theorem execPowerRequestOn_keepsTime (env : JdpEnv) (slot : SlotId) (h : bytesOk env.payload = true) : KeepsTime (execPowerRequestOn env slot s) s := keepsTime_effectOf env _ s h
theorem execPowerRequestOff_keepsTime (env : JdpEnv) (slot : SlotId) (h : bytesOk env.payload = true) : KeepsTime (execPowerRequestOff env slot s) s := keepsTime_effectOf env _ s h
theorem execPresenceLostTurnOff_keepsTime (slot : SlotId) : KeepsTime (execPresenceLostTurnOff slot s) s := keepsTime_effect _ s
theorem execSlotPortTrainingStart_keepsTime (slot : SlotId) : KeepsTime (execSlotPortTrainingStart slot s) s := keepsTime_effect _ s
theorem execFlashSlotWrite_keepsTime (env : JdpEnv) (slotB : Bool) (h : bytesOk env.payload = true) : KeepsTime (execFlashSlotWrite env slotB s) s := keepsTime_effectOf env _ s h
theorem execImageCheck_keepsTime (env : JdpEnv) (h : bytesOk env.payload = true) : KeepsTime (execImageCheck env s) s := keepsTime_effectOf env _ s h
theorem execFirmwareActivate_keepsTime (env : JdpEnv) (h : bytesOk env.payload = true) : KeepsTime (execFirmwareActivate env s) s := keepsTime_effectOf env _ s h
theorem execFirmwareActivationEnd_keepsTime : KeepsTime (execFirmwareActivationEnd s) s := keepsTime_effect _ s
theorem execRepairListClear_keepsTime (env : JdpEnv) (h : bytesOk env.payload = true) : KeepsTime (execRepairListClear env s) s := keepsTime_effectOf env _ s h
theorem execDomainDrainEnd_keepsTime (group : GroupId) : KeepsTime (execDomainDrainEnd group s) s := keepsTime_effect _ s
theorem execDomainDrainTimeout_keepsTime (group : GroupId) : KeepsTime (execDomainDrainTimeout group s) s := keepsTime_effect _ s
theorem execDomainPowerOff_keepsTime (group : GroupId) : KeepsTime (execDomainPowerOff group s) s := keepsTime_effect _ s
theorem execDomainPowerUpEnd_keepsTime (group : GroupId) (found : List BistFind) : KeepsTime (execDomainPowerUpEnd group found s) s := keepsTime_effect _ s
theorem execRestoreComplete_keepsTime : KeepsTime (execRestoreComplete s) s := keepsTime_effect _ s
theorem execCopyReadCompletion_keepsTime (engine : EngineId) (line : Nat) (data : Nat) (poisoned : Bool) : KeepsTime (execCopyReadCompletion engine line data poisoned s) s := keepsTime_effect _ s
theorem execCopyWriteCompletion_keepsTime (engine : EngineId) (line : Nat) : KeepsTime (execCopyWriteCompletion engine line s) s := keepsTime_effect _ s
theorem execAtomicReadCompletion_keepsTime (dtag : Nat) (data : Nat) (poisoned : Bool) : KeepsTime (execAtomicReadCompletion dtag data poisoned s) s := keepsTime_effect _ s
theorem execDebugPortAccess_keepsTime (space : Fin 5) (write : Bool) (target ld addr : Nat) (data : Nat) : KeepsTime (execDebugPortAccess space write target ld addr data s) s := keepsTime_effect _ s
theorem execClearEventRecords_keepsTime (vmd : VmdId) (handles : Option (List Nat)) : KeepsTime (execClearEventRecords vmd handles s) s := keepsTime_effect _ s
theorem execIdeKmRequest_keepsTime (tenant : TenantId) (port : PortId) : KeepsTime (execIdeKmRequest tenant port s) s := keepsTime_effect _ s

end Sys2Proof.Machine
end

