-- ==== Sys2Proof/Laws/PerInstr.lean ====
section
/-! SUPPORT. One law for every command: a well-formed command's message has a byte in every item of its payload and fields
that fit their places. -/

namespace Sys2Proof.Laws.Message

/-- A well-formed command that carries a message carries a well-formed one (Table 2-7). -/
def Statement (i : Instr) : Prop := i.wf = true → ∀ e, i.env = some e → e.wf = true ∧ bytesOk e.payload = true

/-- The payload of a well-formed message is made of bytes. -/
theorem payload_bytes (e : JdpEnv) (h : e.wf = true) : bytesOk e.payload = true := by
  simp only [JdpEnv.wf, Bool.and_eq_true] at h
  exact h.1.1.1.1.2

/-- The law from the two parts of well-formedness. -/
theorem of_wf (i : Instr) : Statement i := by
  intro h e he
  simp only [Instr.wf, he, Bool.and_eq_true] at h
  exact ⟨h.1, payload_bytes e h.1⟩

theorem pwronRstNAssert : Statement (.pwronRstNAssert) := of_wf _
theorem pwronRstNRelease (powerOn : Bool) : Statement (.pwronRstNRelease powerOn) := of_wf _
theorem fuseLoadComplete (corrected : Nat) (uncorrectable : Bool) :
    Statement (.fuseLoadComplete corrected uncorrectable) := of_wf _
theorem logicBistComplete (failed : BitVec 12) : Statement (.logicBistComplete failed) := of_wf _
theorem memoryBistComplete (found : List BistFind) : Statement (.memoryBistComplete found) := of_wf _
theorem fwLoadComplete : Statement (.fwLoadComplete) := of_wf _
theorem fwInitComplete : Statement (.fwInitComplete) := of_wf _
theorem restorePhaseComplete : Statement (.restorePhaseComplete) := of_wf _
theorem avsAcknowledge : Statement (.avsAcknowledge) := of_wf _
theorem avsTimeout : Statement (.avsTimeout) := of_wf _
theorem supplyOutOfRange (rails : BitVec 7) : Statement (.supplyOutOfRange rails) := of_wf _
theorem temperatureReading (temps : List Int) : Statement (.temperatureReading temps) := of_wf _
theorem stateRequestStart (env : JdpEnv) : Statement (.stateRequestStart env) := of_wf _
theorem stateRequestStop (env : JdpEnv) : Statement (.stateRequestStop env) := of_wf _
theorem stateRequestReset (env : JdpEnv) : Statement (.stateRequestReset env) := of_wf _
theorem registerWrite (env : JdpEnv) (index sub : Nat) : Statement (.registerWrite env index sub) := of_wf _
theorem readBlock (env : JdpEnv) (index sub : Nat) : Statement (.readBlock env index sub) := of_wf _
theorem writeBlock (env : JdpEnv) (index sub : Nat) : Statement (.writeBlock env index sub) := of_wf _
theorem blockIdleTimeout (session : Nat) : Statement (.blockIdleTimeout session) := of_wf _
theorem hello (env : JdpEnv) : Statement (.hello env) := of_wf _
theorem proof (env : JdpEnv) : Statement (.proof env) := of_wf _
theorem challengeTimeout (session : Nat) : Statement (.challengeTimeout session) := of_wf _
theorem close (env : JdpEnv) : Statement (.close env) := of_wf _
theorem sessionIdleTimeout (session : Nat) : Statement (.sessionIdleTimeout session) := of_wf _
theorem subscribe (env : JdpEnv) : Statement (.subscribe env) := of_wf _
theorem proxyRequest (env : JdpEnv) (operation index sub : Nat) :
    Statement (.proxyRequest env operation index sub) := of_wf _
theorem proxyAnswer (request : Nat) (abort : Nat) (payload : Segment) :
    Statement (.proxyAnswer request abort payload) := of_wf _
theorem proxyTimeout (request : Nat) : Statement (.proxyTimeout request) := of_wf _
theorem credentialInstall (env : JdpEnv) : Statement (.credentialInstall env) := of_wf _
theorem store (env : JdpEnv) : Statement (.store env) := of_wf _
theorem storeComplete (badWords : List Nat) (repeatBad : List Nat) :
    Statement (.storeComplete badWords repeatBad) := of_wf _
theorem restore (env : JdpEnv) : Statement (.restore env) := of_wf _
theorem checkCompute (env : JdpEnv) : Statement (.checkCompute env) := of_wf _
theorem checkComputeComplete (data : List Byte) (poisoned : Bool) :
    Statement (.checkComputeComplete data poisoned) := of_wf _
theorem checkBytes (env : JdpEnv) : Statement (.checkBytes env) := of_wf _
theorem identify (via : FmVia) : Statement (.identify via) := of_wf _
theorem backgroundOperationStatus (via : FmVia) : Statement (.backgroundOperationStatus via) := of_wf _
theorem getResponseMessageLimit (via : FmVia) : Statement (.getResponseMessageLimit via) := of_wf _
theorem setResponseMessageLimit (via : FmVia) (limit : Nat) : Statement (.setResponseMessageLimit via limit) := of_wf _
theorem identifySwitchDevice (via : FmVia) : Statement (.identifySwitchDevice via) := of_wf _
theorem getPhysicalPortState (via : FmVia) (ports : List PortId) : Statement (.getPhysicalPortState via ports) := of_wf _
theorem physicalPortControl (via : FmVia) (port : PortId) (opcode : Nat) :
    Statement (.physicalPortControl via port opcode) := of_wf _
theorem sendPpbCxlIoConfigurationRequest (via : FmVia) (port : PortId) (routingId register : Nat) (write : Bool) (data : Nat) :
    Statement (.sendPpbCxlIoConfigurationRequest via port routingId register write data) := of_wf _
theorem getVirtualCxlSwitchInfo (via : FmVia) (tenant : TenantId) :
    Statement (.getVirtualCxlSwitchInfo via tenant) := of_wf _
theorem bindVppb (via : FmVia) (tenant : TenantId) (vppb : Fin 32) (port ld : Nat) :
    Statement (.bindVppb via tenant vppb port ld) := of_wf _
theorem unbindVppb (via : FmVia) (tenant : TenantId) (vppb : Fin 32) (option : Nat) :
    Statement (.unbindVppb via tenant vppb option) := of_wf _
theorem managedRemoveTimeout : Statement (.managedRemoveTimeout) := of_wf _
theorem tunnelManagementCommand (via : FmVia) (target : Nat) (opcode : Nat) (payload : List Byte) :
    Statement (.tunnelManagementCommand via target opcode payload) := of_wf _
theorem getLdInfo (via : FmVia) (tenant : TenantId) : Statement (.getLdInfo via tenant) := of_wf _
theorem getLdAllocations (via : FmVia) (tenant : TenantId) : Statement (.getLdAllocations via tenant) := of_wf _
theorem setLdAllocations (via : FmVia) (tenant : TenantId) (start : Fin 16) (sizes : List Nat) :
    Statement (.setLdAllocations via tenant start sizes) := of_wf _
theorem fmApiOtherCommand (via : FmVia) (opcode : Nat) : Statement (.fmApiOtherCommand via opcode) := of_wf _
theorem beatPulseEdge (input : Fin 2) (error phase : Int) : Statement (.beatPulseEdge input error phase) := of_wf _
theorem beatFrame (input : Fin 2) (frame : BitVec 64) : Statement (.beatFrame input frame) := of_wf _
theorem linkBeat (port : PortId) (number offset : Nat) (arrival early : Int) :
    Statement (.linkBeat port number offset arrival early) := of_wf _
theorem linkDelayMeasurement (port : PortId) (roundTrip : Nat) :
    Statement (.linkDelayMeasurement port roundTrip) := of_wf _
theorem sourceJudgement : Statement (.sourceJudgement) := of_wf _
theorem holdoverLimitReached : Statement (.holdoverLimitReached) := of_wf _
theorem beatBoundary : Statement (.beatBoundary) := of_wf _
theorem armingCutoff : Statement (.armingCutoff) := of_wf _
theorem applyPreparation : Statement (.applyPreparation) := of_wf _
theorem commitArm (env : JdpEnv) : Statement (.commitArm env) := of_wf _
theorem stagedDiscard (env : JdpEnv) : Statement (.stagedDiscard env) := of_wf _
theorem commitCancel (env : JdpEnv) : Statement (.commitCancel env) := of_wf _
theorem commitCancelReceive (port : PortId) (tag target : Nat) :
    Statement (.commitCancelReceive port tag target) := of_wf _
theorem beatReacquire (env : JdpEnv) : Statement (.beatReacquire env) := of_wf _
theorem beatReacquireAdopt (src : BeatSrc) : Statement (.beatReacquireAdopt src) := of_wf _
theorem meshPacketReceive (unit : MeshUnit) (packet : MeshPacket) (good : Bool) :
    Statement (.meshPacketReceive unit packet good) := of_wf _
theorem meshAgeTick (router : Nat) (packet : MeshPacket) : Statement (.meshAgeTick router packet) := of_wf _
theorem lossOfSignal (lane : LaneId) : Statement (.lossOfSignal lane) := of_wf _
theorem lossOfSignalDeassert (lane : LaneId) : Statement (.lossOfSignalDeassert lane) := of_wf _
theorem lossOfLock (lane : LaneId) : Statement (.lossOfLock lane) := of_wf _
theorem eyeScanComplete (lane : LaneId) (marginH marginV : Nat) :
    Statement (.eyeScanComplete lane marginH marginV) := of_wf _
theorem portLockLost (port : PortId) : Statement (.portLockLost port) := of_wf _
theorem portLockRegained (port : PortId) : Statement (.portLockRegained port) := of_wf _
theorem lockLossHoldExpiry (port : PortId) : Statement (.lockLossHoldExpiry port) := of_wf _
theorem partnerRecovery (port : PortId) : Statement (.partnerRecovery port) := of_wf _
theorem trainingReachesL0 (port : PortId) (rate width : Nat) (partnerFlit partnerLopt : Bool) (polarity : LaneTraining) (partnerCount partnerLast : Nat) (partnerRetired : List Nat) :
    Statement (.trainingReachesL0 port rate width partnerFlit partnerLopt polarity partnerCount partnerLast partnerRetired) := of_wf _
theorem trainingAttemptFailure (port : PortId) : Statement (.trainingAttemptFailure port) := of_wf _
theorem detectNoReceiver (port : PortId) : Statement (.detectNoReceiver port) := of_wf _
theorem hotReset (port : PortId) : Statement (.hotReset port) := of_wf _
theorem weuriMarkerTransmit (port : PortId) : Statement (.weuriMarkerTransmit port) := of_wf _
theorem weuriMarkerReceive (port : PortId) (copies : List MarkerCopy) :
    Statement (.weuriMarkerReceive port copies) := of_wf _
theorem laneParkExitReady (port : PortId) : Statement (.laneParkExitReady port) := of_wf _
theorem ideKeyRefresh (env : JdpEnv) : Statement (.ideKeyRefresh env) := of_wf _
theorem ideMacFailure (port : PortId) : Statement (.ideMacFailure port) := of_wf _
theorem flitReceive (port : PortId) (sequence : Fin 4096) (crcGood : Bool) (payload : Nat) (corrected : Nat) :
    Statement (.flitReceive port sequence crcGood payload corrected) := of_wf _
theorem ackReceive (port : PortId) (sequence : Fin 4096) : Statement (.ackReceive port sequence) := of_wf _
theorem nakReceive (port : PortId) (sequence : Nak) : Statement (.nakReceive port sequence) := of_wf _
theorem replayTimerExpiry (port : PortId) : Statement (.replayTimerExpiry port) := of_wf _
theorem creditUpdateReceive (port : PortId) (chan : Chan) (headers datas : Credits) :
    Statement (.creditUpdateReceive port chan headers datas) := of_wf _
theorem creditUpdateRepeat (port : PortId) : Statement (.creditUpdateRepeat port) := of_wf _
theorem creditTimeout (port : PortId) (chan : Chan) : Statement (.creditTimeout port chan) := of_wf _
theorem memRequestIngress (port : PortId) (req : MemReq) : Statement (.memRequestIngress port req) := of_wf _
theorem tlpIngress (port : PortId) (req : TlpReq) : Statement (.tlpIngress port req) := of_wf _
theorem ingressStagingEntry (port : PortId) (chan : Chan) : Statement (.ingressStagingEntry port chan) := of_wf _
theorem stageOneSend (input : SliceId) (slot : Nat) : Statement (.stageOneSend input slot) := of_wf _
theorem poolCellArrival (middle : SliceId) : Statement (.poolCellArrival middle) := of_wf _
theorem stageTwoRead (middle : SliceId) (slot : Nat) : Statement (.stageTwoRead middle slot) := of_wf _
theorem internalDestinationTake (dest : Fin 13) (middle : SliceId) (headerError : BitVec 128) (payloadError : BitVec 1920) :
    Statement (.internalDestinationTake dest middle headerError payloadError) := of_wf _
theorem resequencingArrival (output : SliceId) : Statement (.resequencingArrival output) := of_wf _
theorem cellRelease (output : SliceId) (headerError : BitVec 128) (payloadError : BitVec 1920) :
    Statement (.cellRelease output headerError payloadError) := of_wf _
theorem deliveredCellFree (middle : SliceId) : Statement (.deliveredCellFree middle) := of_wf _
theorem auditSegment (middle : SliceId) (unlinked : List DescFind) : Statement (.auditSegment middle unlinked) := of_wf _
theorem auditSegmentAbandon (middle : SliceId) : Statement (.auditSegmentAbandon middle) := of_wf _
theorem egressTransmitDecision (port : PortId) : Statement (.egressTransmitDecision port) := of_wf _
theorem queueSample (port : PortId) : Statement (.queueSample port) := of_wf _
theorem tenantReset (env : JdpEnv) : Statement (.tenantReset env) := of_wf _
theorem directorySweepComplete (home : HomeId) (tenant : TenantId) :
    Statement (.directorySweepComplete home tenant) := of_wf _
theorem tenantCleanupEnd (tenant : TenantId) : Statement (.tenantCleanupEnd tenant) := of_wf _
theorem completionReceive (port : PortId) (dtag : Nat) (data : CplBody) (poisoned : Bool) (good : Bool) :
    Statement (.completionReceive port dtag data poisoned good) := of_wf _
theorem vmdCreate (env : JdpEnv) : Statement (.vmdCreate env) := of_wf _
theorem vmdDestroy (env : JdpEnv) : Statement (.vmdDestroy env) := of_wf _
theorem vmdDrainComplete (vmd : VmdId) : Statement (.vmdDrainComplete vmd) := of_wf _
theorem emulatedPowerControlWrite (tenant : TenantId) (vppb : Fin 32) (off : Bool) :
    Statement (.emulatedPowerControlWrite tenant vppb off) := of_wf _
theorem emulatedAttentionAcknowledge (tenant : TenantId) (vppb : Fin 32) :
    Statement (.emulatedAttentionAcknowledge tenant vppb) := of_wf _
theorem attentionPress (env : JdpEnv) : Statement (.attentionPress env) := of_wf _
theorem hdmDecoderCommit (vmd : VmdId) (decoder : Fin 4) : Statement (.hdmDecoderCommit vmd decoder) := of_wf _
theorem entryTableWrite (env : JdpEnv) : Statement (.entryTableWrite env) := of_wf _
theorem descriptorTableWrite (env : JdpEnv) : Statement (.descriptorTableWrite env) := of_wf _
theorem regionRunTableWrite (env : JdpEnv) : Statement (.regionRunTableWrite env) := of_wf _
theorem deviceInventoryWrite (env : JdpEnv) : Statement (.deviceInventoryWrite env) := of_wf _
theorem entryRunWrite (env : JdpEnv) : Statement (.entryRunWrite env) := of_wf _
theorem entryRunWriteComplete : Statement (.entryRunWriteComplete) := of_wf _
theorem entryReplace (env : JdpEnv) : Statement (.entryReplace env) := of_wf _
theorem rowSettled (region : Bool) (row : Nat) : Statement (.rowSettled region row) := of_wf _
theorem backgroundWrite (bank : BankId) : Statement (.backgroundWrite bank) := of_wf _
theorem extentCacheRefill (slice : SliceId) (entry : Nat) (eccUncorrectable eccCorrected : Bool) (waitNs : Nat) :
    Statement (.extentCacheRefill slice entry eccUncorrectable eccCorrected waitNs) := of_wf _
theorem poisonScrubComplete : Statement (.poisonScrubComplete) := of_wf _
theorem homeAcquireArrival (home : HomeId) : Statement (.homeAcquireArrival home) := of_wf _
theorem homeAcquireStart (home : HomeId) : Statement (.homeAcquireStart home) := of_wf _
theorem homeRelease (home : HomeId) : Statement (.homeRelease home) := of_wf _
theorem biconflict (port : PortId) (region : Fin 256) (line : Nat) : Statement (.biconflict port region line) := of_wf _
theorem birspArrival (home : HomeId) (region : Fin 256) (line : Nat) (tenant : TenantId) (keeps : BiState) :
    Statement (.birspArrival home region line tenant keeps) := of_wf _
theorem homeMemoryCompletion (home : HomeId) (dtag : Nat) (data : Nat) (poisoned : Bool) :
    Statement (.homeMemoryCompletion home dtag data poisoned) := of_wf _
theorem snoopAge (home : HomeId) (region : Fin 256) (line : Nat) (tenant : TenantId) :
    Statement (.snoopAge home region line tenant) := of_wf _
theorem directoryScrub (home : HomeId) (set : Fin 16384) (way : Fin 16) (corrected uncorrectable : Bool) :
    Statement (.directoryScrub home set way corrected uncorrectable) := of_wf _
theorem copyLockRequest (engine : EngineId) (line : Nat) : Statement (.copyLockRequest engine line) := of_wf _
theorem regionCreate (env : JdpEnv) : Statement (.regionCreate env) := of_wf _
theorem regionDestroy (env : JdpEnv) : Statement (.regionDestroy env) := of_wf _
theorem regionRecall (env : JdpEnv) : Statement (.regionRecall env) := of_wf _
theorem regionRecallComplete : Statement (.regionRecallComplete) := of_wf _
theorem atomicEngineRequest : Statement (.atomicEngineRequest) := of_wf _
theorem atomicWriteCompletion (dtag : Nat) : Statement (.atomicWriteCompletion dtag) := of_wf _
theorem jobCreate (env : JdpEnv) : Statement (.jobCreate env) := of_wf _
theorem jobCancel (env : JdpEnv) : Statement (.jobCancel env) := of_wf _
theorem armSettled (engine : EngineId) : Statement (.armSettled engine) := of_wf _
theorem chunkStart (engine : EngineId) : Statement (.chunkStart engine) := of_wf _
theorem copyLineReadback (engine : EngineId) (line : Nat) (data : Nat) (poisoned : Bool) :
    Statement (.copyLineReadback engine line data poisoned) := of_wf _
theorem dualWrite (engine : EngineId) : Statement (.dualWrite engine) := of_wf _
theorem dualWriteCompletion (engine : EngineId) (line : Nat) (legA legB : Bool) :
    Statement (.dualWriteCompletion engine line legA legB) := of_wf _
theorem commitSettled (job : Fin 1024) : Statement (.commitSettled job) := of_wf _
theorem fabricHelloReceive (port : PortId) (hello : Hello) : Statement (.fabricHelloReceive port hello) := of_wf _
theorem foreignNeighbour (port : PortId) : Statement (.foreignNeighbour port) := of_wf _
theorem helloLoss (port : PortId) : Statement (.helloLoss port) := of_wf _
theorem lsrReceive (port : PortId) (lsr : Lsr) : Statement (.lsrReceive port lsr) := of_wf _
theorem lsrRefresh : Statement (.lsrRefresh) := of_wf _
theorem lsrExpiry (identity : Nat) : Statement (.lsrExpiry identity) := of_wf _
theorem remotePidAssign (env : JdpEnv) : Statement (.remotePidAssign env) := of_wf _
theorem remotePidAssignDelivery (pid : PidWrite) : Statement (.remotePidAssignDelivery pid) := of_wf _
theorem remotePidAssignConfirm (admitted : Bool) : Statement (.remotePidAssignConfirm admitted) := of_wf _
theorem remotePidAssignTimeout : Statement (.remotePidAssignTimeout) := of_wf _
theorem routeProbe (env : JdpEnv) : Statement (.routeProbe env) := of_wf _
theorem fabricForward (port : Option PortId) (arrivedDown : Bool) (msg : FabricMsg) :
    Statement (.fabricForward port arrivedDown msg) := of_wf _
theorem acuSettled (unit : AcuId) : Statement (.acuSettled unit) := of_wf _
theorem swapWrite (env : JdpEnv) (unit : AcuId) : Statement (.swapWrite env unit) := of_wf _
theorem onyxSweep : Statement (.onyxSweep) := of_wf _
theorem notificationDeadline : Statement (.notificationDeadline) := of_wf _
theorem force (env : JdpEnv) (source : SourceId) : Statement (.force env source) := of_wf _
theorem forceDry (env : JdpEnv) (source : SourceId) : Statement (.forceDry env source) := of_wf _
theorem latchClear (env : JdpEnv) (source : SourceId) : Statement (.latchClear env source) := of_wf _
theorem occurrencesClear (env : JdpEnv) (source : SourceId) : Statement (.occurrencesClear env source) := of_wf _
theorem clearLatches (env : JdpEnv) : Statement (.clearLatches env) := of_wf _
theorem counterWindowRead (env : JdpEnv) : Statement (.counterWindowRead env) := of_wf _
theorem snapshotArm (env : JdpEnv) : Statement (.snapshotArm env) := of_wf _
theorem shadowRelease (env : JdpEnv) : Statement (.shadowRelease env) := of_wf _
theorem sampleRecordComplete (record : Nat) (toEgress toCompletion : Nat) (outcome : Fin 6) :
    Statement (.sampleRecordComplete record toEgress toCompletion outcome) := of_wf _
theorem sampleTailWrite (env : JdpEnv) : Statement (.sampleTailWrite env) := of_wf _
theorem readCounters (tenant : TenantId) (shadow : Bool) : Statement (.readCounters tenant shadow) := of_wf _
theorem readSamples (tenant : TenantId) (start : Nat) : Statement (.readSamples tenant start) := of_wf _
theorem presenceChange (slot : SlotId) (long short : Bool) : Statement (.presenceChange slot long short) := of_wf _
theorem presenceSeated (slot : SlotId) : Statement (.presenceSeated slot) := of_wf _
theorem attemptStart (slot : SlotId) : Statement (.attemptStart slot) := of_wf _
theorem slotSample (slot : SlotId) (m : SlotMeas) : Statement (.slotSample slot m) := of_wf _
theorem prechargeComplete (slot : SlotId) : Statement (.prechargeComplete slot) := of_wf _
theorem pcgTurnOff (slot : SlotId) : Statement (.pcgTurnOff slot) := of_wf _
theorem prechargeTimeout (slot : SlotId) : Statement (.prechargeTimeout slot) := of_wf _
theorem rampComplete (slot : SlotId) : Statement (.rampComplete slot) := of_wf _
theorem rampTimeout (slot : SlotId) : Statement (.rampTimeout slot) := of_wf _
theorem faultTimerExpiry (slot : SlotId) : Statement (.faultTimerExpiry slot) := of_wf _
theorem fastTrip (slot : SlotPeak) : Statement (.fastTrip slot) := of_wf _
theorem retryOffTimeElapsed (slot : SlotId) : Statement (.retryOffTimeElapsed slot) := of_wf _
theorem retriesUsedReset (slot : SlotId) : Statement (.retriesUsedReset slot) := of_wf _
theorem gateStuck (slot : SlotId) : Statement (.gateStuck slot) := of_wf _
theorem shortedPassTransistor (slot : SlotId) : Statement (.shortedPassTransistor slot) := of_wf _
theorem reverseCurrent (slot : SlotId) (feed : Fin 2) : Statement (.reverseCurrent slot feed) := of_wf _
theorem feedRecovery (slot : SlotId) (feed : Fin 2) : Statement (.feedRecovery slot feed) := of_wf _
theorem inputLow (slot : SlotId) : Statement (.inputLow slot) := of_wf _
theorem inputRestored (slot : SlotId) : Statement (.inputRestored slot) := of_wf _
theorem powerRequestOn (env : JdpEnv) (slot : SlotId) : Statement (.powerRequestOn env slot) := of_wf _
theorem powerRequestOff (env : JdpEnv) (slot : SlotId) : Statement (.powerRequestOff env slot) := of_wf _
theorem presenceLostTurnOff (slot : SlotId) : Statement (.presenceLostTurnOff slot) := of_wf _
theorem slotPortTrainingStart (slot : SlotId) : Statement (.slotPortTrainingStart slot) := of_wf _
theorem flashSlotWrite (env : JdpEnv) (slotB : Bool) : Statement (.flashSlotWrite env slotB) := of_wf _
theorem imageCheck (env : JdpEnv) : Statement (.imageCheck env) := of_wf _
theorem firmwareActivate (env : JdpEnv) : Statement (.firmwareActivate env) := of_wf _
theorem firmwareActivationEnd : Statement (.firmwareActivationEnd) := of_wf _
theorem repairListClear (env : JdpEnv) : Statement (.repairListClear env) := of_wf _
theorem domainDrainEnd (group : GroupId) : Statement (.domainDrainEnd group) := of_wf _
theorem domainDrainTimeout (group : GroupId) : Statement (.domainDrainTimeout group) := of_wf _
theorem domainPowerOff (group : GroupId) : Statement (.domainPowerOff group) := of_wf _
theorem domainPowerUpEnd (group : GroupId) (found : List BistFind) : Statement (.domainPowerUpEnd group found) := of_wf _
theorem restoreComplete : Statement (.restoreComplete) := of_wf _
theorem copyReadCompletion (engine : EngineId) (line : Nat) (data : Nat) (poisoned : Bool) :
    Statement (.copyReadCompletion engine line data poisoned) := of_wf _
theorem copyWriteCompletion (engine : EngineId) (line : Nat) : Statement (.copyWriteCompletion engine line) := of_wf _
theorem atomicReadCompletion (dtag : Nat) (data : Nat) (poisoned : Bool) :
    Statement (.atomicReadCompletion dtag data poisoned) := of_wf _
theorem debugPortAccess (space : Fin 5) (write : Bool) (target ld addr : Nat) (data : Nat) :
    Statement (.debugPortAccess space write target ld addr data) := of_wf _
theorem clearEventRecords (vmd : VmdId) (handles : Option (List Nat)) :
    Statement (.clearEventRecords vmd handles) := of_wf _
theorem ideKmRequest (tenant : TenantId) (port : PortId) : Statement (.ideKmRequest tenant port) := of_wf _

end Sys2Proof.Laws.Message
end

