-- ==== Sys2Proof/Laws/Same.lean ====
section
/-! SUPPORT. What the shared operations leave as it was, part by part. -/

namespace Sys2Proof.Machine

theorem Part.same_refl (p : Part) (s : State) : p.same s s := by cases p <;> first | rfl | exact ⟨rfl, rfl, rfl⟩

theorem Part.same_trans {p : Part} {s t u : State} (h : p.same s t) (g : p.same t u) : p.same s u := by
  cases p <;> first | exact ⟨g.1.trans h.1, g.2.1.trans h.2.1, g.2.2.trans h.2.2⟩ | exact Eq.trans g h

theorem SameBut.refl (l : List Part) (s : State) : SameBut l s s := fun p _ => p.same_refl s

theorem SameBut.mono {l m : List Part} {s t : State} (h : SameBut l s t) (hm : ∀ p ∈ l, p ∈ m) : SameBut m s t :=
  fun p hp => h p (fun x => hp (hm p x))

theorem SameBut.trans {l : List Part} {s t u : State} (h : SameBut l s t) (g : SameBut l t u) : SameBut l s u :=
  fun p hp => Part.same_trans (h p hp) (g p hp)

/-- Steps that change different parts change both together. -/
theorem SameBut.then {l m n : List Part} {s t u : State} (h : SameBut l s t) (g : SameBut m t u)
    (hl : ∀ p ∈ l, p ∈ n := by decide) (hm : ∀ p ∈ m, p ∈ n := by decide) : SameBut n s u :=
  (h.mono hl).trans (g.mono hm)

theorem SameBut.out {l : List Part} {s t : State} (h : SameBut l s t) (hp : .out ∉ l := by decide) : t.out = s.out := h .out hp
theorem SameBut.freeCtr {l : List Part} {s t : State} (h : SameBut l s t) (hp : .freeCtr ∉ l := by decide) : t.freeCtr = s.freeCtr := h .freeCtr hp
theorem SameBut.regs {l : List Part} {s t : State} (h : SameBut l s t) (hp : .regs ∉ l := by decide) : t.regs = s.regs := h .regs hp
theorem SameBut.staged {l : List Part} {s t : State} (h : SameBut l s t) (hp : .staged ∉ l := by decide) : t.staged = s.staged := h .staged hp
theorem SameBut.stagedActs {l : List Part} {s t : State} (h : SameBut l s t) (hp : .stagedActs ∉ l := by decide) : t.stagedActs = s.stagedActs := h .stagedActs hp
theorem SameBut.armed {l : List Part} {s t : State} (h : SameBut l s t) (hp : .armed ∉ l := by decide) : t.armed = s.armed := h .armed hp
theorem SameBut.commits {l : List Part} {s t : State} (h : SameBut l s t) (hp : .commits ∉ l := by decide) : t.commits = s.commits := h .commits hp
theorem SameBut.cmds {l : List Part} {s t : State} (h : SameBut l s t) (hp : .cmds ∉ l := by decide) : t.cmds = s.cmds := h .cmds hp
theorem SameBut.pins {l : List Part} {s t : State} (h : SameBut l s t) (hp : .pins ∉ l := by decide) : t.pins = s.pins := h .pins hp
theorem SameBut.store {l : List Part} {s t : State} (h : SameBut l s t) (hp : .store ∉ l := by decide) : t.store = s.store := h .store hp
theorem SameBut.flash {l : List Part} {s t : State} (h : SameBut l s t) (hp : .flash ∉ l := by decide) : t.flash = s.flash := h .flash hp
theorem SameBut.mgmt {l : List Part} {s t : State} (h : SameBut l s t) (hp : .mgmt ∉ l := by decide) : t.mgmt = s.mgmt := h .mgmt hp
theorem SameBut.quartz {l : List Part} {s t : State} (h : SameBut l s t) (hp : .quartz ∉ l := by decide) : t.quartz = s.quartz := h .quartz hp
theorem SameBut.onyx {l : List Part} {s t : State} (h : SameBut l s t) (hp : .onyx ∉ l := by decide) : t.onyx = s.onyx := h .onyx hp
theorem SameBut.startup {l : List Part} {s t : State} (h : SameBut l s t) (hp : .startup ∉ l := by decide) : t.startup = s.startup := h .startup hp
theorem SameBut.mesh {l : List Part} {s t : State} (h : SameBut l s t) (hp : .mesh ∉ l := by decide) : t.mesh = s.mesh := h .mesh hp
theorem SameBut.core {l : List Part} {s t : State} (h : SameBut l s t) (hp : .core ∉ l := by decide) : t.core = s.core := h .core hp
theorem SameBut.ports {l : List Part} {s t : State} (h : SameBut l s t) (hp : .ports ∉ l := by decide) : t.ports = s.ports := h .ports hp
theorem SameBut.atomic {l : List Part} {s t : State} (h : SameBut l s t) (hp : .atomic ∉ l := by decide) : t.atomic = s.atomic := h .atomic hp
theorem SameBut.tenants {l : List Part} {s t : State} (h : SameBut l s t) (hp : .tenants ∉ l := by decide) : t.tenants = s.tenants := h .tenants hp
theorem SameBut.vmds {l : List Part} {s t : State} (h : SameBut l s t) (hp : .vmds ∉ l := by decide) : t.vmds = s.vmds := h .vmds hp
theorem SameBut.regions {l : List Part} {s t : State} (h : SameBut l s t) (hp : .regions ∉ l := by decide) : t.regions = s.regions := h .regions hp
theorem SameBut.beryl {l : List Part} {s t : State} (h : SameBut l s t) (hp : .beryl ∉ l := by decide) : t.beryl = s.beryl := h .beryl hp
theorem SameBut.garnet {l : List Part} {s t : State} (h : SameBut l s t) (hp : .garnet ∉ l := by decide) : t.garnet = s.garnet := h .garnet hp
theorem SameBut.jasper {l : List Part} {s t : State} (h : SameBut l s t) (hp : .jasper ∉ l := by decide) : t.jasper = s.jasper := h .jasper hp
theorem SameBut.fabric {l : List Part} {s t : State} (h : SameBut l s t) (hp : .fabric ∉ l := by decide) : t.fabric = s.fabric := h .fabric hp
theorem SameBut.tel {l : List Part} {s t : State} (h : SameBut l s t) (hp : .tel ∉ l := by decide) : t.tel = s.tel := h .tel hp
theorem SameBut.slots {l : List Part} {s t : State} (h : SameBut l s t) (hp : .slots ∉ l := by decide) : t.slots = s.slots := h .slots hp
theorem SameBut.pending {l : List Part} {s t : State} (h : SameBut l s t) (hp : .queue ∉ l := by decide) : t.pending = s.pending := h .queue hp
theorem SameBut.beat {l : List Part} {s t : State} (h : SameBut l s t) (hp : .time ∉ l := by decide) : t.beat = s.beat := (h .time hp).1
theorem SameBut.tick {l : List Part} {s t : State} (h : SameBut l s t) (hp : .time ∉ l := by decide) : t.tick = s.tick := (h .time hp).2.1
theorem SameBut.clock {l : List Part} {s t : State} (h : SameBut l s t) (hp : .time ∉ l := by decide) : t.clock = s.clock := (h .time hp).2.2

/-- Registers unchanged as a whole read as before. -/
theorem SameBut.r {l : List Part} {s t : State} (h : SameBut l s t) (k : Nat) (hp : .regs ∉ l := by decide) : t.r k = s.r k :=
  State.r_of_regs (h .regs hp) k

variable (s : State)

theorem State.same_w (k v : Nat) : SameBut [.regs] s (s.w k v) := by
  intro p hp; cases p <;> first | rfl | exact ⟨rfl, rfl, rfl⟩ | simp at hp
theorem State.same_emit (o : Out) : SameBut [.out] s (s.emit o) := by
  intro p hp; cases p <;> first | rfl | exact ⟨rfl, rfl, rfl⟩ | simp at hp
theorem State.same_modPort (p : Nat) (f : PortSt → PortSt) : SameBut [.ports] s (s.modPort p f) := by
  intro p hp; cases p <;> first | rfl | exact ⟨rfl, rfl, rfl⟩ | simp at hp
theorem State.same_modTenant (n : Nat) (f : TenantSt → TenantSt) : SameBut [.tenants] s (s.modTenant n f) := by
  intro p hp; cases p <;> first | rfl | exact ⟨rfl, rfl, rfl⟩ | simp at hp
theorem State.same_modVmd (n : Nat) (f : VmdSt → VmdSt) : SameBut [.vmds] s (s.modVmd n f) := by
  intro p hp; cases p <;> first | rfl | exact ⟨rfl, rfl, rfl⟩ | simp at hp
theorem State.same_modSlot (n : Nat) (f : SlotSt → SlotSt) : SameBut [.slots] s (s.modSlot n f) := by
  intro p hp; cases p <;> first | rfl | exact ⟨rfl, rfl, rfl⟩ | simp at hp
theorem State.same_modJob (n : Nat) (f : Job → Job) : SameBut [.jasper] s (s.modJob n f) := by
  intro p hp; cases p <;> first | rfl | exact ⟨rfl, rfl, rfl⟩ | simp at hp
theorem State.same_modEngine (n : Nat) (f : EngineSt → EngineSt) : SameBut [.jasper] s (s.modEngine n f) := by
  intro p hp; cases p <;> first | rfl | exact ⟨rfl, rfl, rfl⟩ | simp at hp
theorem State.same_modCmd (n : Nat) (f : CmdRec → CmdRec) : SameBut [.cmds] s (s.modCmd n f) := by
  intro p hp; cases p <;> first | rfl | exact ⟨rfl, rfl, rfl⟩ | simp at hp

/-- An occurrence changes Onyx's pending counts and nothing else. -/
theorem State.same_occurWith (k : Nat) (d : Report) : SameBut [.onyx] s (s.occurWith k d) := by
  rw [s.occurWith_frame]; intro p hp; cases p <;> first | rfl | exact ⟨rfl, rfl, rfl⟩ | simp at hp
theorem State.same_occur (k : Nat) : SameBut [.onyx] s (s.occur k) := s.same_occurWith k _
theorem State.same_occurOf (k id : Nat) : SameBut [.onyx] s (s.occurOf k id) := s.same_occurWith k _

/-- A counter raised changes its object, and draws a free value where it passes its size. -/
theorem State.same_bump (k n : Nat) : SameBut [.regs, .freeCtr] s (s.bump k n) := by
  rw [s.bump_frame]; intro p hp; cases p <;> first | rfl | exact ⟨rfl, rfl, rfl⟩ | simp at hp

theorem State.same_missedWork (j : Nat) (d : Report) : SameBut [.regs, .freeCtr, .onyx] s (s.missedWork j d) :=
  (s.same_bump _ _).then (State.same_occurWith _ _ _)

/-- A fresh free value changes the counter that draws it. -/
theorem State.same_fresh : SameBut [.freeCtr] s s.fresh.2 := by
  intro p hp; cases p <;> first | rfl | exact ⟨rfl, rfl, rfl⟩ | simp at hp

/-- An answer changes sessions and what has been sent. -/
theorem State.same_reply (e : JdpEnv) (op i b a : Nat) (d : List Byte) (m : Bool) :
    SameBut [.mgmt, .out] s (s.reply e op i b a d m) := by
  rw [s.reply_frame]; intro p hp; cases p <;> first | rfl | exact ⟨rfl, rfl, rfl⟩ | simp at hp

/-- What tells sessions of a command's end changes sessions and what has been sent. -/
theorem State.same_each {α : Type} (l : List Part) (f : State → α → State) (h : ∀ s x, SameBut l s (f s x)) (xs : List α) :
    SameBut l s (s.each xs f) := by
  unfold State.each
  induction xs generalizing s with
  | nil => exact SameBut.refl l s
  | cons x xs ih => exact (h s x).trans (ih (f s x))

theorem State.same_tell (id : Nat) (m : JdpSent) : SameBut [.mgmt, .out] s (s.tell id m) := by
  rw [s.tell_frame]; intro p hp; cases p <;> first | rfl | exact ⟨rfl, rfl, rfl⟩ | simp at hp

theorem State.same_modSession (id : Nat) (f : Session → Session) : SameBut [.mgmt] s (s.modSession id f) := by
  intro p hp; cases p <;> first | rfl | exact ⟨rfl, rfl, rfl⟩ | simp at hp

theorem State.same_mgmt (m : Mgmt) : SameBut [.mgmt] s { s with mgmt := m } := by
  intro p hp; cases p <;> first | rfl | exact ⟨rfl, rfl, rfl⟩ | simp at hp

theorem State.same_notifyEnd (i : Nat) : SameBut [.mgmt, .out] s (s.notifyEnd i) := by
  unfold State.notifyEnd
  refine SameBut.then (State.same_each s [.mgmt, .out] _ (fun u x => ?_) _) (State.same_mgmt _ _)
  split
  · exact (u.same_modSession x.id _).then (State.same_tell _ x.id _)
  · exact (u.same_modSession x.id _).mono (by decide)

/-- A command's end changes its record, sessions and what has been sent. -/
theorem State.same_cmdDone (i : Nat) (r : List Byte) : SameBut [.cmds, .mgmt, .out] s (s.cmdDone i r) := by
  unfold State.cmdDone; split
  · exact (State.same_modCmd _ _ _).then (State.same_notifyEnd _ _)
  · exact SameBut.refl _ s

theorem State.same_cmdFailed (i code : Nat) : SameBut [.cmds, .mgmt, .out] s (s.cmdFailed i code) := by
  unfold State.cmdFailed; split
  · exact (State.same_modCmd _ _ _).then (State.same_notifyEnd _ _)
  · exact SameBut.refl _ s

/-- A PENDING command that ends is DONE with its results. -/
theorem State.cmd_cmdDone (i : Nat) (r : List Byte) (h : (s.cmd i).state = .pending) :
    (s.cmdDone i r).cmd i = { s.cmd i with state := .done, result := 0, results := r } := by
  unfold State.cmdDone; rw [if_pos h]
  have := (State.same_notifyEnd (s.modCmd i (fun c => { c with state := .done, result := 0, results := r })) i).cmds
  unfold State.cmd; rw [this]
  exact State.cmd_modCmd s i _

/-- A PENDING command that fails is FAILED with its result code. -/
theorem State.cmd_cmdFailed (i code : Nat) (h : (s.cmd i).state = .pending) :
    (s.cmdFailed i code).cmd i = { s.cmd i with state := .failed, result := code, results := [] } := by
  unfold State.cmdFailed; rw [if_pos h]
  have := (State.same_notifyEnd (s.modCmd i (fun c => { c with state := .failed, result := code, results := [] })) i).cmds
  unfold State.cmd; rw [this]
  exact State.cmd_modCmd s i _

/-- An accepted trigger changes its command's record and the sessions. -/
theorem State.same_accept (e : JdpEnv) (i : Nat) : SameBut [.cmds, .mgmt] s (s.accept e i) := by
  unfold State.accept State.modOwn; split <;> intro p hp <;> cases p <;> first | rfl | exact ⟨rfl, rfl, rfl⟩ | simp at hp

/-- The accepted command is PENDING, with its arguments latched. -/
theorem State.cmd_accept (e : JdpEnv) (i : Nat) : ((s.accept e i).cmd i).state = .pending := by
  unfold State.accept State.modOwn; split <;> simp [State.modSession, State.cmd, State.modCmd]

/-- A message that steps 1 to 5 accept changes its session alone. -/
theorem State.same_front {e : JdpEnv} {op i b : Nat} {p : Priv} {t : State} (h : s.front e op i b = .ok (p, t)) :
    SameBut [.mgmt] s t := by
  rw [s.front_ok h]; intro p hp; cases p <;> first | rfl | exact ⟨rfl, rfl, rfl⟩ | simp at hp

/-- What a command answers, part by part: what its effect leaves, with the queue and the time of before. -/
theorem effect_same {l : List Part} {f : State → State} {s : State} (h : SameBut l s (f s)) :
    ∃ t, effect f s = .next t ∧ SameBut l s t ∧ SameBut [.queue, .time] (f s) t := by
  refine ⟨_, rfl, ?_, ?_⟩
  · intro p hp; cases p <;> first | rfl | exact ⟨rfl, rfl, rfl⟩ | exact h _ hp
  · intro p hp; cases p <;> first | rfl | exact ⟨rfl, rfl, rfl⟩ | simp at hp

/-- What a command answers holds its effect, with the queue and the time of before. -/
theorem effect_any (f : State → State) (s : State) : ∃ t, effect f s = .next t ∧ SameBut [.queue, .time] (f s) t := by
  refine ⟨_, rfl, ?_⟩
  intro p hp; cases p <;> first | rfl | exact ⟨rfl, rfl, rfl⟩ | simp at hp

/-- Parts that the effect leaves as they were are so in the answer. -/
theorem SameBut.after {f : State → State} {s t v : State} {l : List Part} (h : SameBut l s v) (e : effect f s = .next t)
    (q : SameBut [.queue, .time] v t) : SameBut l s t := by
  intro p hp
  by_cases h1 : p = .queue
  · subst h1; exact (effect_next e).1
  · by_cases h2 : p = .time
    · subst h2; exact (effect_next e).2
    · exact Part.same_trans (h p hp) (q p (by simp [h1, h2]))

/-- What a command of the beat answers holds its effect, at the time that it names. -/
theorem clocked_any (n m : Nat) (f : State → State) (s : State) :
    ∃ t, clocked n m f s = .next t ∧ SameBut [.queue, .time] (f s) t ∧ t.pending = s.pending ∧ t.beat = n ∧ t.tick = m ∧
      t.clock = s.clock + passed s.beat s.tick n m := by
  refine ⟨_, rfl, ?_, rfl, rfl, rfl, rfl⟩
  intro p hp; cases p <;> first | rfl | exact ⟨rfl, rfl, rfl⟩ | simp at hp

/-- A state with the queue and the time of another holds what it held, but for these. -/
theorem State.same_timed (u : State) :
    SameBut [.queue, .time] u { u with pending := s.pending, beat := s.beat, tick := s.tick, clock := s.clock } := by
  intro p hp; cases p <;> first | rfl | exact ⟨rfl, rfl, rfl⟩ | simp at hp

theorem SameBut.timed {l : List Part} {s u : State} (h : SameBut l s u) :
    SameBut l s { u with pending := s.pending, beat := s.beat, tick := s.tick, clock := s.clock } := by
  intro p hp; cases p <;> first | exact h _ hp | rfl | exact ⟨rfl, rfl, rfl⟩

/-- A message accepted and handled, part by part. -/
theorem Heard.next {s u v : State} {e : JdpEnv} {op i b : Nat} {p : Priv} {d : List Byte} {k : Priv → State → Served}
    {l : List Part} (h : Heard s e op i b p u) (hk : k p u = .ok (v, d)) (hv : SameBut l u v) :
    ∃ t, effectOf e (fun s => s.serve e op i b k) s = .next t ∧ SameBut (.mgmt :: .out :: l) s t ∧
      SameBut [.mgmt, .out, .queue, .time] v t := by
  rw [h.done hk]
  have hf := (State.same_front s h.2).mono (m := .mgmt :: .out :: l) (by simp)
  have hw := hv.mono (m := .mgmt :: .out :: l) (by simp +contextual)
  have hr := State.same_reply v e op i b 0 d false
  exact ⟨_, rfl, ((hf.trans hw).trans (hr.mono (by simp))).timed, hr.then (State.same_timed s _)⟩

/-- A message accepted and refused: sessions and messages sent are all that changes (R22). -/
theorem Heard.refusedSame {s u : State} {e : JdpEnv} {op i b code : Nat} {p : Priv} {k : Priv → State → Served}
    (h : Heard s e op i b p u) (hk : k p u = .error code) :
    ∃ t, effectOf e (fun s => s.serve e op i b k) s = .next t ∧ SameBut [.mgmt, .out] s t := by
  rw [h.refused hk]
  exact ⟨_, rfl, ((State.same_front s h.2).then (State.same_reply u e op i b code [] false)).timed⟩

/-- A COMMAND accepted, part by part. -/
theorem Triggered.next {s u v : State} {e : JdpEnv} {i : Nat} {checks : State → List Byte → CmdChecks} {args : List Byte}
    {run : State → List Byte → State} {l : List Part} (h : Triggered s e i checks args u)
    (hr : run (u.accept e i) args = v) (hv : SameBut l (u.accept e i) v) :
    ∃ t, effectOf e (fun s => s.trigger e i checks run) s = .next t ∧ SameBut (.cmds :: .mgmt :: .out :: l) s t ∧
      SameBut [.mgmt, .out, .queue, .time] v t := by
  rw [h.done run, hr]
  obtain ⟨p, c, hh, _⟩ := h
  have hf := (State.same_front s hh.2).mono (m := .cmds :: .mgmt :: .out :: l) (by simp)
  have ha := (State.same_accept u e i).mono (m := .cmds :: .mgmt :: .out :: l) (by simp)
  have hw := hv.mono (m := .cmds :: .mgmt :: .out :: l) (by simp +contextual)
  have hp := State.same_reply v e opCommand i 2 0 [] false
  exact ⟨_, rfl, (((hf.trans ha).trans hw).trans (hp.mono (by simp))).timed, hp.then (State.same_timed s _)⟩

/-- The state in which a command runs differs from the one before in its record and sessions. -/
theorem Triggered.accepted {s u : State} {e : JdpEnv} {i : Nat} {checks : State → List Byte → CmdChecks} {args : List Byte}
    (h : Triggered s e i checks args u) : SameBut [.cmds, .mgmt] s (u.accept e i) := by
  obtain ⟨p, c, hh, _⟩ := h
  exact (State.same_front s hh.2).then (State.same_accept u e i)

theorem Heard.same {s u : State} {e : JdpEnv} {op i b : Nat} {p : Priv} (h : Heard s e op i b p u) : SameBut [.mgmt] s u :=
  State.same_front s h.2

/-! ## How to show what a command answers -/

theorem effect_intro {f : State → State} {s : State} {P : State → Prop}
    (h : ∀ t, effect f s = .next t → SameBut [.queue, .time] (f s) t → P t) : ∃ t, effect f s = .next t ∧ P t := by
  obtain ⟨t, h1, q⟩ := effect_any f s
  exact ⟨t, h1, h t h1 q⟩

theorem clocked_intro {n m : Nat} {f : State → State} {s : State} {P : State → Prop}
    (h : ∀ t, SameBut [.queue, .time] (f s) t → t.pending = s.pending → t.beat = n → t.tick = m →
      t.clock = s.clock + passed s.beat s.tick n m → P t) : ∃ t, clocked n m f s = .next t ∧ P t := by
  obtain ⟨t, h1, q, h2, h3, h4, h5⟩ := clocked_any n m f s
  exact ⟨t, h1, h t q h2 h3 h4 h5⟩

theorem Heard.intro {s u v : State} {e : JdpEnv} {op i b : Nat} {p : Priv} {d : List Byte} {k : Priv → State → Served}
    {P : State → Prop} (h : Heard s e op i b p u) (hk : k p u = .ok (v, d))
    (hP : ∀ t, SameBut [.mgmt, .out, .queue, .time] v t → (∀ l, SameBut l u v → SameBut (.mgmt :: .out :: l) s t) → P t) :
    ∃ t, effectOf e (fun s => s.serve e op i b k) s = .next t ∧ P t := by
  obtain ⟨t, h1, _, h3⟩ := h.next hk (l := [.queue, .time, .out, .freeCtr, .regs, .staged, .stagedActs, .armed, .commits,
    .cmds, .pins, .store, .flash, .mgmt, .quartz, .onyx, .startup, .mesh, .core, .ports, .atomic, .tenants, .vmds, .regions,
    .beryl, .garnet, .jasper, .fabric, .tel, .slots]) (fun p hp => by cases p <;> simp at hp)
  refine ⟨t, h1, hP t h3 ?_⟩
  intro l hl
  obtain ⟨t', h1', h2', _⟩ := h.next hk hl
  rw [h1] at h1'; cases h1'; exact h2'

theorem Triggered.intro {s u : State} {e : JdpEnv} {i : Nat} {checks : State → List Byte → CmdChecks} {args : List Byte}
    {run : State → List Byte → State} {P : State → Prop} (h : Triggered s e i checks args u)
    (hP : ∀ t, SameBut [.mgmt, .out, .queue, .time] (run (u.accept e i) args) t →
      (∀ l, SameBut l (u.accept e i) (run (u.accept e i) args) → SameBut (.cmds :: .mgmt :: .out :: l) s t) → P t) :
    ∃ t, effectOf e (fun s => s.trigger e i checks run) s = .next t ∧ P t := by
  obtain ⟨t, h1, _, h3⟩ := h.next (run := run) rfl (l := [.queue, .time, .out, .freeCtr, .regs, .staged, .stagedActs, .armed,
    .commits, .cmds, .pins, .store, .flash, .mgmt, .quartz, .onyx, .startup, .mesh, .core, .ports, .atomic, .tenants, .vmds,
    .regions, .beryl, .garnet, .jasper, .fabric, .tel, .slots]) (fun p hp => by cases p <;> simp at hp)
  refine ⟨t, h1, hP t h3 ?_⟩
  intro l hl
  obtain ⟨t', h1', h2', _⟩ := h.next (run := run) rfl hl
  rw [h1] at h1'; cases h1'; exact h2'

/-! ## What follows from the register file alone -/

theorem State.on_of_regs {s t : State} (h : t.regs = s.regs) (k : Nat) : t.on k = s.on k := by
  cases s; cases t; cases h; rfl

theorem State.device_of_regs {s t : State} (h : t.regs = s.regs) : t.device = s.device := by
  cases s; cases t; cases h; rfl

theorem State.beatState_of_regs {s t : State} (h : t.regs = s.regs) : t.beatState = s.beatState := by
  cases s; cases t; cases h; rfl

theorem State.sliceMode_of_regs {s t : State} (h : t.regs = s.regs) (n : Nat) : t.sliceMode n = s.sliceMode n := by
  cases s; cases t; cases h; rfl

theorem State.portExists_of_regs {s t : State} (h : t.regs = s.regs) (p : Nat) : t.portExists p = s.portExists p := by
  cases s; cases t; cases h; rfl

theorem State.portMode_of_regs {s t : State} (h : t.regs = s.regs) (p : Nat) : t.portMode p = s.portMode p := by
  cases s; cases t; cases h; rfl

theorem State.portRole_of_regs {s t : State} (h : t.regs = s.regs) (p : Nat) : t.portRole p = s.portRole p := by
  cases s; cases t; cases h; rfl

theorem State.isHost_of_regs {s t : State} (h : t.regs = s.regs) (p : Nat) : t.isHost p = s.isHost p := by
  cases s; cases t; cases h; rfl

theorem State.isDevice_of_regs {s t : State} (h : t.regs = s.regs) (p : Nat) : t.isDevice p = s.isDevice p := by
  cases s; cases t; cases h; rfl

theorem State.isFabric_of_regs {s t : State} (h : t.regs = s.regs) (p : Nat) : t.isFabric p = s.isFabric p := by
  cases s; cases t; cases h; rfl

theorem State.link_of_regs {s t : State} (h : t.regs = s.regs) (p : Nat) : t.link p = s.link p := by
  cases s; cases t; cases h; rfl

theorem State.lane_of_regs {s t : State} (h : t.regs = s.regs) (n : Nat) : t.lane n = s.lane n := by
  cases s; cases t; cases h; rfl

theorem State.portLanes_of_regs {s t : State} (h : t.regs = s.regs) (p : Nat) : t.portLanes p = s.portLanes p := by
  cases s; cases t; cases h; rfl

theorem State.laneport_of_regs {s t : State} (h : t.regs = s.regs) (n : Nat) : t.laneport n = s.laneport n := by
  cases s; cases t; cases h; rfl

theorem State.tenantState_of_regs {s t : State} (h : t.regs = s.regs) (n : Nat) : t.tenantState n = s.tenantState n := by
  cases s; cases t; cases h; rfl

theorem State.vmdState_of_regs {s t : State} (h : t.regs = s.regs) (n : Nat) : t.vmdState n = s.vmdState n := by
  cases s; cases t; cases h; rfl

theorem State.firmwareAway_of_regs {s t : State} (h : t.regs = s.regs) : t.firmwareAway = s.firmwareAway := by
  cases s; cases t; cases h; rfl

theorem State.islandOnly_of_regs {s t : State} (h : t.regs = s.regs) : t.islandOnly = s.islandOnly := by
  cases s; cases t; cases h; rfl

theorem State.linksRun_of_regs {s t : State} (h : t.regs = s.regs) : t.linksRun = s.linksRun := by
  cases s; cases t; cases h; rfl

theorem State.forwarding_of_regs {s t : State} (h : t.regs = s.regs) : t.forwarding = s.forwarding := by
  cases s; cases t; cases h; rfl

theorem State.beatsRun_of_regs {s t : State} (h : t.regs = s.regs) : t.beatsRun = s.beatsRun := by
  cases s; cases t; cases h; rfl

theorem State.canOccur_of_regs {s t : State} (h : t.regs = s.regs) (k : Nat) : t.canOccur k = s.canOccur k := by
  cases s; cases t; cases h; rfl

end Sys2Proof.Machine
end

