-- ==== Sys2Proof/Machine/Package.lean ====
section
/-! DEFINITION. The package (18): the ball of every signal, the ranges and currents of the rails, the typical power and the lid's
limit. No command of the table reads them: they are facts of the part. -/

namespace Sys2Proof

/-- Rails of Table 18-6, in the order of RailsOutOfRange (Table 18-9). -/
inductive Rail where
  | vddCore | vddSram | vddaSd | vddhSd | vddIo | vddAon08 | vddAon33
  deriving DecidableEq, Repr

/-- Pins of a slot channel's block (Table 18-3). -/
inductive SlotPin where
  | prsl | prss | out | sb | gb | hsg | pcg | sa | ga | snsp | snsn
  deriving DecidableEq, Repr

/-- What a ball carries: a leg of a lane (lane, receiver, negative leg), a leg of a port die's reference clock, a slot pin, a control
signal by its name, a rail, RSVD or VSS. -/
inductive Ball where
  | lane (n : Nat) (rx negative : Bool)
  | refclk (die : Nat) (negative : Bool)
  | slot (c : Nat) (pin : SlotPin)
  | signal (name : String)
  | rail (r : Rail)
  | rsvd
  | vss
  deriving DecidableEq, Repr

/-- The ball, row and column, of an edge position (Table 18-1). -/
def edgeBall (edge d u : Nat) : Nat × Nat :=
  match edge with
  | 0 => (d, u)
  | 1 => (u, 91 - d)
  | 2 => (91 - d, 91 - u)
  | _ => (91 - u, d)

/-- The ball of a leg of a lane (R338). -/
def laneBall (n : Nat) (rx negative : Bool) : Nat × Nat :=
  let k := n / 51
  let i := n - 51 * k
  edgeBall (k / 2) (4 * (i / 17) + (if rx then 3 else 1)) (39 * (k % 2) + 2 * (i % 17) + 1 + ofBool negative)

/-- The ball of a leg of a port die's reference clock (R338). -/
def refclkBall (k : Nat) (negative : Bool) : Nat × Nat := edgeBall (k / 2) 1 (39 * (k % 2) + 35 + ofBool negative)

/-- What an edge position carries: every ball of the bands that R338 names for no lane and no clock is VSS. -/
def edgeAt (edge d u : Nat) : Ball :=
  let h := (u - 1) / 39
  let k := 2 * edge + h
  let v := u - 39 * h
  let n := 51 * k + 17 * ((d - 1) / 4) + (v - 1) / 2
  if v ≤ 34 && (d - 1) % 4 = 0 then .lane n false (v % 2 = 0)
  else if v ≤ 34 && (d - 1) % 4 = 2 then .lane n true (v % 2 = 0)
  else if d = 1 && (v = 35 || v = 36) then .refclk k (v = 36)
  else .vss

/-- The rail of a checkerboard region, on its balls of even row + column (R339). -/
def checkerboard (r : Rail) (row col : Nat) : Ball := if (row + col) % 2 = 0 then .rail r else .vss

/-- The slot channel's block, from its lowest row up (Table 18-3). -/
def slotBlock : List (List (Option SlotPin)) :=
  [[some .sa, some .ga, none, some .snsp, some .snsn, none], [some .sb, some .gb, none, some .hsg, some .pcg, none],
   [none, none, none, some .out, none, none], [some .prsl, some .prss, none, none, none, none]]

/-- What the slot region, rows 19 to 34 and columns 19 to 66, carries (R339, Table 18-3). -/
def slotAt (row col : Nat) : Ball :=
  match ((slotBlock.getD ((row - 19) % 4) []).getD ((col - 19) % 6) none) with
  | some p => .slot (8 * ((row - 19) / 4) + (col - 19) / 6) p
  | none => .vss

/-- The control-signal region from row 67 up (Table 18-4): VSS and RSVD by their names. -/
def controlRows : List (List String) :=
  [["VDD_IO", "VDD_IO", "VDD_IO", "VDD_IO", "VDD_IO", "RSVD", "RSVD", "RSVD", "RSVD", "RSVD", "RSVD", "RSVD"],
   ["SPI_SCK", "SPI_CS_N", "SPI_IO0", "SPI_IO1", "SPI_IO2", "SPI_IO3", "TCK", "TMS", "TDI", "TDO", "TRST_N", "VDD_IO"],
   ["I3C_SCL", "I3C_SDA", "HB_A", "HB_B", "PWRON_RST_N", "THERM_ALERT_N", "AVS_CLK", "AVS_MDATA", "AVS_SDATA", "VDD_IO",
    "VDD_IO", "VSS"],
   ["VSS", "VSS", "MGMT_A_RXP", "MGMT_A_RXN", "VSS", "MGMT_B_RXP", "MGMT_B_RXN", "VSS", "VDD_AON33", "VDD_AON33",
    "VDD_AON08", "VDD_AON08"],
   ["VSS", "VSS", "MGMT_A_TXP", "MGMT_A_TXN", "VSS", "MGMT_B_TXP", "MGMT_B_TXN", "VSS", "VDD_AON33", "VDD_AON33",
    "VDD_AON08", "VDD_AON08"],
   ["BEAT_A_P", "BEAT_A_N", "VSS", "BEAT_B_P", "BEAT_B_N", "VSS", "BEAT_OUT_P", "BEAT_OUT_N", "VSS", "SYSCLK_P",
    "SYSCLK_N", "VSS"]]

/-- The ball of a control-region entry. -/
def controlBall (name : String) : Ball :=
  if name = "VSS" then .vss else if name = "RSVD" then .rsvd
  else if name = "VDD_IO" then .rail .vddIo
  else if name = "VDD_AON08" then .rail .vddAon08
  else if name = "VDD_AON33" then .rail .vddAon33
  else .signal name

/-- The square of the centre from `a` to `b` in both directions holds a ball. -/
def inSquare (a b row col : Nat) : Bool := a ≤ row && row ≤ b && a ≤ col && col ≤ b

/-- What a ball of the centre carries (R339, Table 18-2). -/
def centreAt (row col : Nat) : Ball :=
  if !inSquare 17 74 row col then checkerboard .vddaSd row col
  else if !inSquare 19 72 row col then checkerboard .vddhSd row col
  else if row ≤ 34 then if col ≤ 66 then slotAt row col else checkerboard .vddCore row col
  else if row ≤ 42 then checkerboard .vddSram row col
  else if row ≤ 66 then checkerboard .vddCore row col
  else if col ≤ 30 then controlBall ((controlRows.getD (row - 67) []).getD (col - 19) "VSS")
  else checkerboard .vddCore row col

/-- What ball row/column carries, rows and columns 1 to 90 (R337 to R339). -/
def ballAt (row col : Nat) : Ball :=
  if inSquare 13 78 row col then centreAt row col
  else if row ≤ 12 && col ≤ 78 then edgeAt 0 row col
  else if row ≤ 78 && 79 ≤ col then edgeAt 1 (91 - col) row
  else if 79 ≤ row && 13 ≤ col then edgeAt 2 (91 - row) (91 - col)
  else edgeAt 3 col (91 - row)

/-! ## Rails and power (R341, R344, R346) -/

/-- The recommended range of a rail in units of 0.1 mV: its least, and its most (Table 18-6). -/
def Rail.range : Rail → Nat × Nat
  | .vddCore => (7200, 8000)
  | .vddSram => (7760, 8240)
  | .vddaSd => (8245, 8755)
  | .vddhSd => (11640, 12360)
  | .vddIo => (17100, 18900)
  | .vddAon08 => (7760, 8240)
  | .vddAon33 => (31350, 34650)

/-- The maximum current of a rail in mA (Table 18-7). -/
def Rail.maxCurrent : Rail → Nat
  | .vddCore => 360000
  | .vddSram => 50000
  | .vddaSd => 170000
  | .vddhSd => 40000
  | .vddIo => 2000
  | .vddAon08 => 3000
  | .vddAon33 => 1800

/-- The rails in order. -/
def rails : List Rail := [.vddCore, .vddSram, .vddaSd, .vddhSd, .vddIo, .vddAon08, .vddAon33]

/-- The range in which a rail is not out of range, in 0.1 mV: VDD_CORE within 30 mV of the set point in mV (R342). -/
def Rail.monitored (r : Rail) (setPoint : Nat) : Nat × Nat :=
  match r with
  | .vddCore => (10 * setPoint - 300, 10 * setPoint + 300)
  | _ => r.range

/-- The maximum power in mW: each rail's maximum current at the upper end of its range (R344). -/
def maxPower : Nat := rails.foldl (fun p r => p + r.maxCurrent * r.range.2 / 10000) 0

/-- Typical power of a lane in mW, both directions: parked, or at a rate from 0 for 2.5 GT/s to 6 for 128 GT/s (Table 18-8). -/
def lanePower (rate : Option Nat) : Nat :=
  match rate with
  | none => 20
  | some r => [90, 110, 150, 190, 260, 360, 470].getD r 470

/-- Load in percent: the share of stage-one slots that carry a cell, from the cells counted in an interval in ns (R344). -/
def loadPercent (cells interval : Nat) : Nat := 100 * cells * 8 / (5 * 48 * interval)

/-- Typical power in mW of lanes at their rates and a load in percent (R344). -/
def typicalPower (lanes : List (Option Nat)) (load : Nat) : Nat :=
  127200 + (lanes.foldl (fun p r => p + lanePower r) 0) + 1740 * load

/-- The highest temperature of the lid in 0.001 °C at a power in mW (R346). -/
def lidLimit (power : Nat) : Nat := 105000 - 40 * power / 1000

end Sys2Proof
end

