-- ==== Sys2Proof/Tests/Slice0.lean ====
section
/-! SUPPORT. Tests: ill-formed commands that the checks refuse, and for each statement states and operands that meet its
premises together. -/

namespace Sys2Proof.Tests

open Sys2Proof.Machine

set_option Elab.async false

/-! ## Helpers -/

/-- Reset with objects at given values. -/
def st (l : List (Nat × Nat)) : State := l.foldl (fun s x => s.w x.1 x.2) State.reset

/-- OPERATIONAL, LOCKED, with proxied messages admitted. -/
def opSt (l : List (Nat × Nat)) : State :=
  { st ([(K.deviceState, 3), (K.proxyAdmit, 1), (K.beatBeatState, 1), (K.startupPhase, 7)] ++ l) with
    pins := { reset := false, lanesIdle := false } }

/-- PREOP. -/
def preSt (l : List (Nat × Nat)) : State :=
  { st ([(K.deviceState, 2), (K.proxyAdmit, 1), (K.beatBeatState, 1), (K.startupPhase, 7)] ++ l) with
    pins := { reset := false, lanesIdle := false } }

/-- A message that another switch relays with OWNER privilege. -/
def msg (payload : List Byte) (row : Nat := 0) : JdpEnv :=
  { via := .proxy .owner, version := 1, flags := 0, alive := 0, session := 7, segment := 0, length := 0, proxyTarget := 0,
    row := row, payload := payload, tag := 0, crc := 0, size := 100 }

/-- The argument block of a command. -/
def args (s : State) (i : Nat) (a : List Byte) : State := s.modCmd i (fun c => { c with args := a })

/-- A command that is PENDING. -/
def waits (s : State) (i : Nat) : State := s.modCmd i (fun c => { c with state := .pending })

/-- A relayed message is heard where the block admits it. -/
theorem heard_of (s : State) (e : JdpEnv) (op i b : Nat) (p : Priv)
    (h : e.via = .proxy p ∧ bytesOk e.payload = true ∧ e.proxied = false ∧ s.islandOnly = false ∧ s.on K.proxyAdmit = true ∧
      versionRefusal e op = none) :
    Heard s e op i b p s := by
  refine ⟨h.2.1, ?_⟩
  unfold State.front; rw [h.1]
  simp [h.2.2.1, h.2.2.2.1, h.2.2.2.2.1, h.2.2.2.2.2]

/-- A relayed COMMAND is accepted where no check refuses it. -/
theorem triggered_of (s : State) (e : JdpEnv) (i : Nat) (checks : State → List Byte → CmdChecks) (a : List Byte) (p : Priv)
    (h : e.via = .proxy p ∧ bytesOk e.payload = true ∧ e.proxied = false ∧ s.islandOnly = false ∧ s.on K.proxyAdmit = true ∧
      versionRefusal e opCommand = none)
    (ha : (s.cmd i).args = a)
    (hc : (Schema.cmd i).any (fun c => decide (s.triggerRefusal e p c (c.admits s.device) (checks s a) = none)) = true) :
    Triggered s e i checks a s := by
  cases h1 : Schema.cmd i with
  | none => simp [h1] at hc
  | some c =>
    rw [h1] at hc
    exact ⟨p, c, heard_of s e opCommand i 0x02 p h, h1, ha, of_decide_eq_true hc⟩

/-! ## The queue and safety -/


theorem wit_StepRunsTheFrontCommand : ({ opSt [] with pending := [.lsrRefresh] } : State).pending = .lsrRefresh :: [] := rfl

theorem wit_IdleStep_stays : State.reset.pending = [] ∧ State.reset.device = .boot ∧
    ({ opSt [] with tick := 1023 } : State).pending = [] ∧ 1023 ≤ ({ opSt [] with tick := 1023 } : State).tick := by
  decide +kernel

theorem wit_IdleStep : (opSt []).pending = [] ∧ (opSt []).device ≠ .boot ∧ (opSt []).device ≠ .hold ∧ (opSt []).tick < 1023 := by
  decide +kernel

theorem wit_EveryStepGoesOn : (opSt []).ok := ⟨by decide +kernel, by decide +kernel⟩

theorem wit_OnlyTheBeat : ∃ t, exec .lsrRefresh (opSt []) = .next t := ⟨_, rfl⟩

/-! ## Event sources and Onyx -/

theorem wit_SourceWrites_force :
    Heard (opSt []) (msg [1]) opWrite (0x6000 + 2) 0x04 .owner (opSt []) ∧
      ((opSt []).writeRefusal .owner (0x6000 + 2) 0x04 = none ∧ (opSt []).canOccur 2 = true ∧
        (Tbl.getD (opSt []).onyx.pend 2 []).length < 255 ∧ (msg [1]).payload = [1] ∧ (msg [2]).payload = [2]) :=
  ⟨heard_of _ _ _ _ _ _ (by decide +kernel), by decide +kernel⟩

theorem wit_SourceWrites_clear :
    Heard (opSt []) (msg [0]) opWrite (0x6000 + 2) 0x05 .owner (opSt []) ∧
      Heard (opSt []) (msg [0]) opWrite (0x6000 + 2) 0x06 .owner (opSt []) ∧
      ((opSt []).writeRefusal .owner (0x6000 + 2) 0x05 = none ∧ (opSt []).writeRefusal .owner (0x6000 + 2) 0x06 = none ∧
        (Src.info 2).cls ≠ .unused ∧ (msg [0]).payload = [0]) :=
  ⟨heard_of _ _ _ _ _ _ (by decide +kernel), heard_of _ _ _ _ _ _ (by decide +kernel), by decide +kernel⟩

theorem wit_ClearLatches : Triggered (args (opSt []) 0x1183 [0, 0, 0x0F, 0xFF]) (msg [1]) 0x1183
    (fun _ a => clearLatchesChecks a) [0, 0, 0x0F, 0xFF] (args (opSt []) 0x1183 [0, 0, 0x0F, 0xFF]) :=
  triggered_of _ _ _ _ _ .owner (by decide +kernel) (by decide +kernel) (by decide +kernel)

theorem wit_NotificationDeadline : (opSt []).beatsRun = true := by decide +kernel

theorem wit_Sweep_note :
    let s := { opSt [] with onyx := { State.reset.onyx with pend := [(Src.device 0x11, [{}])] } }
    s.device ≠ .boot ∧ s.device ≠ .hold ∧ s.onyx.pend = [(Src.device 0x11, [{}])] ∧ Src.device 0x11 < 4096 ∧ (Src.info (Src.device 0x11)).cls = .note := by decide +kernel

theorem wit_Sweep_fatal :
    let s := { opSt [] with onyx := { State.reset.onyx with pend := [(Src.device 0x02, [{}])] } }
    (s.device = .preop ∨ s.device = .operational) ∧ s.onyx.pend = [(Src.device 0x02, {} :: [])] ∧
      (Src.info (Src.device 0x02)).cls = .fatal ∧ (∀ x ∈ ({} : Report) :: [], x.dry = false) := by decide +kernel

/-! ## Access control -/

theorem wit_AcuSettles :
    let s := opSt [(K.acuUnitState 3, 1)]
    s.r (K.acuUnitState 3) = 1 ∧ s.r (K.acuInFlightPrevious 3) = 0 := by decide +kernel

theorem wit_Swap_staged :
    Heard (opSt []) (msg [1]) opWrite (0x5800 + 0) 0x07 .owner (opSt []) ∧
      ((opSt []).writeRefusal .owner (0x5800 + 0) 0x07 = none ∧ (opSt []).device = .operational ∧ 1 ≤ 1 ∧ (msg [1]).payload = [1]) :=
  ⟨heard_of _ _ _ _ _ _ (by decide +kernel), by decide +kernel⟩

theorem wit_Swap_preop :
    Heard (preSt []) (msg [1]) opWrite (0x5800 + 0) 0x07 .owner (preSt []) ∧
      ((preSt []).writeRefusal .owner (0x5800 + 0) 0x07 = none ∧ (preSt []).device = .preop ∧
        (msg [1]).payload = [1] ∧ (preSt []).r (K.acuActiveSet 0) ≤ 1 ∧ (preSt []).r (K.acuUnitState 0) = 0 ∧
        (preSt []).proposalVerdict 0 ((upTo 64).map (fun j => (preSt []).r (K.acuProposal 0 + j))) = 1) :=
  ⟨heard_of _ _ _ _ _ _ (by decide +kernel), by decide +kernel⟩

/-! ## Start-up, supplies and temperature -/

/-- BOOT in a phase, with PWRON_RST_N released. -/
def bootSt (phase : Nat) (waiting : Bool) : State :=
  { st [(K.startupPhase, phase)] with pins := { reset := false }, startup := { avsWaiting := waiting } }

theorem wit_PowerOnReset : State.reset.pins.reset = true ∧ State.reset.store.resetCount + 1 < 2 ^ 32 := by decide

theorem wit_EarlyPhases : (bootSt 0 false).inPhase 0 = true ∧ (bootSt 1 true).startup.avsWaiting = true ∧
    (bootSt 1 false).inPhase 1 = true ∧ (bootSt 1 false).startup.avsWaiting = false ∧ (bootSt 2 false).inPhase 2 = true := by
  decide +kernel

set_option maxRecDepth 20000

/-- The body of an image: 1,024 bytes. -/
def imageBody : List Byte := List.replicate 1024 0xFF
/-- The header of an image (R329). -/
def imageHeader : List Byte :=
  let h := [0x5A, 0x4E, 0x38, 0x34] ++ toBytes 4 1024 ++ toBytes 4 (crc32 imageBody) ++ List.replicate 16 0
  h ++ toBytes 4 (crc32 h)
/-- A flash that holds the image in both slots. -/
def imageFlash : Tbl Nat :=
  let r0 := ofBytes (imageHeader ++ imageBody.take 992)
  let r1 := ofBytes (imageBody.drop 992 ++ List.replicate 992 0xFF)
  [(0, r0), (1, r1), (16384, r0), (16385, r1)]

theorem image_valid : ({ State.reset with flash := imageFlash } : State).imageStatus 0 = 1 ∧
    ({ State.reset with flash := imageFlash } : State).imageStatus 1 = 1 := by decide +kernel

theorem image_empty : State.reset.imageStatus 0 ≠ 1 ∧ State.reset.imageStatus 1 ≠ 1 := by decide +kernel

theorem wit_FirmwarePhases_load : (bootSt 3 false).inPhase 3 = true ∧ (bootSt 4 false).inPhase 4 = true ∧
    (bootSt 3 false).imageStatus 0 ≠ 1 ∧ ({ bootSt 3 false with flash := imageFlash } : State).inPhase 3 = true ∧
    ({ bootSt 4 false with flash := imageFlash } : State).inPhase 4 = true := by decide +kernel

theorem wit_FirmwarePhases_init : (st [(K.deviceState, 2), (K.startupPhase, 5)]).device = .preop ∧
    (st [(K.deviceState, 2), (K.startupPhase, 5)]).r K.startupPhase = 5 ∧
    (st [(K.deviceState, 2), (K.startupPhase, 6)]).device = .preop ∧
    (st [(K.deviceState, 2), (K.startupPhase, 6)]).r K.startupPhase = 6 := by decide +kernel

/-- ArmingCutoff: a persistent object that its value alone makes. -/
theorem cutoff_plain : plainObject (obj 0x1400 2) := ⟨.inl (by decide), fun u v => rfl⟩

/-- A store whose newest valid generation saves ArmingCutoff as 600. -/
def saved : Store :=
  { generations := [{ number := 3, records := [storeRec (obj 0x1400 2) 600], closing := some (3, 1), size := 16, words := 2 }] }

/-- PREOP in a phase, with that store, and ArmingCutoff written since. -/
def savedSt (phase : Nat) : State :=
  { st [(K.deviceState, 2), (K.startupPhase, phase), (obj 0x1400 2, 512)] with store := saved }

theorem saved_newest (phase : Nat) : (savedSt phase).newest = some
    { number := 3, records := [storeRec (obj 0x1400 2) 600], closing := some (3, 1), size := 16, words := 2 } := by
  have h : saved.generations.filter validGeneration = saved.generations := by decide +kernel
  show List.foldl _ none (saved.generations.filter validGeneration) = _
  rw [h]; rfl

theorem saved_plain (u : State) (h : ∀ e ∈ u.regs, persistent e.1 = true → e.1 = obj 0x1400 2)
    (hg : u.newest = (savedSt 6).newest) : u.restoresPlain := by
  refine ⟨fun e m he => h e m he ▸ cutoff_plain, fun g hn => ?_⟩
  rw [hg, saved_newest] at hn; cases hn
  exact ⟨by decide +kernel, by intro r hr; simp only [List.mem_singleton] at hr; subst hr; exact cutoff_plain⟩

theorem wit_FirmwarePhases_restore : (savedSt 6).device = .preop ∧ (savedSt 6).r K.startupPhase = 6 ∧
    (savedSt 6).restoresPlain ∧ (savedSt 6).savedValue (obj 0x1400 2) = 600 ∧ persistent (obj 0x1400 2) = true :=
  ⟨by decide +kernel, by decide +kernel, saved_plain _ (by decide +kernel) rfl,
    by unfold State.savedValue; rw [saved_newest]; decide +kernel, by decide +kernel⟩

theorem wit_SupplyIsWatched : (opSt []).linksRun = true ∧ (Tbl.getD (opSt []).onyx.pend (Src.device 0x02) []).length < 255 := by
  decide +kernel

theorem wit_Temperature : (List.replicate 12 (0 : Int)).length = 12 ∧ (bootSt 0 false).pins.reset = false := by decide

theorem wit_StateRequests_start :
    let s := args (preSt []) 0x1004 [1]
    Heard s (msg [1]) opCommand 0x1004 0x02 .owner s ∧ 2 ≤ privRank .owner ∧ (msg [1]).payload.length = 1 ∧
      (s.cmd 0x1004).state ≠ .pending ∧ (s.cmd 0x1004).args = [1] ∧ s.device = .preop ∧ s.beatState ≠ .acquiring :=
  ⟨heard_of _ _ _ _ _ _ (by decide +kernel), by decide +kernel⟩

theorem wit_StateRequests_stop :
    let s := args (opSt []) 0x1004 [2]
    Heard s (msg [1]) opCommand 0x1004 0x02 .owner s ∧ (s.cmd 0x1004).args = [2] ∧ s.device = .operational ∧
      s.stopForbidden = false ∧ s.armed = none ∧ (s.cmd 0x1004).state ≠ .pending :=
  ⟨heard_of _ _ _ _ _ _ (by decide +kernel), by decide +kernel⟩

theorem wit_StateRequests_reset :
    let s := args (st [(K.deviceState, 4), (K.proxyAdmit, 1), (K.startupPhase, 7)]) 0x1004 [3]
    Heard s (msg [1]) opCommand 0x1004 0x02 .owner s ∧ (s.cmd 0x1004).args = [3] ∧ s.device = .safe ∧
      (s.cmd 0x1004).state ≠ .pending :=
  ⟨heard_of _ _ _ _ _ _ (by decide +kernel), by decide +kernel⟩

theorem wit_Store_store : Triggered (opSt []) (msg [1]) 0x1200 (fun s a => s.storeChecks a) [] (opSt []) :=
  triggered_of _ _ _ _ _ .owner (by decide +kernel) (by decide +kernel) (by decide +kernel)

/-- A Store in progress: one record in the first 13 words of the ring. -/
def storedGen : Generation := { number := 1, records := [storeRec (obj 0x1400 2) 600], size := 100, words := 13 }
/-- The state it is in progress in. -/
def storing : State :=
  { waits (opSt []) 0x1200 with store := { generations := [storedGen], written := 13 } }
/-- The Store repeated at the next words, after its word 2 has failed. -/
def againGen : Generation := { storedGen with start := 13 }

theorem wit_Store_complete : (storing.cmd 0x1200).state = .pending ∧
    storing.store.generations.getLast? = some storedGen ∧ storing.failing storedGen [] = [] ∧
    storing.failing storedGen [2, 50] = [2] ∧ (storing.repeatStore storedGen [2, 50]).any (fun u =>
      decide (u.store.generations.getLast? = some againGen) && decide (u.failing againGen [2] = [])
        && decide (u.failing againGen [14] = [14])) = true := by
  decide +kernel

/-- A ring half of which the newest valid generation fills, and a Store of the same size written behind it. -/
def bigGen : Generation :=
  { number := 3, records := [storeRec (obj 0x1400 2) 600], closing := some (3, 1), size := 496 * 1024, words := 63488 }
def lateGen : Generation := { bigGen with number := 4, closing := none, start := 63488 }
def worn : State :=
  { waits (opSt []) 0x1200 with store := { generations := [bigGen, lateGen], written := 126976 } }
/-- The same half, with a word of the other half retired. -/
def tight : State := { opSt [] with store := { generations := [bigGen], written := 63488, retiredWords := [70000] } }

theorem wit_Store_room : (opSt []).placeFor 100 ≠ none ∧ tight.placeFor (496 * 1024) = none ∧ (worn.cmd 0x1200).state = .pending ∧
    worn.store.generations.getLast? = some lateGen ∧ worn.failing lateGen [63500] = [63500] ∧
    worn.repeatStore lateGen [63500] = none := by
  decide +kernel

theorem wit_Restore : Triggered (preSt []) (msg [1]) 0x1201 (fun s a => s.storeChecks a) [] (preSt []) ∧
    ((waits (savedSt 7) 0x1201).cmd 0x1201).state = .pending ∧ (waits (savedSt 7) 0x1201).restoresPlain :=
  ⟨triggered_of _ _ _ _ _ .owner (by decide +kernel) (by decide +kernel) (by decide +kernel), by decide +kernel,
    saved_plain _ (by decide +kernel) rfl⟩

theorem wit_FlashRows_write :
    let s := preSt [(K.startupSlotStatusB, 1)]
    Heard s (msg (List.replicate 1024 0) 16383) opWrite (0x7F10 + ofBool false) 0x01 .owner s ∧
      s.writeRefusal .owner (0x7F10 + ofBool false) 0x01 = none ∧ s.slotStatus (1 - ofBool false) = 1 ∧
      (msg (List.replicate 1024 0) 16383).payload.length = 1024 ∧ (msg (List.replicate 1024 0) 16383).row < 16384 :=
  ⟨heard_of _ _ _ _ _ _ (by decide +kernel), by decide +kernel⟩

theorem wit_FlashRows_check : Triggered (args (preSt []) 0x7F12 [1]) (msg [1]) 0x7F12 (fun _ a => imageCheckChecks a) [1]
    (args (preSt []) 0x7F12 [1]) :=
  triggered_of _ _ _ _ _ .owner (by decide +kernel) (by decide +kernel) (by decide +kernel)

theorem wit_Firmware_activate :
    let s := args (preSt [(K.startupSlotStatusB, 1)]) 0x7F13 [1]
    Triggered s (msg [1]) 0x7F13 (fun s a => s.activateChecks a) [1] s ∧ s.startup.activating = none :=
  ⟨triggered_of _ _ _ _ _ .owner (by decide +kernel) (by decide +kernel) (by decide +kernel), by decide +kernel⟩

/-- A change of firmware to slot B, over a flash. -/
def activatingSt (flash : Tbl Nat) : State := { preSt [] with startup := { activating := some 1 }, flash := flash }

theorem wit_Firmware_end : (activatingSt []).startup.activating = some 1 ∧ (activatingSt []).imageStatus 1 ≠ 1 ∧
    (activatingSt []).imageStatus ((activatingSt []).r K.startupRunningImage - 1) ≠ 1 ∧
    (activatingSt imageFlash).imageStatus 1 = 1 := by decide +kernel

theorem wit_Firmware_repairs : Triggered (preSt []) (msg [1]) 0x7F03 (fun _ _ => {}) [] (preSt []) :=
  triggered_of _ _ _ _ _ .owner (by decide +kernel) (by decide +kernel) (by decide +kernel)

theorem wit_Domains : (opSt [(K.domainState 3, DomainState.draining.num)]).domain 3 = .draining ∧
    (opSt [(K.domainState 3, DomainState.draining.num)]).domainEmpty 3 = true ∧
    (opSt [(K.domainState 3, DomainState.fenced.num)]).domain 3 = .fenced ∧
    (opSt [(K.domainState 3, DomainState.poweringUp.num)]).domain 3 = .poweringUp := by decide +kernel

theorem wit_Domains_full :
    let s : State := { opSt [(K.domainState 3, DomainState.draining.num)] with
      beat := 1024, core := { flight1 := [(0, [{ cls := .memRsp, src := 0, dst := 12, tenant := 0, valid := 80, hdrs := 1 }])] } }
    s.domain 3 = .draining ∧ s.domainEmpty 3 = false ∧ bits (s.r (K.domainLastChange 3)) 57 10 + 1024 ≤ s.beat := by
  decide +kernel

theorem wit_CheckValues_start :
    let a := [0, 0, 0, 0] ++ List.replicate 12 0 ++ toBytes 8 64 ++ toBytes 8 64
    Triggered (args (opSt []) 0x1300 a) (msg [1]) 0x1300 (fun _ a => computeChecks a) a (args (opSt []) 0x1300 a) :=
  triggered_of _ _ _ _ _ .owner (by decide +kernel) (by decide +kernel) (by decide +kernel)

/-- A CheckCompute that has read its 64 bytes: a rule lets the serving unit read them. -/
def checking : State :=
  let s := waits (opSt []) 0x1300
  { s.w (K.acuRulesA s.servingUnit) (2 ^ 128 - 1 - 7 * 2 ^ 124 - (2 ^ 96 - 2 ^ 48)) with
    startup := { check := some (0, 0, 0, 0, 64, 0) }, clock := 1 }

theorem wit_CheckValues_unit : checking.startup.checkUnit = none ∧ (opSt []).r (K.acuInFlightActive (opSt []).servingUnit) + 1
    < 2 ^ Schema.width (K.acuInFlightActive (opSt []).servingUnit) := by decide +kernel

theorem wit_CheckValues_complete : checking.startup.check = some (0, 0, 0, 0, (List.replicate 64 7).length, 0) ∧
    (checking.cmd 0x1300).state = .pending ∧ firstRefused (checking.ruleRows checking.servingUnit (checking.setB checking.servingUnit))
      { space := 0, target := 0, ld := 0, addr := 0, last := 0 + (List.replicate 64 7).length - 1, need := { read := true } } 65
      0 = none ∧ (List.replicate 64 7).length ≤ 2 * checking.nsAgo checking.startup.checkAt := by decide +kernel

theorem wit_CheckValues_bytes :
    let a := List.replicate 16 0 ++ [1, 2, 3]
    Triggered (args (opSt []) 0x1301 a) (msg [1]) 0x1301 (fun _ a => bytesChecks a) a (args (opSt []) 0x1301 a) :=
  triggered_of _ _ _ _ _ .owner (by decide +kernel) (by decide +kernel) (by decide +kernel)

/-- A packet from the control unit of PD3 to the bank 0. -/
def packet : MeshPacket := { id := 7, cls := .control, input := 2, sender := .control 3, dest := .bank 0 }
/-- The mesh with the packet in router 4, of age 200, after `n` failures at its end. -/
def meshSt (n : Nat) : State :=
  { opSt [] with mesh := { retries := [(.bank 0, 7, n)], waiting := [⟨4, packet, 200⟩] } }

theorem wit_DebugAndMesh : (meshSt 2).mesh.mayLeave packet = true ∧ (meshSt 2).isolated (.bank 0) = false ∧
    (meshSt 2).mesh.failures (.bank 0) packet.id < 3 ∧ 3 ≤ (meshSt 3).mesh.failures (.bank 0) packet.id ∧
    ((meshSt 2).mesh.place packet).any (fun w => w.router = 4) = true ∧
    (opSt []).mesh.mayLeave packet = true := by decide +kernel

/-! ## The dictionary -/

theorem wit_RefusedWrites : Heard (opSt []) (msg [1]) opWrite (0x1000 % 65536) (0x01 % 256) .owner (opSt []) ∧
    (Schema.cmd (0x1000 % 65536) = none ∧ (opSt []).writeRefusal .owner (0x1000 % 65536) (0x01 % 256) = some 0x0302) :=
  ⟨heard_of _ _ _ _ _ _ (by decide +kernel), by decide +kernel⟩

theorem wit_WritesAreStaged :
    Heard (opSt []) (msg [1]) opWrite 0x2500 0x11 .owner (opSt []) ∧ Schema.cmd 0x2500 = none ∧
      (∃ o v, Schema.find 0x2500 0x11 = some o ∧ o.rows = 0 ∧ o.ty.size ≤ 1408 ∧
        (opSt []).writeRefusal .owner 0x2500 0x11 = none ∧ v = writtenValue (obj 0x2500 o.sub) (ofBytes (msg [1]).payload) ∧
        (opSt []).resourceRefusal (obj 0x2500 o.sub) v = none ∧ o.lengthRefusal (msg [1]).row (msg [1]).payload = none ∧
        o.valueRefusal (ofBytes (msg [1]).payload) = none ∧ (opSt []).rangeRefusal (obj 0x2500 o.sub) v = none ∧
        (opSt []).device = .operational ∧ o.acc = .stg) :=
  ⟨heard_of _ _ _ _ _ _ (by decide +kernel), by decide +kernel,
    ((Schema.find 0x2500 0x11).get (by decide +kernel)), _, by decide +kernel, by decide +kernel, by decide +kernel,
    by decide +kernel, rfl, by decide +kernel, by decide +kernel, by decide +kernel, by decide +kernel, by decide +kernel,
    by decide +kernel⟩

theorem wit_WritesAtOnce :
    Heard (opSt []) (msg [14, 16]) opWrite 0x1100 0x02 .owner (opSt []) ∧ (∃ o, Schema.find 0x1100 0x02 = some o ∧
      o.acc = .rw ∧ (opSt []).writeRefusal .owner 0x1100 0x02 = none ∧ o.lengthRefusal 0 [14, 16] = none ∧
      o.valueRefusal 3600 = none ∧ (opSt []).resourceRefusal (obj 0x1100 2) 3600 = none ∧
      (opSt []).rangeRefusal (obj 0x1100 2) 3600 = none) :=
  ⟨heard_of _ _ _ _ _ _ (by decide +kernel), ((Schema.find 0x1100 0x02).get (by decide +kernel)), by decide +kernel,
    by decide +kernel, by decide +kernel, by decide +kernel, by decide +kernel, by decide +kernel, by decide +kernel⟩

theorem wit_TriggersAreRefused : Heard (opSt []) (msg []) opCommand 0x1421 0x02 .owner (opSt []) ∧
    (Schema.cmd 0x1421).isSome = true ∧ (msg []).payload.length ≠ 1 :=
  ⟨heard_of _ _ _ _ _ _ (by decide +kernel), by decide +kernel⟩

theorem wit_Blocks_read : Heard (opSt []) (msg []) opReadBlock (0x1002 % 65536) (0x01 % 256) .owner (opSt []) ∧
    ((msg []).segment = 0 ∧ (msg []).length = 0 ∧
      ((opSt []).readValue (msg []).stagedView (0x1002 % 65536) (0x01 % 256) (msg []).row 0).toOption = some [3] ∧
      (Schema.find (0x1002 % 65536) (0x01 % 256)).map (·.rows) = some 0 ∧ [3].length ≤ 1408) :=
  ⟨heard_of _ _ _ _ _ _ (by decide +kernel), by decide +kernel⟩

theorem wit_Blocks_write : Heard (preSt []) (msg [0]) opWriteBlock (0x2500 % 65536) (0x11 % 256) .owner (preSt []) ∧
    ((msg [0]).segment = 0 ∧ (msg [0]).more = false ∧ Schema.cmd (0x2500 % 65536) = none ∧
      (Schema.find (0x2500 % 65536) (0x11 % 256)).any (fun o => decide (o.rows = 0 ∧ 1 ≤ o.ty.size)) = true ∧
      (preSt []).writeRefusal .owner (0x2500 % 65536) (0x11 % 256) = none ∧
      ((preSt []).writeObject .owner (0x2500 % 65536) (0x11 % 256) (msg [0]).row (msg [0]).payload).toOption.map (·.2) = some []) :=
  ⟨heard_of _ _ _ _ _ _ (by decide +kernel), by decide +kernel⟩

/-- A message over MGMT_A with the CRC that it should carry, and the tag of a key where one is given. -/
def wired (e : JdpEnv) (op i b : Nat) (key : Option (List Byte)) : JdpEnv :=
  let e := { e with via := .mgmtA, length := e.payload.length, size := 44 + e.payload.length }
  let e := { e with tag := match key with | some k => e.goodTag op i b k | none => 0 }
  { e with crc := crc32c (e.head op i b ++ toBytes 16 e.tag) }

/-- A HELLO. -/
def hello : JdpEnv := wired { msg ([0, 2] ++ List.replicate 16 5) with session := 0 } opHello 0 0 none

theorem wit_Sessions_hello : bytesOk hello.payload = true ∧ hello.fragmented = false ∧ hello.crcGood opHello 0 0 = true ∧ hello.session = 0 ∧
    (opSt []).islandOnly = false ∧ hello.tag = 0 ∧ hello.version = 1 ∧ hello.payload.length = 18 ∧
    hello.payload.getD 0 0 ≤ 15 ∧ hello.payload.getD 1 0 ≤ 2 ∧ (opSt []).mgmt.sessions.length < 16 := by decide +kernel

/-- A CHALLENGE that waits. -/
def asked : Challenge :=
  { id := 9, slot := 2, asked := .operator, clientNonce := List.replicate 16 1, deviceNonce := List.replicate 16 2 }
/-- A credential and its CHALLENGE. -/
def proofSt : State :=
  { opSt [] with store := { credentials := [(2, ([7], .owner))] }, mgmt := { challenges := [asked] } }
/-- The PROOF. -/
def proof : JdpEnv := wired { msg (hmac [7] asked.proofBytes) with session := 9 } opProof 0 0 none

theorem wit_Sessions_proof : bytesOk proof.payload = true ∧ proof.fragmented = false ∧ proof.crcGood opProof 0 0 = true ∧
    proofSt.mgmt.challenges.find? (fun c => c.id = proof.session) = some asked ∧ proof.tag = 0 ∧ proof.version = 1 ∧
    Tbl.find proofSt.store.credentials asked.slot = some ([7], .owner) ∧ proof.payload.length = 32 ∧ proof.alive = 0 ∧
    proof.payload = hmac [7] asked.proofBytes ∧ proofSt.mgmt.sessions.length < 16 := by decide +kernel

theorem wit_Sessions_timeout : asked ∈ proofSt.mgmt.challenges ∧
    2000000000 ≤ ({ proofSt with clock := 17000000 } : State).nsAgo asked.since := by decide +kernel

/-- A session of an OWNER. -/
def session : Session := { id := 9, credential := 2, priv := .owner, key := [7], lastAlive := 0, tx := 0, mgmtB := false }
/-- OPERATIONAL with that session. -/
def sessSt (l : List (Nat × Nat)) : State := { opSt l with mgmt := { sessions := [session] } }

theorem wit_Sessions_idle : (sessSt []).session 9 = some session ∧
    (sessSt []).r K.mgmtSessionIdleTimeout * 1000000000 ≤ ({ sessSt [] with clock := 10 ^ 12 } : State).nsAgo session.seen ∧
    (sessSt []).nsAgo session.seen < (sessSt []).r K.mgmtSessionIdleTimeout * 1000000000 := by decide +kernel

theorem wit_Blocks_idle :
    let b : Block := { write := false, index := 0x1002, sub := 1, row := 0, next := 1, data := [] }
    let x : Session := { session with block := some b }
    let s : State := { opSt [] with mgmt := { sessions := [x] }, clock := 9000000 }
    x ∈ s.mgmt.sessions ∧ x.id = 9 ∧ x.block = some b ∧ 1000000000 ≤ s.nsAgo b.since := by decide +kernel

/-- A message of a session is heard where its tag and alive counter are good. -/
theorem heard_session (s : State) (e : JdpEnv) (op i b : Nat) (h : bytesOk e.payload = true)
    (g : (match s.front e op i b with | .ok (p, t) => decide (p = .owner) && decide (t.session 9 ≠ none) | .error _ => false) = true) :
    ∃ u, Heard s e op i b .owner u := by
  cases f : s.front e op i b with
  | error t => rw [f] at g; simp at g
  | ok x =>
    obtain ⟨p, t⟩ := x
    rw [f] at g
    simp only [Bool.and_eq_true, decide_eq_true_eq] at g
    exact ⟨t, h, by rw [f, g.1]⟩

/-- A CLOSE. -/
def closing : JdpEnv := wired { msg [] with session := 9, alive := 1 } opClose 0 0 (some [7])
/-- A SUBSCRIBE. -/
def subscribing : JdpEnv := wired { msg [0, 2, 0, 0, 0x0F, 0xFF] with session := 9, alive := 16 } opSubscribe 0 0 (some [7])

theorem wit_Sessions_close : closing.via = .mgmtA ∧ ∃ u, Heard (sessSt []) closing opClose 0 0 .owner u :=
  ⟨rfl, heard_session _ _ _ _ _ (by decide +kernel) (by decide +kernel)⟩

theorem wit_Sessions_subscribe : (∃ u, Heard (sessSt []) subscribing opSubscribe 0 0 .owner u) ∧
    ((sessSt []).session subscribing.session = some session ∧ session.subs.length < 16 ∧
      (subOf subscribing.payload).toOption.isSome = true) :=
  ⟨heard_session _ _ _ _ _ (by decide +kernel) (by decide +kernel), by decide +kernel⟩

/-- A record of another switch that owns PID 77. -/
def peer : Lsr := { identity := 5, switchPid := 77, beatRoot := false, proxyAdmit := true, pids := [], links := [], sequence := 3, stamp := 1 }
/-- OPERATIONAL with a session and that record. -/
def peerSt : State := { sessSt [] with fabric := { State.reset.fabric with db := [{ lsr := peer, refreshedAt := 0, reachable := true }] } }
/-- A request for a target of that switch. -/
def proxied : JdpEnv := wired { msg [] with session := 9, alive := 1, flags := 8, proxyTarget := 77 } opRead 0x1000 1 (some [7])

theorem wit_Proxied_request : proxied.via = .mgmtA ∧ 1 ≤ opRead % 256 ∧ opRead % 256 ≤ 5 ∧ proxied.fragmented = false ∧ bytesOk proxied.payload = true ∧ proxied.crcGood opRead 0x1000 1 = true ∧
    proxied.session ≠ 0 ∧ peerSt.session proxied.session = some session ∧ proxied.tag = proxied.goodTag opRead 0x1000 1 session.key ∧
    (proxied.alive + 256 - session.lastAlive) % 256 ≠ 0 ∧ (proxied.alive + 256 - session.lastAlive) % 256 ≤ 16 ∧
    proxied.version = 1 ∧ proxied.proxied = true ∧ peerSt.ownsPid (proxied.proxyTarget % 4096) = false ∧
    peerSt.otherOwner (proxied.proxyTarget % 4096) = some peer := by decide +kernel

/-- A proxied request that waits. -/
def waiting : ProxyReq := { number := 4, session := 9, op := 1, index := 0x1000, sub := 1, echo := 0 }

theorem wit_Proxied_answer :
    let s : State := { sessSt [] with mgmt := { sessions := [session], proxies := [waiting] }, clock := 82000 }
    s.mgmt.proxies.find? (fun q => q.number = 4) = some waiting ∧ waiting.fm = none ∧
      s.session waiting.session = some session ∧ 10000000 ≤ s.nsAgo waiting.since ∧
      s.r K.jdpProxyTimeouts + 1 < 2 ^ Schema.width K.jdpProxyTimeouts := by decide +kernel

/-- An argument block of CredentialInstall. -/
def credential : List Byte := [15, 2] ++ List.replicate 32 3

theorem wit_Proxied_credential : Triggered (args (opSt []) 0x1110 credential) (msg [1]) 0x1110 (fun _ a => credentialChecks a)
    credential (args (opSt []) 0x1110 credential) :=
  triggered_of _ _ _ _ _ .owner (by decide +kernel) (by decide +kernel) (by decide +kernel)

/-! ## The Fabric Manager API -/

theorem wit_Fm : (opSt []).fmReached .i3c = true ∧ (opSt []).islandOnly = false ∧
    (opSt [(K.fmApiPoolTarget, 7)]).r K.fmApiPoolTarget ≠ 0xFFFF := by decide +kernel

theorem wit_FmCommands_limit : (opSt [(K.fmApiI3cPrivilege, 2)]).writeRefusal ((opSt [(K.fmApiI3cPrivilege, 2)]).fmPriv .i3c) 0x1130 0x06 = none ∧
    (opSt []).writeRefusal ((opSt []).fmPriv .i3c) 0x1130 0x06 = some 0x0401 := by decide +kernel

theorem wit_FmCommands_status :
    let a : Armed := { com := { tag := 2 ^ 31, target := 2, state := .armed }, values := [], acts := [] }
    let s : State := { opSt [] with armed := some a }
    s.mgmt.fmOp = .none ∧ s.armed = some a ∧ a.com.tag.testBit 31 = true ∧ a.com.state = .armed := by decide +kernel

/-- Port 0 is a DEVICE port, ACTIVE, of PID 9; port 4 a HOST port of tenant 0, ACTIVE; port 8 a FABRIC port, ACTIVE. -/
def ports : List (Nat × Nat) :=
  [(K.sliceMode 0, 2), (K.sliceMode 1, 2), (K.sliceMode 2, 2), (K.sliceMode 3, 2), (K.sliceMode 4, 2), (K.sliceMode 5, 2)] ++
  [(K.portPortRole 0, 1), (K.portPortMode 0, 2), (K.portLinkState 0, LinkState.active.num), (K.portFlitFormat 0, 2),
    (K.portNegotiatedWidth 0, 16), (K.fabricPortPids, 2 ^ 31 + 9)] ++
  [(K.portPortRole 4, 0), (K.portPortMode 4, 2), (K.portLinkState 4, LinkState.active.num), (K.portFlitFormat 4, 2),
    (K.portNegotiatedWidth 4, 16), (K.tenantEnable 0, 1),
    (K.tenantPrimaryPort 0, 4), (K.tenantState 0, TenantState.active.num)] ++
  [(K.portPortRole 8, 2), (K.portPortMode 8, 2), (K.portLinkState 8, LinkState.active.num), (K.portFlitFormat 8, 2),
    (K.portNegotiatedWidth 8, 16)]

theorem wit_FmCommands_ports :
    let s := opSt ports
    s.portExists 0 = true ∧ s.isDevice 0 = true ∧ s.linksRun = true ∧ s.linkUp 0 = true ∧ s.isDevice 4 = false := by decide +kernel

theorem wit_FmCommands_config :
    let s := opSt ports
    let x : Access := { space := 1, target := bits (s.r K.fabricPortPids) 11 0, ld := 0, addr := 1 % 65536 * 4096 + 16 % 4096,
                        last := 1 % 65536 * 4096 + 16 % 4096, need := { config := true } }
    s.portExists 0 = true ∧ s.isDevice 0 = true ∧ s.acuRefusal s.servingUnit x true = none := by decide +kernel

/-- The FM API with OWNER privilege, a pool and an inventory row. -/
def fmSt : State := opSt ([(K.fmApiI3cPrivilege, 2), (K.fmApiPoolTarget, 7),
  (K.berylDeviceInventory, 2 ^ 127 + 7 * 2 ^ 115 + 4096 * 2 ^ 88)] ++ ports)

theorem wit_FmBinding : fmSt.fmReached .i3c = true ∧ fmSt.fmCanArm = true ∧ fmSt.mgmt.fmOp = .none ∧
    privRank (fmSt.fmPriv .i3c) = 2 ∧ (fmSt.fmBindRow 0 0xFFFF).isSome = true ∧
    ((fmSt.fmBindRow 0 0xFFFF).map (fun r => (fmSt.fmStageRow (fmSt.fmPriv .i3c) 0 31 r).toOption.isSome)) = some true ∧
    (fmSt.fmStageRow (fmSt.fmPriv .i3c) 0 31 0).toOption.isSome = true ∧ fmSt.powerOff 0 31 = false := by decide +kernel

theorem wit_FmBinding_pool : fmSt.r K.fmApiPoolTarget ≠ 0xFFFF ∧ 15 + [fmGranularity].length ≤ 16 ∧
    (fmSt.fmAllocateAll (16 * 0 + 15) [fmGranularity]).toOption.isSome = true := by decide +kernel

theorem wit_FmBinding_wait :
    let s : State := { fmSt with mgmt := { fmOp := .managedRemove 63 31 0 } }
    s.mgmt.fmOp = .managedRemove 63 31 0 ∧ s.powerOff 63 31 = false ∧ 0 ≤ s.beat := by decide +kernel

/-! ## The chassis beat and commits -/

/-- Port 8 has a ZENLIA neighbour. -/
def fabricSt (l : List (Nat × Nat)) : State :=
  (opSt (ports ++ l)).modPort 8 (fun x => { x with neighbour := some (5, 3, 77), inRoutes := true, helloAt := some 0 })

theorem wit_Sources : (opSt []).quartzRuns = true ∧ (fabricSt []).managed 8 = true ∧ (fabricSt []).quartzRuns = true ∧
    (fabricSt [(K.beatSourcePort, 8)]).r K.beatSourcePort = 8 ∧ (fabricSt []).r K.beatSourcePort ≠ 8 ∧
    (fabricSt []).beatState ≠ .holdover ∧ 400 < 2 ^ 32 := by decide +kernel

theorem wit_Sources_relock :
    let s : State := { opSt [(K.beatBeatState, 2)] with quartz := { relock := some .beatA, srcA := { seen := true } } }
    s.quartzRuns = true ∧ s.beatState = .holdover ∧ s.quartz.relock = some .beatA ∧ s.quartz.srcA.seen = true ∧
      (0 : Int).natAbs ≤ s.r K.beatEdgeTolerance := by decide +kernel

/-- Source A as three healthy judgements leave it, with a fourth to come. -/
def source : SrcSt := { last := some (5, 1), seen := true, edge := true, number := some 6, healthy := 100, qualified := true }

theorem wit_Quartz_lock :
    let s : State := { opSt [(K.beatBeatState, 0)] with quartz := { srcA := source } }
    s.quartzRuns = true ∧ s.quartz.judged = false ∧ s.beatState = .acquiring ∧ s.r K.beatSourcePolicy = 0 ∧ s.r K.beatPreferredExternal = 0 ∧
      s.quartz.srcA.judge.2.qualified = true := by decide +kernel

theorem wit_Quartz_lose : (opSt []).quartzRuns = true ∧ (opSt []).quartz.judged = false ∧ (opSt []).beatState = .locked ∧
    (opSt []).quartz.srcA.judge.2.qualified = false ∧ (opSt []).quartz.srcB.judge.2.qualified = false ∧
    (opSt []).quartz.srcL.judge.2.qualified = false ∧ (opSt []).r K.beatHoldoverLimit ≠ 0 ∧
    ({ opSt [] with quartz := { judged := true } } : State).quartz.judged = true := by decide +kernel

theorem wit_Quartz_limit :
    let s := opSt [(K.beatBeatState, 2), (K.beatHoldoverBeats, 2 ^ 32 - 1)]
    s.beatState = .holdover ∧ s.r K.beatHoldoverLimit ≤ s.r K.beatHoldoverBeats ∧ s.armed = none := by decide +kernel

theorem wit_Quartz_reacquire : Triggered (opSt []) (msg [1]) 0x1402 (fun s a => s.reacquireChecks a) [] (opSt []) :=
  triggered_of _ _ _ _ _ .owner (by decide +kernel) (by decide +kernel) (by decide +kernel)

theorem wit_Quartz_adopt :
    let s : State := { waits (opSt []) 0x1402 with quartz := { srcA := source }, startup := { reacquire := true } }
    let t : State := { s with beat := 6 }
    s.reacquired .beatA = some 6 ∧ (s.cmd 0x1402).state = .pending ∧ s.holdsNumber 6 = false ∧ t.reacquired .beatA = some 6 ∧
      (t.cmd 0x1402).state = .pending ∧ t.holdsNumber 6 = true := by decide +kernel

theorem wit_TheBeat : (opSt []).beatsRun = true ∧ (opSt []).linksRun = true ∧ (opSt []).quartz.begun = false ∧
    ({ opSt [] with quartz := { cutoffDone := true, begun := true } } : State).beatsRun = true ∧ (opSt []).armed = none ∧
    (opSt []).heldPatches = [] ∧ State.reset.beatsRun = false := by decide +kernel

/-- A commit of tag 1 for beat 9. -/
def commitArgs : List Byte := toBytes 4 1 ++ toBytes 8 (9 * 1024)

theorem wit_Commits_arm :
    let s := args (opSt []) 0x1420 commitArgs
    let t : State := { s with beat := 9 }
    Triggered s (msg [1]) 0x1420 (fun s a => s.commitArmChecks a) commitArgs s ∧
      Triggered t (msg [1]) 0x1420 (fun s a => s.commitArmChecks a) commitArgs t ∧
      (bits (fieldAt commitArgs 4 8) 57 10 = 9 ∧ s.afterCutoff 9 = false ∧ t.afterCutoff 9 = true) :=
  ⟨triggered_of _ _ _ _ _ .owner (by decide +kernel) (by decide +kernel) (by decide +kernel),
    triggered_of _ _ _ _ _ .owner (by decide +kernel) (by decide +kernel) (by decide +kernel), by decide +kernel⟩

theorem wit_Commits_discard : Triggered (opSt []) (msg [1]) 0x1421 (fun _ _ => {}) [] (opSt []) :=
  triggered_of _ _ _ _ _ .owner (by decide +kernel) (by decide +kernel) (by decide +kernel)

/-- A set armed for beat 9. -/
def armedSet : Armed := { com := { tag := 1, target := 9, state := .armed }, values := [], acts := [] }
/-- OPERATIONAL with that set armed. -/
def armedSt : State := { args (fabricSt []) 0x1422 (toBytes 4 1) with armed := some armedSet }

theorem wit_Commits_cancel : Triggered armedSt (msg [1]) 0x1422 (fun _ _ => {}) (toBytes 4 1) armedSt ∧
    (armedSt.armed = some armedSet ∧ armedSet.com.tag = fieldAt (toBytes 4 1) 0 4 ∧ armedSt.beforeLoad armedSet.com.target = true ∧
      armedSt.managed 8 = true ∧ armedSt.linksRun = true ∧ armedSt.device ≠ .safe ∧ armedSt.beatState ≠ .beatless) :=
  ⟨triggered_of _ _ _ _ _ .owner (by decide +kernel) (by decide +kernel) (by decide +kernel), by decide +kernel⟩

/-! ## Lanes, links and their reliability -/

/-- Port 0 in a link state. -/
def linkSt0 (l : LinkState) : State := opSt (ports ++ [(K.portLinkState 0, l.num)])

theorem wit_Lanes :
    let s := opSt ports
    s.link (s.laneport 0) = .active ∧ s.laneQuiet 0 = false ∧ s.canOccur (Src.lane 0 1) = true ∧
      (Tbl.getD s.onyx.pend (Src.lane 0 1) []).length < 255 ∧ (opSt []).link ((opSt []).laneport 0) ≠ .active ∧
      ({ opSt [] with pins := { lanesIdle := true } } : State).laneQuiet 0 = true ∧
      (linkSt0 .down).laneQuiet 0 = false ∧ (linkSt0 .down).link ((linkSt0 .down).laneport 0) ≠ .active := by
  decide +kernel

/-- Port 0 in a link state, a 16 GT/s training within its reach. -/
def linkSt (l : LinkState) : State := { linkSt0 l with clock := 10 ^ 9 }

theorem wit_Links : (linkSt .active).link 0 = .active ∧ (linkSt .stalled).link 0 = .stalled ∧
    (linkSt .stalled).lanesLost 0 = false ∧
    (linkSt0 .stalled).nsAgo ((linkSt0 .stalled).port 0).lockLostAt ≤ (linkSt0 .stalled).r (K.portLockLossHold 0) ∧
    (linkSt .stalled).r (K.portLockLossHold 0) < (linkSt .stalled).nsAgo ((linkSt .stalled).port 0).lockLostAt ∧
    (linkSt .retraining).link 0 = .retraining ∧
    (linkSt .retraining).trains 0 = true ∧ (linkSt .retraining).canReach 0 5 16 true false [] = true ∧
    ((linkSt .retraining).port 0).outstanding = [] ∧ (linkSt .down).link 0 = .down ∧ (linkSt .down).trains 0 = true ∧
    (linkSt .down).canOccur (Src.port 0 1) = true ∧ (Tbl.getD (linkSt .down).onyx.pend (Src.port 0 1) []).length < 255 := by
  decide +kernel

theorem wit_HotReset :
    let s := opSt ports
    s.isHost 4 = true ∧ s.linkUp 4 = true ∧ s.isHost 0 = false ∧
      (opSt (ports ++ [(K.portLinkState 4, LinkState.down.num)])).isHost 4 = true ∧
      (opSt (ports ++ [(K.portLinkState 4, LinkState.down.num)])).linkUp 4 = false := by
  decide +kernel

theorem wit_Ide :
    let s := args (opSt (ports ++ [(K.portIdeEnable 0, 1), (K.portIdeEnable 4, 1)])) 0x2560 [0]
    Triggered s (msg [1]) 0x2560 (fun s a => s.ideChecks a) [0] s ∧
      (s.on (K.portIdeEnable 0) = true ∧ s.link 0 = .active ∧ s.tenantOfPort 4 = some 0 ∧ s.on (K.portIdeEnable 4) = true ∧
        s.link 4 = .active) ∧ (opSt ports).on (K.portIdeEnable 0) = false :=
  ⟨triggered_of _ _ _ _ _ .owner (by decide +kernel) (by decide +kernel) (by decide +kernel), by decide +kernel⟩

/-- A marker copy of a word. -/
def copy (lane : Fin 17) (w : Nat) : MarkerCopy := { lane := lane, word := BitVec.ofNat 128 w }
/-- OPERATIONAL, port 8 ACTIVE in Weuri mode. -/
def weuriSt (l : List (Nat × Nat)) : State := opSt (ports ++ [(K.portPortMode 8, 3)] ++ l)

theorem wit_Markers_send :
    let s := (weuriSt [(K.beatRootIdentity, 5)]).modPort 8 (fun x => { x with flits := 4096, txSub := some 3 })
    s.portMode 8 = 3 ∧ s.linksRun = true ∧ s.carries 8 = true ∧ 4096 ≤ (s.port 8).flits ∧ s.markerDue 8 = true ∧
      s.beatGoes 8 = true ∧ (s.port 8).markBeat ≠ some s.beat ∧ (weuriSt []).beatGoes 8 = false ∧
      ((weuriSt []).port 8).flits < 4096 := by decide +kernel

theorem wit_Markers_receive :
    let s := weuriSt []
    let good := copy 0 (markerWord 0 1 none none)
    let later := copy 1 (markerWord 1 2 none none)
    s.portMode 8 = 3 ∧ s.link 8 = .active ∧ s.goodCopies 8 [copy 0 0] = [] ∧ s.goodCopies 8 [good] = [good] ∧
      bit (markerBits good) 87 = false ∧ s.goodCopies 8 [good, later] = [good, later] ∧ markerKey good ≠ markerKey later := by
  decide +kernel

theorem wit_Markers_sub :
    let s := weuriSt []
    let c := copy 0 (markerWord 0 1 (some 3) none)
    let d := copy 1 (markerWord 1 1 (some 3) none)
    s.goodCopies 8 [c, d] = c :: [d] ∧ (∀ x ∈ [d], markerKey x = markerKey c) ∧ bit (markerBits c) 87 = true ∧
      bits (markerBits c) 84 80 < 16 := by decide +kernel

theorem wit_Flits :
    let s := opSt ports
    s.linksRun = true ∧ s.link 0 = .active ∧ 2 ≤ s.format 0 ∧ (opSt (ports ++ [(K.portFlitFormat 0, 1)])).format 0 ≤ 1 ∧
      (0 + 1024 - (s.port 0).expect) % 1024 = 0 ∧ (513 + 1024 - (s.port 0).expect) % 1024 = 513 ∧
      (510 + 1024 - (s.port 0).expect) % 1024 = 510 ∧ (511 + 1024 - (s.port 0).expect) % 1024 = 511 ∧
      (512 + 1024 - (s.port 0).expect) % 1024 = 512 ∧ (s.port 0).nakInForce = false ∧ (s.port 0).expect < 1024 := by
  decide +kernel

theorem wit_Flits_nak :
    let s := (opSt ports).modPort 0 (fun x => { x with nakInForce := true })
    s.link 0 = .active ∧ (s.port 0).nakInForce = true ∧ (5 + 1024 - (s.port 0).expect) % 1024 = 5 ∧
      s.r (K.portDuplicatesDiscarded 0) + 1 < 2 ^ Schema.width (K.portDuplicatesDiscarded 0) ∧
      s.r (K.portSequenceErrors 0) + 1 < 2 ^ Schema.width (K.portSequenceErrors 0) := by decide +kernel

/-- Port 0 with one flit outstanding, and a channel without credits. -/
def replaySt : State := (opSt ports).modPort 0 (fun x =>
  { x with outstanding := [{ sequence := 0, payload := 80 }], nextTx := 1, replays := 3, replayRunning := true,
           creditTimer := [(chanNum .m2sReq, (0, 0))] })
/-- The same much later. -/
def replayLate : State := { replaySt with clock := 10 ^ 9, beat := 100000 }

theorem wit_Replay : replaySt.linksRun = true ∧ replayLate.linksRun = true ∧ replaySt.link 0 = .active ∧ (replaySt.port 0).place (seqMod (replaySt.format 0)) 0 = .held 1 ∧
    (replaySt.port 0).place (seqMod (replaySt.format 0)) 1 = .unsent ∧
    replayLate.link 0 = .active ∧ replayLate.replayDue 0 = true ∧ replaySt.replayDue 0 = false ∧
    Tbl.find (replaySt.port 0).creditTimer (chanNum .m2sReq) = some (0, 0) ∧
    Tbl.find (replaySt.port 0).lastTimeout (chanNum .m2sReq) = none ∧
    (0 + replayLate.r (K.portCreditTimeout 0)) * 1024 + 0 ≤ replayLate.beat * 1024 + replayLate.tick := by decide +kernel

/-! ## Ingress, the core and egress -/

/-- A read of VMD 3 of tenant 0. -/
def read : MemReq := { op := .memRd .any, vmd := 3, dpa := 0, hpa := 0, tag := 1 }

theorem wit_Requests :
    let s := opSt ports
    let t := opSt (ports ++ [(K.tenantState 0, TenantState.down.num)])
    s.linksRun = true ∧ s.carries 4 = true ∧ s.portMode 4 ≠ 1 ∧ s.isHost 4 = true ∧ s.tenantOfPort 4 = some 0 ∧
      s.tenantState 0 = .active ∧ (read.vmd.val / 16 ≠ 0 ∨ s.vmdReachable read.vmd.val = false) ∧ (∀ a, read.op ≠ .atomic a) ∧
      t.linksRun = true ∧ t.carries 4 = true ∧ t.isHost 4 = true ∧ t.portMode 4 ≠ 1 ∧
      s.forwarding = true ∧ s.waiting (16 * 4 + chanNum (memOpChan read.op)) = [] ∧
      (t.tenantOfPort 4).isSome = true ∧ t.activeTenant 4 = none :=
  ⟨by decide +kernel, by decide +kernel, by decide +kernel, by decide +kernel, by decide +kernel, by decide +kernel,
    by decide +kernel, by simp [read], by decide +kernel⟩

/-- A bound VMD with one window. -/
def boundSt : State :=
  { opSt (ports ++ [(K.vmdState 3, VmdState.bound.num), (K.vmdQueueShare 3, 64), (K.vmdDescriptors 3, 0),
      (K.tenantVppbTable 0, 2 ^ 56 + 3 * 2 ^ 48), (K.berylEntryTable + 100, entOf 1 9 0 0 none),
      (K.berylDescriptorTable, rrOf 1 3 0 0 100 1 true)]) with vmds := [(3, { windows := [(1, 9, 0, 1)] })] }

/-- A BIRsp for line 5 of region 2. -/
def snooped : MemReq := { read with op := .biRsp 2 5 .i }

theorem wit_Requests_snooped : snooped.op = .biRsp 2 5 .i ∧ (opSt ports).linksRun = true ∧ (opSt ports).carries 4 = true := by
  decide +kernel

theorem wit_Requests_plain : (∀ r line keeps, read.op ≠ .biRsp r line keeps) ∧ ∃ l u w,
    (opSt ports).sampleTransaction ((opSt ports).transactionOf read 4 0) = (l, u) ∧ w = ({ req := read, sample := l } : WaitReq) :=
  ⟨by simp [read], _, _, _, rfl, rfl⟩

/-- The key of port 4's requests. -/
def readKey : Nat := 16 * 4 + chanNum (memOpChan read.op)
/-- What the lookup of the read finds at the head of its channel. -/
def looked (s : State) : Bool × WaitReq × State := (s.setWaiting readKey [{ req := read }]).lookup 4 0 { req := read }
/-- The bound VMD, whose entry the cache of the read's slice holds. -/
def cachedSt : State :=
  { boundSt with beryl := { boundSt.beryl with
    cache := [((boundSt.requestMsg 4 0 read).src, [{ index := 100, descriptor := 0, entry := entOf 1 9 0 0 none }])] } }

theorem wit_Requests_looked :
    (((looked (opSt ports)).2.2.setWaiting readKey [(looked (opSt ports)).2.1]).unplaced 4 0 (looked (opSt ports)).2.1).isSome = true ∧
    ((looked boundSt).2.2.setWaiting readKey [(looked boundSt).2.1]).unplaced 4 0 (looked boundSt).2.1 = none ∧
    (looked boundSt).2.1.got = none ∧
    ((looked cachedSt).2.2.setWaiting readKey [(looked cachedSt).2.1]).unplaced 4 0 (looked cachedSt).2.1 = none ∧
    (looked cachedSt).2.1.plan.isSome = true ∧ (looked cachedSt).2.1.got = some false := by decide +kernel

theorem wit_Requests_miss :
    let s := boundSt
    s.tenantState 0 = .active ∧ s.forwarding = true ∧ s.waiting readKey = [] ∧
      (∀ k, k < 16 → streamMatches (s.r (K.telStreamConfig + k)) 0 4 (memOpStream read.op) = false) ∧
      read.vmd.val / 16 = 0 ∧ s.vmdReachable read.vmd.val = true ∧
      (findWindow read.dpa (s.vmd read.vmd.val).windows 0 0).isSome = true ∧ s.locate read = (100, 0, 0) ∧
      (s.cacheLines (s.requestMsg 4 0 read).src).find? (fun c => decide (c.index = 100) && decide (c.descriptor = 0)) = none ∧
      s.beryl.refills.filter (fun r => decide (r.slice = (s.requestMsg 4 0 read).src)) = [] := by decide +kernel

/-- Two refills of slice 2, the second one passed over by a boundary. -/
def refilling : State :=
  { boundSt with beryl := { boundSt.beryl with refills := [⟨2, 100, 0, false, []⟩, ⟨2, 101, 0, true, []⟩] } }

theorem wit_Entries_refill :
    refilling.beryl.refills.find? (fun r => decide (r.slice = 2) && decide (r.index = 100)) = some ⟨2, 100, 0, false, []⟩ ∧
      refilling.beryl.waiting = [] ∧ 100 ∉ refilling.beryl.errors ∧ entState (refilling.entry 100) ≠ 0 := by decide +kernel

/-- A posted TLP. -/
def tlp : TlpReq := { kind := .memWrite, vppb := 0, addr := 64, routingId := 0, register := 0, bytes := 64, data := 0, tag := 1, own := false }

/-- Port 0 is bound whole to vPPB 0 of tenant 0. -/
def wholeSt : State := opSt (ports ++ [(K.tenantVppbTable 0, 2 * 2 ^ 56)])

theorem wit_Entries_tlp : wholeSt.linksRun = true ∧ wholeSt.carries 0 = true ∧ wholeSt.isDevice 0 = true ∧
    wholeSt.tenantOfDevice 0 = some 0 ∧ wholeSt.tenantState 0 = .active ∧ (∀ c, tlp.kind ≠ .cache c) ∧
    wholeSt.acsViolated 0 (wholeSt.vppbOfPort 0 0) tlp = false ∧ tlp.peer = false :=
  ⟨by decide +kernel, by decide +kernel, by decide +kernel, by decide +kernel, by decide +kernel, by simp [tlp], by decide +kernel⟩

/-- The ACS control register of that vPPB. -/
def acsSt (c : Nat) : State := { wholeSt with tenants := [(0, { wholeSt.tenant 0 with acs := [(wholeSt.vppbOfPort 0 0, c)] })] }

theorem wit_Entries_peer :
    let q : TlpReq := { tlp with peer := true, vppb := 3 }
    let s := opSt (ports ++ [(K.tenantVppbTable 0, 2 * 2 ^ 56), (K.tenantVppbTable 0 + 3, 2 * 2 ^ 56 + 12 * 2 ^ 48),
      (K.portPortRole 12, 1), (K.portPortMode 12, 2), (K.portLinkState 12, LinkState.active.num)])
    s.acsViolated 0 (s.vppbOfPort 0 0) q = false ∧ s.acsRedirects 0 (s.vppbOfPort 0 0) q = false ∧
      s.boundPort 0 q.vppb.val = some 12 ∧ s.refusesTraffic 12 = false ∧ s.tenantOfDevice 0 = some 0 ∧
      (acsSt 4).acsRedirects 0 ((acsSt 4).vppbOfPort 0 0) q = true ∧
      (acsSt 1).acsViolated 0 ((acsSt 1).vppbOfPort 0 0) { q with stranger := true } = true ∧
      (acsSt 1).tenantOfDevice 0 = some 0 ∧ (acsSt 1).tenantState 0 = .active := by decide +kernel

theorem wit_Entries_host :
    let s := opSt ports
    let t := opSt (ports ++ [(K.tenantState 0, TenantState.down.num)])
    s.linksRun = true ∧ s.carries 4 = true ∧ s.isHost 4 = true ∧ s.tenantOfPort 4 = some 0 ∧ s.tenantState 0 = .active ∧
      s.tlpq 4 = [] ∧ s.r (K.tenantPrimaryPort 0) = 4 ∧ tlp.own = false ∧ tlp.kind = .memWrite ∧ s.boundPort 0 tlp.vppb.val = none ∧
      t.linksRun = true ∧ t.carries 4 = true ∧ t.isHost 4 = true ∧ t.tenantOfPort 4 = some 0 ∧ t.tenantState 0 ≠ .active := by
  decide +kernel

/-- A completion message for port 4. -/
def rsp : Msg := { kind := .ndrCmp, cls := .memRsp, dst := 4 }
/-- It waits in the receive buffer of port 0. -/
def rspSt : State := { opSt ports with core := { rxq := [(chanNum .s2mNdr, [rsp])] } }

theorem wit_Entries_staging : rspSt.forwarding = true ∧ rspSt.isHost 0 = false ∧ rspSt.activeTenant 0 = none ∧
    isRequestChan (chanNum .s2mNdr) = false ∧ Tbl.getD rspSt.core.rxq (16 * 0 + chanNum .s2mNdr) [] = rsp :: [] ∧
    rsp.sent = 0 ∧ rsp.cls.isRequest = false ∧ rsp.isAcquire = false ∧
    rspSt.flowBusy (16 * 0 + chanNum .s2mNdr) rsp = false ∧ (∀ h, h < 2 → Tbl.getD rspSt.core.rxq (ownKey rsp.src h) [] = []) ∧
    (packMsg (rspSt.staging rsp.src) (rspSt.stagingHalf 0) (rspSt.stagingRoom rsp.src (rspSt.stagingHalf 0) rsp) rsp).2.sent ≠ 0 ∧
    (packMsg (rspSt.staging rsp.src) (rspSt.stagingHalf 0) (rspSt.stagingRoom rsp.src (rspSt.stagingHalf 0) rsp) rsp).2.bytes
      ≤ (packMsg (rspSt.staging rsp.src) (rspSt.stagingHalf 0) (rspSt.stagingRoom rsp.src (rspSt.stagingHalf 0) rsp) rsp).2.sent := by
  decide +kernel

/-- A response cell from slice 0 to port 4, and one to the first home slice. -/
def cell : Cell := { cls := .memRsp, src := 0, dst := 4, tenant := 0, valid := 16, hdrs := 1, msgs := [rsp] }
def homeCell : Cell := { cell with dst := 96 }

theorem wit_Cells_stages :
    let a : State := { opSt ports with core := { staging := [(0, [cell])] } }
    let b : State := { opSt ports with core := { flight1 := [(5, [cell])] } }
    let c : State := { opSt ports with core := { voq := [(voqKey 0 4 4, [{ cell := cell, number := 7, area := .shared, stamp := 0 }])] } }
    let d : State := { opSt ports with core := { flight2 := [(2, [cell])], expected := [(cell.flow, 0)] } }
    let e : State := { opSt ports with core := { flight2 := [(2, [cell])], expected := [(cell.flow, 1)] } }
    a.forwarding = true ∧ a.core.frames = [] ∧ a.slotOpen 0 5 = true ∧
      (∀ h, h < 2 → Tbl.getD a.core.rxq (ownKey 0 h) [] = []) ∧ a.stageOnePick 0 5 5 = some cell ∧
      ({ a with core := { a.core with slot := 6 } } : State).slotOpen 0 5 = false ∧
      Tbl.getD b.core.flight1 5 [] = cell :: [] ∧ b.arrivesNext cell.slot = true ∧ (opSt (ports ++ [(K.coreExpressEnable, 0)])).on K.coreExpressEnable = false ∧
      c.forwarding = true ∧ c.slotOpen 48 2 = true ∧ c.core.injectWait = [] ∧ c.domain (2 / 2) = .on ∧ (c.stageTwoHeads 0 2).find? (fun h => c.readable 2 h.2.2) = some (4, .memRsp, cell) ∧
      Tbl.getD d.core.flight2 2 [] = cell :: [] ∧ (cell.sequence + 65536 - d.expected cell.flow) % 65536 < 32768 ∧
      Tbl.getD e.core.flight2 2 [] = cell :: [] ∧ 32768 ≤ (cell.sequence + 65536 - e.expected cell.flow) % 65536 := by
  decide +kernel

/-- A cell at a pool: empty, or with neither a free shared cell nor headroom left to it. -/
def poolSt (cells : List PoolCell) (c : Cell) : State :=
  { opSt (ports ++ [(K.coreExpressEnable, 0)]) with core := { flight1 := [(5, [c])], voq := [(voqKey 5 4 4, cells)] } }

theorem wit_Cells_pool : Tbl.getD (poolSt [] cell).core.flight1 5 [] = cell :: [] ∧
    (poolSt [] cell).on K.coreExpressEnable = false ∧ ((poolSt [] cell).areaFor 5 cell).isSome = true ∧
    (poolSt [] cell).arrivesNext cell.slot = true ∧
    (poolSt [] { cell with slot := 9 }).on K.coreExpressEnable = false ∧
    ({ opSt ports with core := { flight1 := [(5, [{ cell with slot := 9 }]), (6, [cell])] } } : State).arrivesNext 9 = false := by
  decide +kernel

theorem wit_Cells_full :
    let x : PoolCell := { cell := cell, number := 0, area := .shared, stamp := 0 }
    let y : PoolCell := { x with area := .headroom }
    let c : Cell := { cell with cls := .memReq }
    (poolSt (List.replicate 7357 x ++ List.replicate 16 y) c).areaFor 5 c = none := by decide +kernel

theorem wit_Released :
    let s : State := { opSt ports with core := { window := [(2, [cell])] } }
    (Tbl.getD s.core.window 2 []).find? s.ready = some cell ∧ cell.cls = .memRsp ∧
      (∀ m ∈ cell.msgs, m.cls = .memRsp ∧ s.staleMsg m = false) ∧ s.core.tainted = [] ∧ s.core.dropping = [] ∧
      (s.port cell.dst).retiredPort = false ∧ cell.headCont = false ∧ cell.tail = none ∧ sumOf (cell.msgs.map (·.bytes)) ≠ 0 ∧
      cell.headerPasses 0 = true ∧ cell.payloadPasses 0 0 = true ∧ cell.headerPasses 1 = false := by decide +kernel

/-- A pool cell of each kind. -/
def poolCell (c : Cell) (stamp : Nat) : PoolCell := { cell := c, number := 7, area := .shared, stamp := stamp }

theorem wit_Internal :
    let s : State := { opSt ports with core := { voq := [(voqKey 0 96 4, [poolCell homeCell 0])] } }
    s.forwarding = true ∧ dieOf (96 + 0) = 0 % 2 ∧ s.core.tainted = [] ∧
      (classOrder.filterMap (fun c => match s.voq 0 (96 + 0) c.num with
        | x :: _ => if x.cell.sequence = s.expected x.cell.flow && !s.unitRefuses 0 c then some x.cell else none
        | [] => none) = homeCell :: []) ∧ (∀ x ∈ homeCell.msgs, s.staleIn homeCell x = false) ∧
      homeCell.headerPasses 0 = true ∧ homeCell.payloadPasses 0 0 = true := by decide +kernel

theorem wit_Freed :
    let s : State := { opSt ports with core := { delivered := [(3, [poolCell cell 0])] }, beat := 64 }
    s.tick < s.quartz.cutoff ∧ s.segmentDone 3 = false ∧ 1023 ≤ ({ s with tick := 1023 } : State).tick ∧
      ({ s with tick := 1023 } : State).segmentDone 3 = false ∧ s.poolDelivered 3 = poolCell cell 0 :: [] ∧ s.core.voq = [] ∧ s.beat % 64 ≠ 63 ∧ inSegment s.beat (poolCell cell 0).number = true ∧
      2 ≤ (s.beat + 65536 - (poolCell cell 0).stamp) % 65536 ∧
      s.r K.coreCtrLeaksReclaimed + 1 < 2 ^ Schema.width K.coreCtrLeaksReclaimed := by decide +kernel

/-- A snoop in the egress buffer of port 4, and port 4 with credits for it. -/
def snoop : EgressCell :=
  { cell := { cls := .bi, src := 48, dst := 4, tenant := 0, valid := 16, hdrs := 1, msgs := [{ kind := .biSnpInv, cls := .bi, dst := 4 }] },
    enteredBeat := 0, enteredTick := 0 }
def snoopSt (replay : Nat) : State :=
  ({ opSt (ports ++ [(K.portReplayWindow 4, replay)]) with core := { egress := [(4, { bi := [snoop] })] } }).modPort 4
    (fun x => { x with credits := [(chanNum .biSnp, (10, 10))] })

/-- Port 4 with an empty egress buffer. -/
def emptySt : State := opSt (ports ++ [(K.portReplayWindow 4, 128)])

theorem wit_Egress : (snoopSt 128).linksRun = true ∧ (snoopSt 128).carries 4 = true ∧ (snoopSt 128).markerDue 4 = false ∧ ((snoopSt 128).port 4).resend = [] ∧
    ((snoopSt 128).egress 4).control = [] ∧ (snoopSt 128).forwarding = true ∧ ((snoopSt 128).port 4).reissues = [] ∧
    2 ≤ (snoopSt 128).format 4 ∧ (snoopSt 128).eligible 4 ((snoopSt 128).egress 4).bi = some snoop ∧ snoop.cell.cls = .bi ∧
    ((snoopSt 128).port 4).outstanding.length < (snoopSt 128).r (K.portReplayWindow 4) ∧
    (snoopSt 0).r (K.portReplayWindow 4) ≤ ((snoopSt 0).port 4).outstanding.length ∧
    (snoopSt 0).eligible 4 ((snoopSt 0).egress 4).bi = some snoop := by decide +kernel

theorem wit_Egress_empty : emptySt.linksRun = true ∧ emptySt.carries 4 = true ∧ emptySt.markerDue 4 = false ∧ (emptySt.port 4).resend = [] ∧
    (emptySt.egress 4).control = [] ∧ emptySt.forwarding = true ∧ (emptySt.port 4).reissues = [] ∧ 2 ≤ emptySt.format 4 ∧
    (emptySt.egress 4).bi = [] ∧ (emptySt.egress 4).memRsp = [] ∧ (emptySt.egress 4).ioCpl = [] ∧ (emptySt.egress 4).members = [] ∧
    (opSt []).carries 4 = false ∧ ((weuriSt []).modPort 8 (fun x => { x with flits := 4096 })).markerDue 8 = true := by
  decide +kernel

theorem wit_Egress_first :
    let f : Flit := { sequence := 0, payload := 80 }
    let s := replaySt.modPort 0 (fun x => { x with resend := [0] })
    let t : State := { emptySt with core := { egress := [(4, { control := [.carry (.cancel 4 7 9)] })] } }
    s.carries 0 = true ∧ s.markerDue 0 = false ∧ (s.port 0).resend = f.sequence :: [] ∧
      (s.port 0).outstanding.find? (fun g => decide (g.sequence = f.sequence)) = some f ∧
      t.carries 4 = true ∧ t.markerDue 4 = false ∧ (t.port 4).resend = [] ∧ (t.egress 4).control = .carry (.cancel 4 7 9) :: [] := by
  decide +kernel

/-! ## Tenants and virtual memory devices -/

theorem wit_Tenant_reset :
    let s := args (opSt (ports ++ [(K.portLinkState 4, LinkState.down.num), (K.tenantResetPropagate 0, 0)])) 0x3040 [0]
    Triggered s (msg [1]) 0x3040 (fun s a => s.tenantResetChecks a) [0] s ∧
      (0 = fieldAt [0] 0 1 ∧ (∀ p ∈ s.tenantPorts 0, s.linkUp p = false) ∧ s.garnet.trans = [] ∧ s.core.staging = [] ∧ s.core.rxq = [] ∧ (s.tenant 0).genWaits = 0 ∧
        s.on (K.tenantResetPropagate 0) = false ∧ s.tagCarries 0 ((s.r (K.tenantGeneration 0) + 1) % 65536) = false) :=
  ⟨triggered_of _ _ _ _ _ .owner (by decide +kernel) (by decide +kernel) (by decide +kernel), by decide +kernel⟩

theorem wit_Tenant_sweep :
    let s : State := { opSt (ports ++ [(K.tenantState 0, TenantState.resetting.num)]) with garnet := { sweeping := [(2, 0)] } }
    (2, 0) ∈ s.garnet.sweeping := by decide

theorem wit_Tenant_end :
    let s := opSt (ports ++ [(K.tenantState 0, TenantState.resetting.num)])
    s.tenantState 0 = .resetting ∧ (∀ x ∈ s.garnet.sweeping, x.2 ≠ 0) ∧ s.stagingClear 0 = true ∧ (s.tenant 0).genWaits = 0 ∧
      s.r (K.tenantPrimaryPort 0) < 96 := by decide +kernel

/-- A read that a device answers. -/
def readTag (gen : Nat) : Tag :=
  { outPort := 0, hostPort := 4, tenant := 0, vmd := none, hostTag := 5, gen := gen, bindGen := 0, acu := 0, epoch := 0,
    msg := { kind := .memRd .any, cls := .memReq, gen := gen, dst := 0 }, sentDown := true }

theorem wit_Completions :
    let s : State := { opSt ports with core := { tags := [(8, readTag ((opSt ports).r (K.tenantGeneration 0)))] } }
    let t : State := { opSt ports with core := { tags := [(8, readTag 9)] } }
    Tbl.find s.core.tags 8 = some (readTag (s.r (K.tenantGeneration 0))) ∧ s.link 0 = .active ∧ (readTag 9).outPort = 0 ∧ (readTag 9).sentDown = true ∧ tagUnit (readTag 9) = none ∧ (readTag 9).vmd = none ∧
      tagUnit (readTag (s.r (K.tenantGeneration 0))) = none ∧ s.staleTag (readTag (s.r (K.tenantGeneration 0))) = false ∧
      answerKind (readTag 9).msg.kind true = (.drs .any, .memRsp, .s2mDrs) ∧ t.staleTag (readTag 9) = true ∧
      (t.tenant 0).genWaits = 0 ∧ Tbl.find s.core.tags 9 = none ∧ s.carries 0 = true ∧ (readTag 9).msg.transit = false := by
  decide +kernel

theorem wit_Completions_fabric :
    let s : State := { opSt (ports ++ [(K.portPortRole 12, 2), (K.portPortMode 12, 2), (K.portLinkState 12, LinkState.active.num),
                             (K.portFlitFormat 12, 2)]) with core := { tags := [(8, { readTag 0 with outPort := 12 })] } }
    s.isFabric 8 = true ∧ s.isFabric 12 = true ∧ s.carries 8 = true ∧ s.staleTag { readTag 0 with outPort := 12 } = false := by
  decide +kernel

theorem wit_Presented_power : (opSt []).mgmt.fmOp = .none := rfl

theorem wit_Presented_press : Triggered (args (opSt []) 0x3041 [0, 3]) (msg [1]) 0x3041 (fun _ a => attentionChecks a) [0, 3]
    (args (opSt []) 0x3041 [0, 3]) :=
  triggered_of _ _ _ _ _ .owner (by decide +kernel) (by decide +kernel) (by decide +kernel)

theorem wit_Presented_decoder :
    let s : State := { boundSt with beryl := { boundSt.beryl with writes := [(4, [(100, 0, .creation 3)])] } }
    boundSt.vmdState 3 = .bound ∧ boundSt.beryl.commitPending = [] ∧ boundSt.windowsWritten 3 = true ∧
      s.vmdState 3 = .bound ∧ s.beryl.commitPending = [] ∧ s.windowsWritten 3 = false := by decide +kernel

/-- A VmdCreate of VMD 5 with one window of 4 extents of target 7. -/
def createArgs : List Byte :=
  [0, 5, 0, 1, 0, 0, 0, 64, 1, 0, 0, 7, 0, 0, 0, 4, 0, 0, 0, 0, 0, 0, 0, 0, 0, 0, 0, 0, 0, 0, 0, 0, 0, 0, 0, 0, 0, 0, 0, 0]
/-- An inventory row: target 7 with 64 extents. -/
def inventory : List (Nat × Nat) := [(K.berylDeviceInventory, 2 ^ 127 + 7 * 2 ^ 115 + 64 * 2 ^ 88)]

theorem wit_Create_operational : Triggered (args (opSt []) 0x3500 createArgs) (msg [1]) 0x3500 (fun s a => s.vmdCreateChecks a)
    createArgs (args (opSt []) 0x3500 createArgs) ∧ (args (opSt []) 0x3500 createArgs).device = .operational :=
  ⟨triggered_of _ _ _ _ _ .owner (by decide +kernel) (by decide +kernel) (by decide +kernel), by decide +kernel⟩

theorem wit_Create_preop :
    let s := args (preSt []) 0x3500 createArgs
    let t := args (preSt inventory) 0x3500 createArgs
    Triggered s (msg [1]) 0x3500 (fun s a => s.vmdCreateChecks a) createArgs s ∧
      Triggered t (msg [1]) 0x3500 (fun s a => s.vmdCreateChecks a) createArgs t ∧
      (s.device = .preop ∧ t.device = .preop ∧ (s.accept (msg [1]) 0x3500).drawSet [] [.vmdCreate createArgs] = none ∧
        ((t.accept (msg [1]) 0x3500).drawSet [] [.vmdCreate createArgs]).isSome = true) :=
  ⟨triggered_of _ _ _ _ _ .owner (by decide +kernel) (by decide +kernel) (by decide +kernel),
    triggered_of _ _ _ _ _ .owner (by decide +kernel) (by decide +kernel) (by decide +kernel), by decide +kernel⟩

theorem wit_Destroy :
    let s := args (opSt [(K.vmdState 5, VmdState.ready.num)]) 0x3501 (toBytes 2 5)
    let t := args (preSt [(K.vmdState 5, VmdState.ready.num)]) 0x3501 (toBytes 2 5)
    Triggered s (msg [1]) 0x3501 (fun s a => s.vmdDestroyChecks a) (toBytes 2 5) s ∧
      Triggered t (msg [1]) 0x3501 (fun s a => s.vmdDestroyChecks a) (toBytes 2 5) t ∧ s.device = .operational ∧ t.device = .preop :=
  ⟨triggered_of _ _ _ _ _ .owner (by decide +kernel) (by decide +kernel) (by decide +kernel),
    triggered_of _ _ _ _ _ .owner (by decide +kernel) (by decide +kernel) (by decide +kernel), by decide +kernel, by decide +kernel⟩

theorem wit_Drain :
    let s := opSt [(K.vmdState 5, VmdState.draining.num)]
    s.vmdState 5 = .draining ∧ s.r (K.vmdOutstanding 5) = 0 := by decide +kernel

/-- A RegionCreate of SOFTWARE region 9. -/
def regionArgs : List Byte := [9, 3, 255, 0] ++ toBytes 2 7 ++ [0, 0] ++ toBytes 4 4 ++ toBytes 4 0

theorem wit_Region :
    let s := args (opSt []) 0x4010 regionArgs
    let t := args (opSt [(K.regionState 9, 2)]) 0x4011 [9]
    Triggered s (msg [1]) 0x4010 (fun s a => s.regionCreateChecks a) regionArgs s ∧ s.device = .operational ∧
      Triggered t (msg [1]) 0x4011 (fun s a => s.regionDestroyChecks a) [9] t ∧ t.device = .operational :=
  ⟨triggered_of _ _ _ _ _ .owner (by decide +kernel) (by decide +kernel) (by decide +kernel), by decide +kernel,
    triggered_of _ _ _ _ _ .owner (by decide +kernel) (by decide +kernel) (by decide +kernel), by decide +kernel⟩

/-! ## The extent map -/

/-- A private entry of target 7. -/
def entry7 (x : Nat) : Nat := entOf 1 7 0 x none

theorem wit_EntryTable :
    let s := opSt inventory
    let rows := (rowsOf 8 (toBytes 8 (entry7 3))).mapIdx (fun k v => (50 + k, entWritten v))
    Heard s (msg (toBytes 8 (entry7 3)) 50) opWrite 0x3801 0x01 .owner s ∧
      (s.writeRefusal .owner 0x3801 0x01 = none ∧ (toBytes 8 (entry7 3)).length % 8 = 0 ∧ rows = [(50, entry7 3)] ∧
        ∀ x ∈ rows, s.entryLocked x.1 = false ∧ s.namesHeld x.2 = false ∧ stateRefusal x.2 = none ∧
          s.extentRefusal (s.trials rows) x.2 = none) :=
  ⟨heard_of _ _ _ _ _ _ (by decide +kernel), by decide +kernel⟩

theorem wit_EntryTable_window : toBytes 8 (entry7 3) ≠ [] ∧ 4194303 + (toBytes 8 (entry7 3)).length / 8 ≤ 4194304 := by decide +kernel

/-- Row 0 of DescriptorTable, one entry of VMD 3 at index 100; and the row with a next run. -/
def row0 : Nat := rrOf 1 3 0 0 100 1 true
def row0Next : Nat := setBits (setBits row0 97 97 1) 73 52 200
/-- The objects of that run. -/
def runObjects : List (Nat × Nat) := [(K.berylEntryTable + 100, entry7 4), (K.berylDescriptorTable, row0)] ++ inventory

theorem wit_RunTables :
    let s := opSt runObjects
    let t := preSt runObjects
    let e := msg (toBytes 16 row0Next)
    Heard s e opWrite 0x3802 0x01 .owner s ∧ Heard t e opWrite 0x3802 0x01 .owner t ∧
      (s.writeRefusal .owner 0x3802 0x01 = none ∧ t.writeRefusal .owner 0x3802 0x01 = none ∧ e.payload.length % 16 = 0 ∧ e.payload ≠ [] ∧
        e.row + e.payload.length / 16 ≤ 4096 ∧ (∀ x ∈ (rowsOf 16 e.payload).mapIdx (fun k v => (obj 0x3802 0x01 + 0 + k, v)),
          rrFixed x.2 = rrFixed (s.shownRow x.1) ∧ rrKind (s.r x.1) ≠ 0 ∧ rrKind (s.r x.1) ≠ 2) ∧
        s.device ≠ .preop ∧ t.device = .preop ∧ row0Next ≠ row0 ∧
        t.runsOk (((rowsOf 16 e.payload).mapIdx (fun k v => (obj 0x3802 0x01 + 0 + k, v))).foldl
          (fun u x => Tbl.put u x.1 (rrWithStg (t.r x.1) x.2)) []) = true) :=
  ⟨heard_of _ _ _ _ _ _ (by decide +kernel), heard_of _ _ _ _ _ _ (by decide +kernel), by decide +kernel⟩

theorem wit_Inventory :
    let s := opSt inventory
    let e := msg (toBytes 16 (2 ^ 127 + 8 * 2 ^ 115 + 4096 * 2 ^ 88)) 1
    let rows := (rowsOf 16 e.payload).mapIdx (fun k v => (K.berylDeviceInventory + (e.row + k), inventoryWritten v))
    let inv := (s.each rows (fun v x => v.w x.1 x.2)).inventory
    Heard s e opWrite 0x3804 0x01 .owner s ∧ (s.writeRefusal .owner 0x3804 0x01 = none ∧
      (∀ x ∈ rows, (x.2 = s.r x.1 ∨ s.targetInUse (s.r x.1) = false) ∧ inventoryRefusal x.2 = none) ∧ namesApart inv = true ∧
      sumOf (inv.map (fun x => bits x.2 110 88)) ≤ 8388608 ∧ e.payload.length % 16 = 0 ∧ e.payload ≠ [] ∧
      1023 + e.payload.length / 16 ≤ 1024) :=
  ⟨heard_of _ _ _ _ _ _ (by decide +kernel), by decide +kernel⟩

/-- An EntryRunWrite of two entries. -/
def runWriteArgs : List Byte := toBytes 4 50 ++ toBytes 4 2 ++ toBytes 8 (entry7 3)

theorem wit_RunWrite :
    let s := args (opSt inventory) 0x3805 runWriteArgs
    let t : State := { waits (opSt []) 0x3805 with beryl := { runWrite := some (2, 2) } }
    Triggered s (msg [1]) 0x3805 (fun s a => s.runWriteChecks a) runWriteArgs s ∧ t.beryl.runWrite = some (2, 2) ∧
      (t.cmd 0x3805).state = .pending :=
  ⟨triggered_of _ _ _ _ _ .owner (by decide +kernel) (by decide +kernel) (by decide +kernel), rfl, by decide +kernel⟩

/-- An EntryReplace of entry 100. -/
def replaceArgs : List Byte := toBytes 4 100 ++ toBytes 8 (entry7 5)

theorem wit_Replace :
    let s := args (opSt runObjects) 0x3806 replaceArgs
    let t := args (preSt runObjects) 0x3806 replaceArgs
    Triggered s (msg [1]) 0x3806 (fun s a => s.replaceChecks a) replaceArgs s ∧ s.device = .operational ∧
      Triggered t (msg [1]) 0x3806 (fun s a => s.replaceChecks a) replaceArgs t ∧ t.device = .preop :=
  ⟨triggered_of _ _ _ _ _ .owner (by decide +kernel) (by decide +kernel) (by decide +kernel), by decide +kernel,
    triggered_of _ _ _ _ _ .owner (by decide +kernel) (by decide +kernel) (by decide +kernel), by decide +kernel⟩

theorem wit_Settled :
    let s := opSt runObjects
    let t : State := { s with beryl := { s.beryl with refills := [⟨2, 100, 0, true, [K.berylDescriptorTable]⟩] } }
    s.rowUnsettled (K.berylDescriptorTable + 0 % 4096) = false ∧ t.rowUnsettled (K.berylDescriptorTable + 0 % 4096) = true := by decide +kernel

theorem wit_Background :
    let s : State := { opSt [] with beryl := { patches := [(100, 7)] } }
    let t : State := { opSt [] with beryl := { writes := [(4, [(100, 7, .entryRun)])] } }
    s.firstPatch 4 = some 100 ∧ t.firstPatch 4 = none ∧ Tbl.getD t.beryl.writes 4 [] = (100, 7, .entryRun) :: [] ∧ 100 < 4194304 ∧
      (opSt []).firstPatch 4 = none ∧ Tbl.getD (opSt []).beryl.writes 4 [] = [] := by decide +kernel

theorem wit_Scrub :
    let s := opSt (runObjects ++ [(K.berylScrubActive, 1)])
    let t : State := { s with beryl := { retiredTargets := [7], writes := [(4, [(100, 0, .scrub)])] } }
    s.on K.berylScrubActive = true ∧ s.scrubbing = false ∧ t.on K.berylScrubActive = true ∧ t.scrubbing = true ∧
      t.firstPatch 4 = none ∧ Tbl.getD t.beryl.writes 4 [] = (100, 0, .scrub) :: [] ∧ entState (t.entry 100) ≠ 0 ∧
      entTarget (t.entry 100) ∈ t.beryl.retiredTargets := by decide +kernel

/-! ## The coherence home -/

/-- An acquire of line 0 of region 0, and its release. -/
def acquire : Msg := { kind := .memInv .any, cls := .memReq, dst := 96, region := some 0 }
def release : Msg := { acquire with kind := .memClnEvct }
/-- A line that tenant 0 shares. -/
def shared : GEntry := { region := 0, line := 0, state := .s, sharers := [0] }
/-- A transaction on it that waits for tenants 0 and 1. -/
def trans : Trans := { home := 0, region := 0, line := 0, goal := .memInv, req := some acquire, awaiting := [0, 1] }

theorem wit_Acquire :
    let s : State := { opSt ports with core := { inbox := [(0, [acquire])] }, garnet := { entries := [(setKey 0 0, shared)] } }
    let t : State := { s with garnet := { trans := [trans] } }
    let u : State := { s with garnet := { s.garnet with conflict := [(0, [acquire])] } }
    let v : State := { u with regs := (u.w (K.tenantGeneration 0) 5).regs }
    s.forwarding = true ∧ (s.inbox 0).find? Msg.isAcquire = some acquire ∧ s.staleMsg acquire = false ∧
      s.garnet.retiredWays = [] ∧ t.lineBusy 0 0 = true ∧
      (t.inbox 0).find? Msg.isAcquire = some acquire ∧ t.staleMsg acquire = false ∧
      s.lineBusy 0 0 = false ∧ s.conflict 0 = [] ∧ s.lineEntry 0 0 = some (setKey 0 0, shared) ∧
      (∀ x ∈ s.holdersOf shared, x = acquire.tenant) ∧ acquire.kind = .memInv .any ∧
      u.conflict 0 = acquire :: [] ∧ u.staleMsg acquire = false ∧ u.lineBusy 0 0 = false ∧ v.conflict 0 = acquire :: [] ∧
      v.staleMsg acquire = true := by decide +kernel

theorem wit_Release :
    let s : State := { opSt (ports ++ [(K.regionMembers 0, 1)]) with core := { inbox := [(0, [release])] } }
    let t : State := { s with garnet := { entries := [(setKey 0 0, shared)] } }
    s.forwarding = true ∧ (s.inbox 0).find? Msg.isRelease = some release ∧ s.staleMsg release = false ∧
      s.lineEntry 0 0 = none ∧ s.canOccur (Src.home 0 17) = true ∧ (Tbl.getD s.onyx.pend (Src.home 0 17) []).length < 255 ∧
      t.lineEntry 0 0 = some (setKey 0 0, shared) ∧ shared.coarse = false ∧ shared.sharers = [release.tenant] ∧
      t.present shared.region release.tenant = true ∧
      t.lineBusy 0 0 = false ∧ release.kind = .memClnEvct ∧ t.garnet.retiredWays = [] := by decide +kernel

theorem wit_Conflict :
    let s := opSt (ports ++ [(K.regionClass 0, 1)])
    s.tenantOfPort 4 = some 0 ∧ s.forwarding = true ∧ s.r (K.regionClass 0) = 1 := by decide +kernel

/-- A read of the line for tenant 0, and its tag. -/
def readTrans : Trans := { home := 0, region := 0, line := 0, goal := .read true, req := some { acquire with kind := .memRd .any }, read := some 8 }
def homeTag : Tag :=
  { outPort := 0, hostPort := 4, tenant := 0, vmd := none, hostTag := 5, gen := 0, bindGen := 0, acu := 0, epoch := 0,
    msg := { kind := .memRd .any, cls := .memReq }, home := some (0, 0) }

/-- A BIRsp of a tenant for the line. -/
def birsp (n : Nat) : Msg := { kind := .biRsp 0 0 .i, cls := .bi, tenant := n, dst := 96 }

theorem wit_Snoops :
    let s : State := { opSt ports with garnet := { trans := [trans], entries := [(setKey 0 0, shared)] }, beat := 2 ^ 32,
                                       core := { inbox := [(0, [birsp 0, birsp 2])] } }
    let t : State := { opSt ports with core := { tags := [(8, homeTag)] }, garnet := { trans := [readTrans], entries := [(setKey 0 0, shared)] } }
    s.forwarding = true ∧ (s.inbox 0).find? (Msg.isBirsp 0 0 0 .i) = some (birsp 0) ∧ s.staleMsg (birsp 0) = false ∧
      (s.inbox 0).find? (Msg.isBirsp 0 0 2 .i) = some (birsp 2) ∧ (s.inbox 0).find? (Msg.isBirsp 0 0 1 .i) = none ∧
      s.transOn 0 0 = some trans ∧ 0 ∈ trans.awaiting ∧ trans.blockOf = [] ∧ (∃ y ∈ trans.awaiting, y ≠ 0) ∧
      s.garnet.retiredWays = [] ∧ (2 : Nat) ∉ trans.awaiting ∧ trans.home = 0 ∧ 0 ∉ trans.aged ∧ (0 % 4 = 0 ∨ 0 ∉ trans.blockOf) ∧ t.garnet.retiredWays = [] ∧
      trans.snoopBeat + s.r K.garnetSnoopWarn ≤ s.beat ∧ Tbl.find t.core.tags 9 = none ∧ Tbl.find t.core.tags 8 = some homeTag ∧
      homeTag.home = some (0, 0) ∧ t.transOn 0 0 = some readTrans ∧ readTrans.goal = .read true ∧ readTrans.req ≠ none ∧
      readTrans.read = some 8 ∧ readTrans.writes = [] ∧ t.staleMsg { acquire with kind := .memRd .any } = false ∧
      t.lineEntry 0 0 = some (setKey 0 0, shared) := by decide +kernel

theorem wit_HomeScrub : (opSt []).r K.garnetEccCorrected + 1 < 2 ^ Schema.width K.garnetEccCorrected := by decide +kernel

theorem wit_Recall :
    let s := args (opSt [(K.regionState 9, 2)]) 0x4012 [9, 255]
    let t : State := { waits (opSt []) 0x4012 with garnet := { recallRun := some (9, [], 5) } }
    Triggered s (msg [1]) 0x4012 (fun s a => s.recallChecks a) [9, 255] s ∧ s.linesToRecall 9 none = [] ∧
      t.garnet.recallRun = some (9, [], 5) ∧ (t.cmd 0x4012).state = .pending :=
  ⟨triggered_of _ _ _ _ _ .owner (by decide +kernel) (by decide +kernel) (by decide +kernel), by decide +kernel, rfl,
    by decide +kernel⟩

/-! ## The migration engines and the atomic engine -/

/-- A JobCreate: entry 100 to the lowest free extent of target 7. -/
def jobArgs : List Byte := toBytes 4 100 ++ toBytes 2 7 ++ [0, 255] ++ toBytes 4 0xFFFFFFFF ++ [0, 0, 0, 0]

theorem wit_JobCreate :
    let s := args (opSt runObjects) 0x4820 jobArgs
    Triggered s (msg [1]) 0x4820 (fun s a => s.jobChecks a) jobArgs s ∧ s.takeRecord = some 0 ∧ (s.jobDest jobArgs).isSome = true :=
  ⟨triggered_of _ _ _ _ _ .owner (by decide +kernel) (by decide +kernel) (by decide +kernel), by decide +kernel, by decide +kernel⟩

/-- Every job record is taken. -/
def fullSt : State :=
  { args (opSt runObjects) 0x4820 jobArgs with jasper := { jobs := (upTo 1024).map (fun j => (j, { state := .pending })) } }

theorem find_constant (n : Nat) (x : Job) (l : List Nat) (h : n ∈ l) : Tbl.find (l.map (fun j => (j, x))) n = some x := by
  induction l with
  | nil => cases h
  | cons a t ih =>
    by_cases e : a = n
    · simp [Tbl.find, e]
    · simp only [List.map_cons, Tbl.find, if_neg e]
      exact ih (by rcases List.mem_cons.mp h with r | r; exact absurd r.symm e; exact r)

theorem fullSt_job (j : Nat) (h : j ∈ upTo 1024) : (fullSt.job j).state = .pending := by
  have e : Tbl.find fullSt.jasper.jobs j = some { state := .pending } := find_constant j _ (upTo 1024) h
  simp [State.job, Tbl.getD, e]

theorem taken_none (s : State) (l : List Nat) (h : ∀ j ∈ l, (s.job j).state = .pending) :
    (match l.find? (fun j => (s.job j).state = .free) with
      | some j => some j
      | none => l.foldl (fun (best : Option Nat) j =>
        if ((s.job j).state = .done && !(s.job j).releasing) || (s.job j).state = .failed then
          match best with
          | none => some j
          | some b => if (s.job j).endedAt < (s.job b).endedAt then some j else best
        else best) none) = none := by
  have f : l.find? (fun j => decide ((s.job j).state = .free)) = none := by
    rw [List.find?_eq_none]; intro j hj; rw [h j hj]; decide
  rw [f]
  show l.foldl _ none = none
  clear f
  induction l with
  | nil => rfl
  | cons a t ih => rw [List.foldl_cons, h a (by simp)]; exact ih (fun x hx => h x (by simp [hx]))

theorem takeRecord_none (s : State) (h : ∀ j ∈ upTo 1024, (s.job j).state = .pending) : s.takeRecord = none := by
  unfold State.takeRecord
  revert h
  generalize upTo 1024 = l
  intro h
  exact taken_none s l h

theorem fullSt_none : fullSt.takeRecord = none := takeRecord_none fullSt fullSt_job

theorem wit_JobCreate_full : Triggered fullSt (msg [1]) 0x4820 (fun s a => s.jobChecks a) jobArgs fullSt :=
  triggered_of fullSt (msg [1]) 0x4820 (fun s a => s.jobChecks a) jobArgs .owner (by decide +kernel) (by decide +kernel)
    (by decide +kernel)

/-- Job 3 in a state, with engine 0 on it. -/
def jobSt (x : JobState) (l : List LineLock) : State :=
  { args (opSt (runObjects ++ ports)) 0x4821 (toBytes 2 3) with
    jasper := { jobs := [(3, { state := x, engines := [0], index := 100, count := 1, before := entry7 4, destTarget := 7, destExtent := 5 })],
                engines := [(0, { job := some 3, settled := true, locks := l })] } }

theorem wit_JobCancel (x : JobState) (h : x = .pending ∨ x = .copying ∨ x = .disarmStaged ∨ x = .done) :
    Triggered (jobSt x []) (msg [1]) 0x4821 (fun s a => s.cancelChecks a) (toBytes 2 3) (jobSt x []) ∧
      ((jobSt x []).job 3).state = x := by
  rcases h with rfl | rfl | rfl | rfl <;>
    exact ⟨triggered_of _ _ _ _ _ .owner (by decide +kernel) (by decide +kernel) (by decide +kernel), by decide +kernel⟩

theorem wit_Chunk :
    let s := jobSt .copying []
    (s.engine 0).job = some 3 ∧ (s.job 3).state = .copying ∧ (s.job 3).fill = false ∧
      s.tagsGone (s.jobFrom 3).1 (s.job 3).armedAt = true ∧ s.beforeArm 3 = false ∧ s.jasper.suspended = false ∧
      s.enginesStand = false ∧ (s.engine 0).running = false ∧ (s.engine 0).had = false ∧
      (s.engine 0).retired = false ∧ (s.engine 0).copied = false ∧ s.copyLocks 0 = 0 ∧ s.beatState ≠ .beatless ∧
      s.forwarding = true ∧ s.quartz.cutoffDone = false ∧ (s.engine 0).settled = true ∧
      ((s.job 3).fill = true → entState (s.entry ((s.job 3).index + (s.engine 0).extent)) ≠ 0) := by decide +kernel

theorem wit_Chunk_before :
    let m : Msg := { kind := .memWr .any, cls := .memReq, pid := entTarget (entry7 4), ld := 0, addr := entExtent (entry7 4) * extentBytes }
    let s : State := { jobSt .copying [] with core := { rxq := [(0, [m])] } }
    (s.engine 0).job = some 3 ∧ (s.job 3).state = .copying ∧ (s.job 3).fill = false ∧ s.beforeArm 3 = true := by decide +kernel

theorem wit_Chunk_waits :
    let s : State := { opSt (ports ++ [(K.berylEntryTable + 100, entOf 1 9 0 4 none)]) with
      core := { tags := [(8, { homeTag with home := none })] },
      jasper := { jobs := [(3, { state := .copying, engines := [0], index := 100, before := entOf 1 9 0 4 none, armedAt := 7 })],
                  engines := [(0, { job := some 3 })] } }
    (s.engine 0).job = some 3 ∧ (s.job 3).state = .copying ∧ (s.job 3).fill = false ∧
      s.tagsGone (s.jobFrom 3).1 (s.job 3).armedAt = false := by decide +kernel

/-- Job 3 moves an extent of COHERENT region 9, whose home engine 0 has asked for line 5; `source` is the entry it reads from. -/
def lineSt (source : Nat) : State :=
  { opSt ([(K.regionClass 9, 1), (K.berylEntryTable + 100, entOf 2 7 0 4 (some 9))] ++ inventory ++ ports) with
    jasper := { jobs := [(3, { state := .copying, engines := [0], index := 100, before := source })],
                engines := [(0, { job := some 3, running := true, had := true, asked := some 5 })] } }

theorem wit_CopyLock :
    let s := lineSt (entOf 2 7 0 4 (some 9))
    let t := lineSt (entOf 2 8 0 4 (some 9))
    let u : State := { s with garnet := { trans := [{ trans with region := 9, line := 26214405 }] } }
    (s.engine 0).job = some 3 ∧ s.coherentLine 3 5 = some (9, 26214405) ∧ (s.engine 0).asked = some 5 ∧ (s.engine 0).running = true ∧
      s.enginesStand = false ∧ s.lineBusy 9 26214405 = false ∧ (s.engine 0).refused = false ∧
      s.acuRefusal 52 (engineAccess (s.jobFrom 3) 5 (.memRd .invalid)) true = none ∧
      t.coherentLine 3 5 = some (9, 26214405) ∧ t.lineBusy 9 26214405 = false ∧
      (t.acuRefusal 52 (engineAccess (t.jobFrom 3) 5 (.memRd .invalid)) true).isSome = true ∧
      u.coherentLine 3 5 = some (9, 26214405) ∧ u.lineBusy 9 26214405 = true := by decide +kernel

theorem wit_CopyLock_private :
    let e : EngineSt := { job := some 3, settled := true, running := true, nextLine := 4, firstLine := 4, endLine := 5 }
    let s : State := { jobSt .copying [] with jasper := { (jobSt .copying []).jasper with engines := [(0, e)] } }
    (s.engine 0).job = some 3 ∧ s.coherentLine 3 4 = none ∧ s.enginesStand = false ∧ e.nextLine = 4 ∧ (s.engine 0) = e ∧
      e.refused = false ∧ 4 < e.endLine ∧ s.copyLocks 0 < 1024 ∧ e.asked = none ∧ 4 - e.firstLine < s.copyBudget 0 ∧
      s.lockOf 0 3 4 = none ∧ (s.job 3).fill = false ∧
      s.acuRefusal 52 (engineAccess (s.jobFrom 3) 4 (.memRd .invalid)) true = none ∧ s.coherentLine 3 7 = none ∧ e.nextLine ≠ 7 := by
  decide +kernel

theorem wit_CopyLine :
    let s := jobSt .copying [{ job := 3, line := 4, use := .copy 0 }]
    let t := jobSt .copying [{ job := 3, line := 4, use := .copy 1 }]
    s.enginesStand = false ∧ (s.engine 0).locks.find? (fun x => decide (x.line = 4) && decide (x.use = .copy 0))
        = some { job := 3, line := 4, use := .copy 0 } ∧
      (s.job 3).writesB = true ∧ s.acuRefusal 52 (engineAccess (s.jobTo 0 3) 4 (.memWr .invalid)) true = none ∧
      t.enginesStand = false ∧ (t.engine 0).locks.find? (fun x => decide (x.line = 4) && decide (x.use = .copy 1))
        = some { job := 3, line := 4, use := .copy 1 } ∧
      t.acuRefusal 52 (engineAccess (t.jobTo 0 3) 4 (.memRd .invalid)) true = none ∧
      (t.engine 0).locks.find? (fun x => decide (x.line = 4) && decide (x.use = .copy 0)) = none ∧
      (s.engine 0).locks.find? (fun x => decide (x.line = 4) && decide (x.use = .copy 1)) = none := by decide +kernel

theorem wit_CopyLine_ended :
    let l : LineLock := { job := 3, line := 4, use := .copy 0 }
    let s : State := { jobSt .failed [l] with jasper := { (jobSt .failed [l]).jasper with engines := [(0, { locks := [l] })] } }
    s.enginesStand = false ∧ (s.engine 0).locks.find? (fun x => decide (x.line = 4) && decide (x.use = .copy 0)) = some l ∧
      (s.job 3).writesB = false ∧ (s.engine 0).waiting = [] ∧ s.atomic.waiting = [] ∧ (s.engine 0).job ≠ some l.job := by
  decide +kernel

/-- Line 4 of job 3, read back at the end of its chunk, with what engine 0 has computed of A. -/
def line4 : LineLock := { job := 3, line := 4, use := .copy 2 }
def readback (crc : Nat) (job : Option Nat) : State :=
  { opSt ([(K.engineRunningCrcA 0, crc)] ++ ports) with
    jasper := { jobs := [(3, { state := .copying, engines := [0], index := 100 })],
                engines := [(0, { job := job, running := true, foldB := 4, endLine := 5, nextLine := 5, locks := [line4] })] } }

theorem wit_Readback :
    let crc := crc64Run ((readback 0 none).r (K.engineRunningCrcB 0)) (toBytes 64 (7 % 2 ^ 512)).reverse
    let s := readback crc (some 3)
    let t := readback (crc + 1) (some 3)
    (s.engine 0).locks.find? (fun x => decide (x.line = 4) && decide (x.use = .copy 2)) = some line4 ∧
      s.enginesStand = false ∧ (s.engine 0).refused = false ∧ (s.engine 0).waiting = [] ∧ s.atomic.waiting = [] ∧ ((readback 0 none).engine 0).job ≠ some 3 ∧ (s.engine 0).job = some 3 ∧
      (s.engine 0).running = true ∧ (s.engine 0).foldB = 4 ∧ (s.engine 0).endLine = 4 + 1 ∧ 4 + 1 ≤ (s.engine 0).nextLine ∧
      (s.engine 0).readB = [] ∧ crc = s.r (K.engineRunningCrcA 0) ∧ (s.engine 0).poisonAgree = true ∧ line4.poisonA = false ∧
      s.r (K.engineChunkOffset 0) + s.r (K.engineChunkSize 0) < extentBytes ∧ crc ≠ t.r (K.engineRunningCrcA 0) ∧
      (t.job 3).mismatches + 1 < t.r K.jasperMismatchLimit := by decide +kernel

theorem wit_CommitSettled :
    let s : State := { opSt [] with jasper := { jobs := [(3, { state := .done, releasing := true, endedAt := 7 })] } }
    let g : Tag := { homeTag with home := none, outPort := 0 }
    let t : State := { opSt ([(K.berylEntryTable + 100, entOf 1 9 0 4 none)] ++ ports) with
      core := { tags := [(8, g)] }, jasper := { jobs := [(3, { state := .done, releasing := true, before := entOf 1 9 0 4 none, endedAt := 7 })] } }
    (s.job 3).releasing = true ∧ s.enginesStand = false ∧ s.tagsGone (s.jobFrom 3).1 (s.job 3).endedAt = true ∧
      (∀ n, n < 4 → (∀ l ∈ (s.engine n).locks, l.job ≠ 3) ∧ (∀ x ∈ (s.engine n).waiting, x.2.job ≠ some 3)) ∧
      (∀ m ∈ s.travelling, m.cls.isRequest = true → m.job ≠ some 3) ∧
      (∀ g ∈ s.core.tags, g.2.msg.job = some 3 → (s.job 3).endedAt ≤ g.2.allocBeat) ∧ (t.job 3).releasing = true ∧
      t.tagsGone (t.jobFrom 3).1 (t.job 3).endedAt = false := by decide +kernel

/-- A write to the moving extent, whose source is target 9. -/
def dual : Msg := { kind := .memWr .any, cls := .memReq, dst := 104, src := 60, job := some 3, addr := 256, pid := 9 }
/-- What engine 0 takes from its inbox. -/
def State.takes (s : State) (m : Msg) : Bool := m.isWrite && (decide (s.dualLocks 0 < 1024) || s.underLock 0 m)
/-- Job 3, in a state, while a write to its extent has reached engine 0, which writes waiting before it may hold up. -/
def dualSt (x : Job) (m : Msg) (l : List LineLock) (w : List (Nat × Msg)) : State :=
  { opSt (runObjects ++ ports) with
    core := { inbox := [(8, [m])] }
    jasper := { jobs := [(3, x)], engines := [(0, { job := some 3, locks := l, waiting := w })] } }
/-- Job 3 copies to an extent of a target. -/
def copyJob (target : Nat) : Job :=
  { state := .copying, engines := [0], index := 100, count := 1, before := entry7 4, destTarget := target, destExtent := 5 }

theorem wit_Dual :
    let s := dualSt (copyJob 7) dual [] []
    let t := dualSt (copyJob 8) dual [] []
    let a := dualSt (copyJob 7) dual [{ line4 with use := .copy 0 }] []
    let w := dualSt (copyJob 7) dual [] [(4, dual)]
    let b := engineAccess ((s.job 3).destTarget, (s.job 3).destLd, (s.job 3).destExtent) (msgLine dual) (.memWr .invalid)
    let c := engineAccess ((t.job 3).destTarget, (t.job 3).destLd, (t.job 3).destExtent) (msgLine dual) (.memWr .invalid)
    let k := dualSt (copyJob 7) dual [{ line4 with use := .atomic }] []
    s.forwarding = true ∧ (s.inbox 8).find? (State.takes s) = some dual ∧ dual.job.getD 0 = 3 ∧ (s.portTo dual.pid).isSome = true ∧
      k.lockOf 0 3 (msgLine dual) = some { line4 with use := .atomic } ∧ dual.src = 60 ∧ (k.inbox 8).find? (State.takes k) = some dual ∧
      ¬ dual.src < 48 ∧ (s.job 3).state ≠ .failed ∧ s.lockOf 0 3 (msgLine dual) = none ∧ s.dualWaits 0 3 (msgLine dual) = false ∧
      (s.job 3).writesB = true ∧ s.acuRefusal 52 b true = none ∧ t.lockOf 0 3 (msgLine dual) = none ∧
      t.dualWaits 0 3 (msgLine dual) = false ∧ (t.job 3).writesB = true ∧ (t.acuRefusal 52 c true).isSome = true ∧
      a.lockOf 0 3 (msgLine dual) = some { line4 with use := .copy 0 } ∧ w.lockOf 0 3 (msgLine dual) = none ∧
      w.dualWaits 0 3 (msgLine dual) = true := by decide +kernel

theorem wit_Dual_ended :
    let host : Msg := { dual with src := 4, gen := 9 }
    let s := dualSt (copyJob 7) host [] []
    let t := dualSt { copyJob 7 with state := .failed, reason := .sourceLost } dual [] []
    let u := dualSt { copyJob 7 with state := .failed, reason := .cancelled } dual [] []
    s.forwarding = true ∧ (s.inbox 8).find? (State.takes s) = some host ∧ host.src < 48 ∧ s.staleMsg host = true ∧
      t.forwarding = true ∧ (t.inbox 8).find? (State.takes t) = some dual ∧ (t.job 3).state = .failed ∧
      (t.job 3).reason = .sourceLost ∧ (u.inbox 8).find? (State.takes u) = some dual ∧ (u.job 3).reason ≠ .sourceLost ∧
      (u.job 3).writesB = false ∧ u.lockOf 0 3 (msgLine dual) = none ∧ u.dualWaits 0 3 (msgLine dual) = false := by
  decide +kernel

theorem wit_Dual_full :
    let s := dualSt (copyJob 7) dual (List.replicate 1024 { job := 3, line := 5, use := .dual false false }) []
    ∀ m ∈ s.inbox (8 + 0), m.isWrite = true → 1024 ≤ s.dualLocks 0 ∧ s.underLock 0 m = false := by decide +kernel

theorem wit_Dual_complete :
    let l : LineLock := { job := 3, line := 4, use := .dual true false, msg := some dual }
    let s := jobSt .copying [l]
    let t : State := { opSt ports with jasper := { engines := [(0, { locks := [l] })] } }
    s.enginesStand = false ∧ t.enginesStand = false ∧
      (s.engine 0).locks.find? (fun x => decide (x.line = 4) && x.isDual) = some l ∧
      (t.engine 0).locks.find? (fun x => decide (x.line = 4) && x.isDual) = some l ∧ l.use = .dual true false ∧ l.msg = some dual ∧
      (true || false) = true ∧ (false || true) = true ∧ (t.engine 0).waiting = [] ∧ t.atomic.waiting = [] ∧
      (t.engine 0).job ≠ some l.job ∧ (false || false) = false ∧
      (s.engine 0).locks.find? (fun x => decide (x.line = 5) && x.isDual) = none := by decide +kernel

/-- A FetchAdd of a line of target 9, at the device on port 0. -/
def fetchAdd : AtomicReq := { kind := .fetchAdd, size := 4, offset := 0, operand := 1, compare := 0 }
def atomicMsg : Msg := { kind := .atomic fetchAdd, cls := .memReq, dst := 108, pid := 9 }
def atomicTag : Tag := { homeTag with msg := atomicMsg, home := none, atomic := true }
/-- It has reached the atomic engine. -/
def atomicSt (locks : List (Nat × Msg)) : State :=
  { opSt ports with core := { inbox := [(12, [atomicMsg])], tags := [(8, atomicTag)] }, atomic := { locks := locks } }

theorem wit_Atomic_other :
    let old : Msg := { atomicMsg with gen := 9 }
    let lost : Msg := { atomicMsg with pid := 10 }
    let s : State := { opSt ports with core := { inbox := [(12, [old])] } }
    let t : State := { opSt ports with core := { inbox := [(12, [lost])] } }
    s.forwarding = true ∧ (s.inbox 12).find? Msg.isAtomic = some old ∧ s.staleMsg old = true ∧
      (t.inbox 12).find? Msg.isAtomic = some lost ∧ t.staleMsg lost = false ∧ t.atomicHeld lost = false ∧
      t.atomicQueued lost = false ∧ t.atomicDest lost false = none ∧ t.atomicDest lost true = none := by
  decide +kernel

theorem wit_Atomic : (atomicSt []).forwarding = true ∧ ((atomicSt []).inbox 12).find? Msg.isAtomic = some atomicMsg ∧
    (atomicSt []).staleMsg atomicMsg = false ∧ (atomicSt []).atomicHeld atomicMsg = false ∧
    (atomicSt []).atomicQueued atomicMsg = false ∧ (atomicSt []).atomicDest atomicMsg false = some 0 ∧
    (atomicSt [(deviceLine atomicMsg, atomicMsg)]).atomicHeld atomicMsg = true ∧
    ({ atomicSt [] with atomic := { waiting := [atomicMsg] } } : State).atomicQueued atomicMsg = true ∧
    Tbl.find (atomicSt []).core.tags 8 = some atomicTag ∧ atomicTag.atomic = true ∧ atomicTag.writer.getD atomicTag.msg = atomicMsg ∧
    (atomicSt []).atomic.waiting = [] ∧ Tbl.find (atomicSt []).core.tags 9 = none ∧
    (atomicSt []).atomicDest atomicMsg true = some 0 := by decide +kernel

/-! ## The fabric -/

theorem wit_Fabric_ports :
    let s := fabricSt []
    let t := opSt ports
    let u : State := { t with beat := 100000 }
    s.isFabric 8 = true ∧ s.link 8 = .active ∧ s.isFabric 0 = false ∧ u.isFabric 8 = true ∧ u.link 8 = .active ∧
      u.portMode 8 ≠ 3 ∧ (u.port 8).helloAt = none ∧ (u.port 8).foreign = false ∧
      (u.port 8).activeSince + u.helloLimit ≤ u.beat ∧ t.beat < (t.port 8).activeSince + t.helloLimit ∧
      (s.port 8).helloAt = some 0 ∧ s.beat < 0 + s.helloLimit ∧ 0 + s.helloLimit ≤ ({ s with beat := 100000 } : State).beat ∧
      s.managed 8 = true := by decide +kernel

/-- A record newer than the stored one. -/
def newer : Lsr := { peer with sequence := 4 }
/-- A fabric that stores the record of the other switch. -/
def dbSt : State := { fabricSt [] with fabric := { State.reset.fabric with db := [{ lsr := peer, refreshedAt := 0, reachable := true }] } }

theorem wit_Lsr : dbSt.managed 8 = true ∧ seqNewer peer.sequence peer.sequence = false ∧ seqNewer newer.sequence peer.sequence = true ∧
    (dbSt.fabric.db.find? (fun d => decide (d.lsr.identity = newer.identity))).map (·.lsr) = some peer ∧
    (fabricSt []).fabric.db.find? (fun d => decide (d.lsr.identity = peer.identity)) = none ∧ (fabricSt []).fabric.db.length < 255 := by
  decide +kernel

theorem wit_Lsr_full :
    let s : State := { fabricSt [] with fabric := { State.reset.fabric with
      db := (upTo 255).map (fun k => { lsr := { peer with identity := 100 + k }, refreshedAt := 0, reachable := true }) } }
    s.managed 8 = true ∧ s.fabric.db.find? (fun d => decide (d.lsr.identity = peer.identity)) = none ∧ 255 ≤ s.fabric.db.length := by
  decide +kernel

theorem wit_Lsr_other : dbSt.managed 0 = false ∧ newer.identity = 5 := by decide +kernel

/-- This switch's identity is a value that the spec leaves to the system: one record at least is not its own. -/
theorem wit_Lsr_identity : ∃ l : Lsr, l.identity ≠ Config.fabricIdentity :=
  ⟨{ newer with identity := Config.fabricIdentity + 1 }, Nat.succ_ne_self _⟩

theorem wit_Own :
    let s : State := { opSt [] with fabric := { own := some peer } }
    State.reset.fabric.own = none ∧ s.fabric.own = some peer ∧ s.beat < s.fabric.refreshedAt + 1024 ∧
      s.fabric.refreshedAt + 1024 ≤ ({ s with beat := 1024 } : State).beat := by decide +kernel

/-- The argument block of a RemotePidAssign. -/
def pidArgs (id : Nat) : List Byte := toBytes 8 id ++ toBytes 2 77

theorem wit_RemotePid :
    let s := args dbSt 0x5020 (pidArgs 5)
    let t := args (fabricSt []) 0x5020 (pidArgs 5)
    let u : State := { waits (opSt []) 0x5020 with fabric := { assigning := some (5, 77) } }
    Triggered s (msg [1]) 0x5020 (fun _ a => remotePidChecks a) (pidArgs 5) s ∧
      s.fabric.db.any (fun d => decide (d.lsr.identity = fieldAt (pidArgs 5) 0 8)) = true ∧
      Triggered t (msg [1]) 0x5020 (fun _ a => remotePidChecks a) (pidArgs 5) t ∧
      t.fabric.db.any (fun d => decide (d.lsr.identity = fieldAt (pidArgs 5) 0 8)) = false ∧ u.fabric.assigning.isSome = true ∧
      (u.cmd 0x5020).state = .pending ∧ t.on K.proxyAdmit = true :=
  ⟨triggered_of _ _ _ _ _ .owner (by decide +kernel) (by decide +kernel) (by decide +kernel), by decide +kernel,
    triggered_of _ _ _ _ _ .owner (by decide +kernel) (by decide +kernel) (by decide +kernel), by decide +kernel, rfl,
    by decide +kernel, by decide +kernel⟩

/-- Whatever this switch's identity is, an assignment to it that the database does not hold reaches the switch itself. -/
theorem wit_RemotePid_own (h : Config.fabricIdentity < 2 ^ 64) :
    fieldAt (pidArgs Config.fabricIdentity) 0 8 = Config.fabricIdentity := by
  generalize Config.fabricIdentity = n at h ⊢
  simp only [pidArgs, fieldAt, toBytes]
  simp [ofBytes]
  omega

theorem wit_RemotePid_late :
    let s : State := { waits (opSt []) 0x5020 with fabric := { assigning := some (5, 77) } }
    s.nsAgo s.fabric.assignedAt < 10000000 ∧ 10000000 ≤ ({ s with clock := 82000 } : State).nsAgo s.fabric.assignedAt ∧
      (77 ≤ 4095 ∨ 77 = 0xFFFF) := by decide +kernel

theorem wit_RemotePid_delivery :
    let a : PidWrite := { pid := 77, origin := 5 }
    let b : PidWrite := { a with target := some 5 }
    (opSt []).on K.proxyAdmit = true ∧ (st [(K.proxyAdmit, 0)]).on K.proxyAdmit = false ∧ a.target = none ∧ a.pid ≤ 4095 ∧
      b.target = some 5 := by decide +kernel

/-- A session hears a command also where the block admits no proxied message. -/
theorem wit_RemotePid_refused :
    let e := wired { msg [1] with session := 9, alive := 1 } opCommand 0x5020 0x02 (some [7])
    let s := args (sessSt [(K.proxyAdmit, 0)]) 0x5020 (pidArgs 5)
    s.on K.proxyAdmit = false ∧ ∃ u, Heard s e opCommand 0x5020 0x02 .owner u :=
  ⟨by decide +kernel, heard_session _ _ _ _ _ (by decide +kernel) (by decide +kernel)⟩

/-- A probe from PID 9 to PID 9 or 77. -/
def probeArgs (dst : Nat) : List Byte := toBytes 2 9 ++ toBytes 2 dst ++ [0, 0]

theorem wit_Probe :
    let s := args (opSt ports) 0x5041 (probeArgs 9)
    let t := args (opSt ports) 0x5041 (probeArgs 77)
    Triggered s (msg [1]) 0x5041 (fun _ a => routeProbeChecks a) (probeArgs 9) s ∧ s.route 9 9 0 false false = .port 0 ∧
      Triggered t (msg [1]) 0x5041 (fun _ a => routeProbeChecks a) (probeArgs 77) t ∧ (∀ p, t.route 9 77 0 false false ≠ .port p) := by
  refine ⟨triggered_of _ _ _ _ _ .owner (by decide +kernel) (by decide +kernel) (by decide +kernel), by decide +kernel,
    triggered_of _ _ _ _ _ .owner (by decide +kernel) (by decide +kernel) (by decide +kernel), ?_⟩
  have h : (args (opSt ports) 0x5041 (probeArgs 77)).route 9 77 0 false false = .unroutable := by decide +kernel
  intro p; rw [h]; simp

/-- A message to a PID. -/
def fabricMsg (dst : Fin 4096) : FabricMsg := { src := 9, dst := dst, classByte := 0, kind := .memRead, payload := 0 }

theorem wit_Forward :
    let s := opSt (ports ++ [(K.fabricSwitchPid, 78)])
    s.forwarding = true ∧ s.route 9 77 0 false false = .unroutable ∧ s.route 9 9 0 false false = .port 0 ∧
      s.route 9 78 0 true true = .self ∧ s.refusesTraffic 0 = false ∧ s.isFabric 8 = true ∧ s.carries 8 = true ∧
      s.cameDown 8 true = true ∧ (opSt []).isFabric 8 = false ∧ (linkSt .retired).refusesTraffic 0 = true ∧
      (linkSt .retired).route 9 9 0 false false = .port 0 := by decide +kernel

theorem wit_Forward_over :
    let s := opSt (ports ++ [(K.fabricPortPids, 2 ^ 31 + 2 ^ 30 + 9)])
    s.route 9 77 0 true true = .unroutable ∧ s.route 9 9 0 true true = .port 0 ∧ s.refusesTraffic 0 = false ∧
      s.isFabric 8 = true ∧ s.carries 8 = true := by decide +kernel

/-! ## Telemetry -/

theorem wit_Counters : Heard (opSt []) { msg [] with row := 2040 } opRead 0x7002 0x01 .owner (opSt []) ∧
    ((opSt []).readRefusal 0x7002 0x01 = none ∧ (msg []).length = 0 ∧ 2040 < 2048) ∧ (opSt []).timesStand :=
  ⟨heard_of _ _ _ _ _ _ (by decide +kernel), by decide +kernel, by intro q h; cases h⟩

theorem wit_Snapshot :
    let a := toBytes 8 (9 * 1024)
    let s := args (opSt []) 0x7004 a
    let t : State := { s with beat := 9 }
    Triggered s (msg [1]) 0x7004 (fun s a => s.snapshotChecks a) a s ∧ s.afterCutoff (ofBytes a / 1024) = false ∧
      Triggered t (msg [1]) 0x7004 (fun s a => s.snapshotChecks a) a t ∧ t.afterCutoff (ofBytes a / 1024) = true ∧
      Triggered (opSt []) (msg [1]) 0x7005 (fun _ _ => {}) [] (opSt []) :=
  ⟨triggered_of _ _ _ _ _ .owner (by decide +kernel) (by decide +kernel) (by decide +kernel), by decide +kernel,
    triggered_of _ _ _ _ _ .owner (by decide +kernel) (by decide +kernel) (by decide +kernel), by decide +kernel,
    triggered_of _ _ _ _ _ .owner (by decide +kernel) (by decide +kernel) (by decide +kernel)⟩

theorem wit_Samples :
    let s : State := { opSt [] with tel := { samples := [(4, { number := 4 + 65536 }), (5, { number := 5, valid := true })] } }
    Tbl.find s.tel.samples ((4 + 65536) % 65536) = some { number := 4 + 65536 } ∧
      ({ number := 4 + 65536 } : Sample).valid = false ∧ Tbl.find s.tel.samples (5 % 65536) = some { number := 5, valid := true } ∧
      Tbl.find s.tel.samples (4 % 65536) = some { number := 4 + 65536 } ∧ (4 + 65536 + 2 ^ 32 - 4) % 2 ^ 32 < 2 ^ 31 ∧
      Tbl.find s.tel.samples ((4 + 2 * 65536) % 65536) = some { number := 4 + 65536 } ∧
      2 ^ 31 ≤ (4 + 65536 + 2 ^ 32 - (4 + 2 * 65536)) % 2 ^ 32 ∧ Tbl.find s.tel.samples (3 % 65536) = none ∧
      s.r K.telRecordsAbandoned + 1 < 2 ^ Schema.width K.telRecordsAbandoned := by decide +kernel

theorem wit_SampleTail :
    let s := opSt [(K.telSampleHead, 5)]
    Heard s (msg (toBytes 4 5)) opWrite 0x7000 0x06 .owner s ∧ (s.writeRefusal .owner 0x7000 0x06 = none ∧
      (5 + 2 ^ 32 - s.r K.telSampleTail) % 2 ^ 32 ≤ (s.r K.telSampleHead + 2 ^ 32 - s.r K.telSampleTail) % 2 ^ 32 ∧
      (s.r K.telSampleHead + 2 ^ 32 - s.r K.telSampleTail) % 2 ^ 32 < (6 + 2 ^ 32 - s.r K.telSampleTail) % 2 ^ 32 ∧
      (msg (toBytes 4 5)).payload.length = 4 ∧ (5 : Nat) = ofBytes (msg (toBytes 4 5)).payload) :=
  ⟨heard_of _ _ _ _ _ _ (by decide +kernel), by decide +kernel⟩

theorem wit_Mailbox : ((opSt []).on (K.tenantTelemetryGrant 3) = false ∧
    (opSt [(K.tenantTelemetryGrant 3, 1)]).on (K.tenantTelemetryGrant 3) = true ∧ (opSt []).r K.telSampleHead = 0) ∧
    (opSt [(K.tenantTelemetryGrant 3, 1)]).timesStand := ⟨by decide +kernel, by intro q h; cases h⟩

/-! ## Hot-plug slots -/

/-- Slot 2 of no port, in a channel state and with what lies beyond its objects, its output at a voltage. -/
def slotSt (x : ChannelState) (y : SlotSt) (out : Nat := 12000) : State :=
  { opSt [(K.slotChannelState 2, x.num), (K.slotPowerRequest 2, 1), (K.slotInputVoltage 2, 12000), (K.slotOutputVoltage 2, out)] with
    slots := [(2, y)] }

theorem wit_Presence : ((slotSt .empty {}).slot 2).long = false ∧ ((slotSt .empty {}).slot 2).short = false ∧
    (slotSt .empty {}).gatesOn 2 = false ∧ (slotSt .empty {}).chan 2 ≠ .retired ∧
    (slotSt .powered { hsg := true, long := true, short := true }).gatesOn 2 = true := by decide +kernel

theorem wit_Seated :
    let y : SlotSt := { long := true, short := true, changedAt := 1, count := 10001 }
    let s := slotSt .seating y
    (s.slot 2).long = true ∧ (s.slot 2).short = true ∧ (s.slot 2).seated = false ∧ s.device ≠ .boot ∧ s.device ≠ .hold ∧
      s.chan 2 = .seating ∧ (s.slot 2).changedAt + 10000 ≤ (s.slot 2).count ∧
      ((slotSt .seating { y with count := 10000 }).slot 2).count < 1 + 10000 := by decide +kernel

/-- A seated card whose time has come. -/
def seated : SlotSt := { long := true, short := true, seated := true, count := 10 ^ 6, offTime := 100000, inOk := 1000 }

theorem wit_Attempt (x : ChannelState) (h : x = .ready ∨ x = .retryWait ∨ x = .inputLow) :
    (slotSt x seated).chan 2 = x ∧ (slotSt x seated).device = .operational ∧
      max ((slotSt x seated).slot 2).seatedAt ((slotSt x seated).slot 2).requestAt + 100 * (slotSt x seated).r (K.slotStartDelay 2)
        ≤ ((slotSt x seated).slot 2).count ∧
      ((slotSt x seated).slot 2).offTime ≤ 10 * (((slotSt x seated).slot 2).count - ((slotSt x seated).slot 2).offAt) ∧
      1000 ≤ ((slotSt x seated).slot 2).inOk ∧ 10000 ≤ (slotSt x seated).r (K.slotInputVoltage 2) ∧
      (slotSt x seated).mayAttempt 2 = true ∧ (slotSt x { seated with seated := false }).mayAttempt 2 = false := by
  rcases h with rfl | rfl | rfl <;> decide +kernel

theorem wit_Drive :
    let s := slotSt .precharge { pcg := true }
    let t := slotSt .ramp { hsg := true, count := 300, driveAt := 200 }
    s.chan 2 = .precharge ∧ s.outputUp 2 = true ∧ t.chan 2 = .ramp ∧ t.outputNear 2 = true ∧ (t.slot 2).hsg = true ∧
      (t.slot 2).driveAt + 100 ≤ (t.slot 2).count ∧ ((slotSt .fullDrive { hsg := true }).slot 2).hsg = true ∧
      ((slotSt .fullDrive { hsg := true }).slot 2).count < ((slotSt .fullDrive { hsg := true }).slot 2).driveAt + 100 := by
  decide +kernel

/-- What a good sample measures. -/
def good : SlotMeas := { sense := 0, output := 12000, input := 12000, hsgAboveOut := 5000 }

theorem wit_Sample :
    let s := slotSt .fullDrive { hsg := true, attempt := true }
    (false = (s.gatesOn 2 && decide (s.r (K.slotLimitThreshold 2) * 100 ≤ good.sense))) ∧ s.slotPort 2 = none ∧
      s.chan 2 = .fullDrive ∧ good.input % 65536 * s.r (K.slotPgThreshold 2) ≤ good.output % 65536 * 100 ∧
      4000 ≤ good.hsgAboveOut ∧ s.on (K.slotPowerGood 2) = false := by decide +kernel

theorem wit_Good (n : Nat) (h : n = 9999 ∨ n = 10000 ∨ n = 100000) :
    let s : State := { opSt [(K.slotPowerGood 2, 1)] with slots := [(2, { count := n })] }
    s.on (K.slotPowerGood 2) = true ∧ (s.slot 2).count = n ∧ (s.slot 2).goodAt = 0 := by
  rcases h with rfl | rfl | rfl <;> decide +kernel

theorem wit_PowerRequest :
    let s := slotSt .powered { hsg := true }
    Heard s (msg [1]) opWrite (0x7800 + 2) 0x01 .owner s ∧ Heard s (msg [0]) opWrite (0x7800 + 2) 0x01 .owner s ∧
      (s.writeRefusal .owner (0x7800 + 2) 0x01 = none ∧ s.chan 2 ≠ .retired ∧ s.slotPort 2 = none ∧ s.on (K.slotPowerGood 2) = false ∧
        (slotSt .retired {}).chan 2 = .retired ∧ (slotSt .retired {}).writeRefusal .owner (0x7800 + 2) 0x01 = none) :=
  ⟨heard_of _ _ _ _ _ _ (by decide +kernel), heard_of _ _ _ _ _ _ (by decide +kernel), by decide +kernel⟩

theorem wit_Trips :
    let s := slotSt .fullDrive { hsg := true, timer := 1000000, driveAt := 100, count := 300, hsgReached := false }
    let p := slotSt .precharge { pcg := true, attempt := true, onSamples := 10 ^ 6 } 0
    let r := slotSt .ramp { hsg := true, attempt := true, onSamples := 10 ^ 6 } 0
    let f := slotSt .ready { outHigh := 1000 }
    s.gatesOn 2 = true ∧ s.r (K.slotFaultTime 2) * 10 ≤ (s.slot 2).timer ∧ s.slotPort 2 = none ∧ s.chan 2 ≠ .retired ∧
      s.r (K.slotRetriesUsed 2) < s.r (K.slotRetryLimit 2) ∧ p.chan 2 = .precharge ∧
      100 * p.r (K.slotPrechargeTimeout 2) ≤ (p.slot 2).onSamples ∧ p.outputUp 2 = false ∧
      r.chan 2 = .ramp ∧ (r.slot 2).regulating = false ∧ r.rampLimit 2 ≤ r.onTime 2 ∧ r.outputNear 2 = false ∧
      s.chan 2 = .fullDrive ∧ (s.slot 2).driveAt + 200 ≤ (s.slot 2).count ∧ (s.slot 2).hsgReached = false ∧
      f.gatesOn 2 = false ∧ f.chan 2 ≠ .retired ∧ 1000 ≤ (f.slot 2).outHigh := by decide +kernel

theorem wit_Trips_early :
    let s := slotSt .ramp {}
    (s.slot 2).onSamples < 100 * s.r (K.slotPrechargeTimeout 2) ∧ (s.slot 2).timer < s.r (K.slotFaultTime 2) * 10 ∧
      s.onTime 2 < s.rampLimit 2 ∧ (s.slot 2).count < (s.slot 2).driveAt + 200 ∧ (s.slot 2).outHigh < 1000 ∧
      (s.slot 2).inLow < 2 ∧ (s.slot 2).shortGone < 2 ∧ s.device ≠ .boot ∧ s.device ≠ .hold ∧ State.reset.device = .boot := by
  decide +kernel

theorem wit_FastTrip :
    let s := slotSt .fullDrive { hsg := true }
    let limit := s.r (K.slotFastTripMultiple 2) * s.r (K.slotLimitThreshold 2) * 100
    s.gatesOn 2 = true ∧ limit < ({ slot := 2, sense := limit + 1 } : SlotPeak).sense ∧ s.slotPort 2 = none ∧
      s.chan 2 ≠ .retired ∧ s.r (K.slotRetriesUsed 2) < s.r (K.slotRetryLimit 2) ∧ (slotSt .ready {}).gatesOn 2 = false ∧
      ({ slot := 2, sense := limit } : SlotPeak).sense ≤ limit := by decide +kernel

theorem wit_Trips_last :
    let s : State := { opSt [(K.slotChannelState 2, ChannelState.num .fullDrive), (K.slotRetriesUsed 2, 4), (K.slotRetryLimit 2, 4)] with
      slots := [(2, { hsg := true })] }
    s.gatesOn 2 = true ∧ s.r (K.slotRetryLimit 2) ≤ s.r (K.slotRetriesUsed 2) ∧ s.r (K.slotRetryLimit 2) ≠ 255 ∧
      s.chan 2 ≠ .retired ∧ s.slotPort 2 = none := by decide +kernel

theorem wit_Lost :
    let s : State := { opSt [(K.slotChannelState 2, ChannelState.num .powered), (K.slotAssociatedPort 2, 0), (K.slotPowerGood 2, 1)] with
      slots := [(2, { hsg := true, shortGone := 2 })] }
    let t := slotSt .powered { hsg := true, inLow := 2, shortGone := 2 }
    s.gatesOn 2 = true ∧ s.slotPort 2 = some 0 ∧ s.on (K.slotPowerGood 2) = true ∧ 2 ≤ (s.slot 2).shortGone ∧
      t.gatesOn 2 = true ∧ t.slotPort 2 = none ∧ t.chan 2 ≠ .retired ∧ 2 ≤ (t.slot 2).inLow ∧ 2 ≤ (t.slot 2).shortGone := by
  decide +kernel

/-! ## Ill-formed commands -/

/-- A well-formed message for the tests that spoil one field of it. -/
theorem wf_msg : (msg [1, 2, 3]).wf = true := by decide
theorem test_ill_version : (Instr.store { msg [] with version := 256 }).wf = false := by decide
theorem test_ill_flags : (Instr.store { msg [] with flags := 256 }).wf = false := by decide
theorem test_ill_alive : (Instr.store { msg [] with alive := 256 }).wf = false := by decide
theorem test_ill_session : (Instr.store { msg [] with session := 2 ^ 32 }).wf = false := by decide
theorem test_ill_segment : (Instr.store { msg [] with segment := 65536 }).wf = false := by decide
theorem test_ill_length : (Instr.store { msg [] with length := 65536 }).wf = false := by decide
theorem test_ill_target : (Instr.store { msg [] with proxyTarget := 65536 }).wf = false := by decide
theorem test_ill_row : (Instr.store { msg [] with row := 2 ^ 32 }).wf = false := by decide
theorem test_ill_payload : (Instr.store (msg [1, 256])).wf = false := by decide
theorem test_ill_tag : (Instr.store { msg [] with tag := 2 ^ 128 }).wf = false := by decide
theorem test_ill_crc : (Instr.store { msg [] with crc := 2 ^ 32 }).wf = false := by decide
theorem test_ill_echo : (Instr.store { msg [] with echo := 256 }).wf = false := by decide
theorem test_ill_abort : (Instr.store { msg [] with abort := 65536 }).wf = false := by decide
theorem test_ill_index : (Instr.registerWrite (msg [1]) 65536 0).wf = false := by decide
theorem test_ill_sub : (Instr.registerWrite (msg [1]) 0x1100 256).wf = false := by decide
theorem test_ill_read_block : (Instr.readBlock (msg []) 65536 0).wf = false := by decide
theorem test_ill_write_block : (Instr.writeBlock (msg []) 65536 0).wf = false := by decide
theorem test_ill_proxied_op : (Instr.proxyRequest (msg []) 256 0x1000 1).wf = false := by decide
theorem test_ill_proxied_index : (Instr.proxyRequest (msg []) 1 65536 1).wf = false := by decide
theorem test_ill_answer_abort : (Instr.proxyAnswer 0 65536 { bytes := [] }).wf = false := by decide
theorem test_ill_answer_payload : (Instr.proxyAnswer 0 0 { bytes := [256] }).wf = false := by decide
theorem test_ill_check_data : (Instr.checkComputeComplete [256] false).wf = false := by decide
theorem test_ill_limit : (Instr.setResponseMessageLimit .i3c 256).wf = false := by decide
theorem test_ill_tunnel_target : (Instr.tunnelManagementCommand .i3c 65536 0 []).wf = false := by decide
theorem test_ill_tunnel_opcode : (Instr.tunnelManagementCommand .i3c 0 65536 []).wf = false := by decide
theorem test_ill_tunnel_payload : (Instr.tunnelManagementCommand .i3c 0 0 [256]).wf = false := by decide
theorem test_ill_other_opcode : (Instr.fmApiOtherCommand .i3c 65536).wf = false := by decide
theorem test_ill_beat_number : (Instr.linkBeat 0 (2 ^ 48) 0 0 0).wf = false := by decide
theorem test_ill_beat_offset : (Instr.linkBeat 0 0 65536 0 0).wf = false := by decide
theorem test_ill_temperatures : (Instr.temperatureReading [0]).wf = false := by decide
theorem test_ill_hello_identity : (Instr.fabricHelloReceive 0 ⟨2 ^ 64, 0, 0, 0, 0⟩).wf = false := by decide
theorem test_ill_hello_pid : (Instr.fabricHelloReceive 0 ⟨0, 4096, 0, 0, 0⟩).wf = false := by decide
theorem test_ill_hello_port : (Instr.fabricHelloReceive 0 ⟨0, 0, 96, 0, 0⟩).wf = false := by decide
theorem test_ill_lsr_identity : (Instr.lsrReceive 0 { peer with identity := 2 ^ 64 }).wf = false := by decide
theorem test_ill_lsr_pid : (Instr.lsrReceive 0 { peer with switchPid := 65536 }).wf = false := by decide
theorem test_ill_lsr_links : (Instr.lsrReceive 0 { peer with links := List.replicate 97 ⟨0, none, 0, false, 0, 0, 0⟩ }).wf = false := by decide
theorem test_ill_lsr_sequence : (Instr.lsrReceive 0 { peer with sequence := 2 ^ 32 }).wf = false := by decide
theorem test_ill_lsr_stamp : (Instr.lsrReceive 0 { peer with stamp := 2 ^ 48 }).wf = false := by decide
theorem test_ill_dpa : (Instr.memRequestIngress 4 { read with dpa := 2 ^ 64 }).wf = false := by decide
theorem test_ill_hpa : (Instr.memRequestIngress 4 { read with hpa := 2 ^ 64 }).wf = false := by decide
theorem test_ill_tlp_address : (Instr.tlpIngress 4 { tlp with addr := 2 ^ 64 }).wf = false := by decide
theorem test_ill_tlp_routing : (Instr.tlpIngress 4 { tlp with routingId := 65536 }).wf = false := by decide
theorem test_ill_tlp_register : (Instr.tlpIngress 4 { tlp with register := 4096 }).wf = false := by decide
theorem test_ill_tlp_bytes : (Instr.tlpIngress 4 { tlp with bytes := 4097 }).wf = false := by decide
theorem test_ill_attrs : (Instr.tlpIngress 4 { tlp with attrs := 4 }).wf = false := by decide
theorem test_ill_class : (Instr.fabricForward none false { fabricMsg 9 with classByte := 256 }).wf = false := by decide
theorem test_well_formed : (Instr.memRequestIngress 4 read).wf = true ∧ (Instr.registerWrite (msg [1]) 0x1100 2).wf = true := by decide

/-! ## The table gives no bits; check values of the standards that the spec names -/

theorem test_no_word (n w : Nat) : decodeTableWord n w = none := rfl

/-- The nine bytes whose check values the standards publish. -/
def digits : List Byte := [49, 50, 51, 52, 53, 54, 55, 56, 57]
theorem test_crc32 : crc32 digits = 0xCBF43926 := by decide +kernel
theorem test_crc32c : crc32c digits = 0xE3069283 := by decide +kernel
theorem test_crc64 : crc64Run 0 digits = 0x6C40DF5F0B497347 := by decide +kernel
theorem test_crc16 : crc16Run 0 digits = 0x31C3 := by decide +kernel
theorem test_sha256 : sha256 [97, 98, 99] = toBytes 32 0xBA7816BF8F01CFEA414140DE5DAE2223B00361A396177A9CB410FF61F20015AD := by
  decide +kernel

/-! ## The package (18) -/

/-- How many balls of the map a test holds of. -/
def balls (p : Ball → Bool) : Nat :=
  sumOf ((upTo 90).map (fun r => ((upTo 90).filter (fun c => p (ballAt (r + 1) (c + 1)))).length))

/-- The counts of Table 18-2. -/
theorem test_balls_lanes : balls (fun b => match b with | .lane _ _ _ => true | _ => false) = 1632 := by decide +kernel
theorem test_balls_vss : balls (fun b => decide (b = .vss)) = 4283 := by decide +kernel

/-- The worked example of R338: lane 213. -/
theorem test_lane_213 : laneBall 213 false false = (90, 72) ∧ laneBall 213 false true = (90, 71) ∧
    laneBall 213 true false = (88, 72) ∧ laneBall 213 true true = (88, 71) := by decide

/-- The sums and the example of R344, and the lid's limits of R346. -/
theorem test_power : maxPower = 539964 ∧ typicalPower (List.replicate 192 (some 5) ++ List.replicate 216 none) 40 = 270240 ∧
    lidLimit 540000 = 83400 ∧ lidLimit 270200 = 94192 := by decide +kernel

end Sys2Proof.Tests
end

section
/-! Every command answers in one of two ways: it leaves Quartz's time alone, or it names a tick of the beat (R46). From this
the step lemma: the block goes on and stays in its beat. -/

namespace Sys2Proof.Machine

/-- The answer to a command that leaves Quartz's time alone: its effect, where its message, if it carries one, holds bytes. -/
def effectFor (m : Option JdpEnv) (f : State → State) (s : State) : Res :=
  match m with
  | none => effect f s
  | some e => effectOf e f s

/-- A command that carries no message, or one of bytes, keeps Quartz's time where its answer is its effect. -/
theorem keepsTime_effectFor {m : Option JdpEnv} (f : State → State) (s : State)
    (h : ∀ e, m = some e → bytesOk e.payload = true) : KeepsTime (effectFor m f s) s := by
  cases m with
  | none => exact keepsTime_effect f s
  | some e => exact keepsTime_effectOf e f s (h e rfl)

/-- The two ways in which a command with message `m` answers `r` in `s`; the second is open only under `P`. -/
inductive Answers (m : Option JdpEnv) (P : Prop) (s : State) (r : Res) : Prop where
  | steady (f : State → State) (h : r = effectFor m f s)
  | timed (n t : Nat) (f : State → State) (hp : P) (h : r = clocked n t f s) (ht : s.tick < 1024 → t < 1024)

/-- The commands that may move Quartz's time: those of the beat, the load of firmware and a reset, also as a COMMAND to
StateRequest (0x1004) that is relayed. -/
def MovesTime (c : Instr) : Prop :=
  match c with
  | .pwronRstNAssert | .fwLoadComplete | .sourceJudgement | .beatBoundary | .armingCutoff | .applyPreparation
  | .beatReacquireAdopt _ | .notificationDeadline | .stateRequestStart _ | .stateRequestStop _ | .stateRequestReset _ => True
  | .proxyRequest _ op i _ => op % 256 = 0x05 ∧ i % 65536 = 0x1004
  | _ => False

/-- An answer that names a tick of the beat under a guard, and otherwise leaves the time alone. -/
theorem answers_ite {P b : Prop} [Decidable b] {s : State} {n t : Nat} {f g : State → State} (hp : P)
    (ht : s.tick < 1024 → t < 1024) : Answers none P s (if b then clocked n t f s else effect g s) := by
  split
  · exact .timed n t f hp rfl ht
  · exact .steady g rfl

/-- A COMMAND to StateRequest moves the time only by a reset, to tick 0 (log entry 42). -/
theorem requestState_answers {P : Prop} (hp : P) (env : JdpEnv) (s : State) :
    Answers (some env) P s (requestState env s) := by
  unfold requestState
  split
  · exact .timed 0 0 _ hp rfl (fun _ => by omega)
  · exact .steady _ rfl

/-- BEAT_REACQUIRE_ADOPT leaves the time alone, but for a number that is adopted, which begins a beat at tick 0 (R56). -/
theorem execBeatReacquireAdopt_answers {P : Prop} (hp : P) (src : BeatSrc) (s : State) :
    Answers none P s (execBeatReacquireAdopt src s) := by
  unfold execBeatReacquireAdopt
  split
  · exact .steady (fun s => s) rfl
  next n _ =>
    split
    · exact .steady (fun s => s.endReacquire n n) rfl
    · exact .timed n 0 _ hp rfl (fun _ => by omega)

/-- A COMMAND (R26) moves the time only where it is one to StateRequest. -/
theorem runCommand_answers {P : Prop} (env : JdpEnv) (i sub : Nat) (s : State) (hp : i = 0x1004 → P) :
    Answers (some env) P s (runCommand env i sub s) := by
  unfold runCommand
  split
  case h_1 hi =>
    have : i = 0x1004 := by split at hi <;> omega
    exact requestState_answers (hp this) env s
  all_goals exact .steady _ rfl

/-- A message to the server moves the time only where it is a COMMAND to StateRequest. -/
theorem execProxyRequest_answers (env : JdpEnv) (op i b : Nat) (s : State) :
    Answers (some env) (op % 256 = 0x05 ∧ i % 65536 = 0x1004) s (execProxyRequest env op i b s) := by
  unfold execProxyRequest
  split
  case h_5 hop => exact runCommand_answers env _ _ s (fun hi => ⟨hop, hi⟩)
  all_goals exact .steady _ rfl

/-- What any command answers: it leaves the time alone, or it is one of those that name a tick of the beat. -/
theorem exec_answers (c : Instr) (s : State) : Answers c.env (MovesTime c) s (exec c s) := by
  cases c
  case pwronRstNAssert => exact .timed 0 0 _ trivial rfl (fun _ => by omega)
  case fwLoadComplete => exact answers_ite trivial (fun _ => by omega)
  case stateRequestStart env => exact requestState_answers trivial env s
  case stateRequestStop env => exact requestState_answers trivial env s
  case stateRequestReset env => exact requestState_answers trivial env s
  case proxyRequest env op i b => exact execProxyRequest_answers env op i b s
  case sourceJudgement =>
    have ht : s.judgeTick < 1024 := by unfold State.judgeTick; omega
    exact answers_ite trivial (fun _ => ht)
  case beatBoundary => exact answers_ite trivial (fun _ => by omega)
  case armingCutoff =>
    have ht : s.cutoffTick < 1024 := by unfold State.cutoffTick; omega
    exact answers_ite trivial (fun _ => ht)
  case applyPreparation => exact answers_ite trivial (fun h => by omega)
  case beatReacquireAdopt src => exact execBeatReacquireAdopt_answers trivial src s
  case notificationDeadline => exact answers_ite trivial (fun _ => by omega)
  all_goals exact .steady _ rfl

/-- A well-formed command goes on from a tick of the beat to a tick of the beat, with the queue as it was. -/
theorem exec_staysInBeat {c : Instr} {s : State} (hc : c.wf = true) (hs : s.tick < 1024) :
    ∃ t, exec c s = .next t ∧ t.pending = s.pending ∧ t.tick < 1024 := by
  cases exec_answers c s with
  | steady f h =>
    have bytes : ∀ e, c.env = some e → bytesOk e.payload = true := fun e he => (Laws.Message.of_wf c hc e he).2
    obtain ⟨t, ht, hq, -, htick, -⟩ := keepsTime_effectFor f s bytes
    exact ⟨t, h.trans ht, hq, htick ▸ hs⟩
  | timed n m f _ h hm =>
    obtain ⟨t, ht, -, hq, -, htick, -⟩ := clocked_any n m f s
    exact ⟨t, h.trans ht, hq, htick ▸ hm hs⟩

/-- Settles O3: an idle step keeps the tick below 1,024, and a waiting command, which is well formed, goes on with the rest
of the queue. -/
theorem everyStepGoesOnAndStaysInTheBeat : Obligations.EveryStepGoesOnAndStaysInTheBeat := by
  intro s ⟨htick, hwf⟩
  cases hp : s.pending with
  | nil =>
    obtain ⟨hq, -, ht⟩ := State.idle_ok htick
    exact ⟨s.idle, step_idle hp, ht, by simp [hq, hp]⟩
  | cons c rest =>
    rw [hp, List.forall_mem_cons] at hwf
    obtain ⟨t, he, hq, ht⟩ := exec_staysInBeat (s := { s with pending := rest }) hwf.1 htick
    exact ⟨t, (step_front c rest hp).trans he, ht, hq ▸ hwf.2⟩

/-- Settles O4: the model's reset state starts at tick 0 with an empty queue. -/
theorem resetIsInTheBeat : Obligations.ResetIsInTheBeat :=
  ⟨Nat.zero_lt_succ 1023, List.forall_mem_nil _⟩

end Sys2Proof.Machine
end

section
/-! How the objects of lanes and ports are told apart, and what the operations of the link layer leave as it was (04). -/

namespace Sys2Proof.Machine

/-! ## Objects, links and ports -/

/-- Objects with different sub-indices are different, whatever their units. -/
theorem obj_ne {i j a b : Nat} (h : a % 256 ≠ b % 256 := by decide) : obj i a ≠ obj j b := by
  unfold obj; omega

/-- A link state's number names that state. -/
@[simp] theorem LinkState.ofNum_num (l : LinkState) : LinkState.ofNum l.num = l := by cases l <;> rfl

/-- A command answers its effect's state u, with the queue and the time of s. -/
theorem exec_shows {r : Res} {f : State → State} {s u : State} {P : State → Prop} (he : r = effect f s) (hu : f s = u)
    (hP : ∀ t, SameBut [.queue, .time] u t → (∀ l, SameBut l s u → SameBut l s t) → P t) : ∃ t, r = .next t ∧ P t := by
  subst he hu
  exact effect_intro fun t h q => hP t q fun _ hl => hl.after h q

/-- A command whose event cannot happen changes nothing (log entry 3). -/
theorem exec_idle {r : Res} {f : State → State} {s : State} (he : r = effect f s) (h : f s = s) :
    ∃ t, r = .next t ∧ SameBut [] s t :=
  exec_shows he h fun _ _ keep => keep _ (.refl _ s)

variable {s t : State} {p : Nat}

/-- A step taken under a condition changes no more than the step. -/
theorem SameBut.ite {l : List Part} {c : Prop} [Decidable c] (h : SameBut l s t) : SameBut l s (if c then t else s) := by
  split
  · exact h
  · exact .refl l s

/-- What a port holds follows from the table of the ports alone. -/
theorem State.port_of_ports (h : t.ports = s.ports) (p : Nat) : t.port p = s.port p := by simp [State.port, h]

/-- Whether a port exists follows from its slice's mode alone. -/
theorem State.portExists_congr (hm : t.r (K.sliceMode (sliceOf p)) = s.r (K.sliceMode (sliceOf p))) :
    t.portExists p = s.portExists p := by
  unfold State.portExists State.sliceMode
  rw [hm]

/-- A port's link follows from its LinkState and its slice's mode alone. -/
theorem State.link_congr (hm : t.r (K.sliceMode (sliceOf p)) = s.r (K.sliceMode (sliceOf p)))
    (hl : t.r (K.portLinkState p) = s.r (K.portLinkState p)) : t.link p = s.link p := by
  simp [State.link, State.portExists_congr hm, hl]

/-- A port that shows a link state other than UNUSED exists. -/
theorem State.portExists_of_link {l : LinkState} (h : s.link p = l) (hl : l ≠ .unused := by decide) :
    s.portExists p = true := by
  cases hx : s.portExists p with
  | true => rfl
  | false => exact absurd (by rw [← h, State.link, hx]; rfl) hl

/-- A port that exists shows the link state of its object. -/
theorem State.link_eq {l : LinkState} (hx : s.portExists p = true)
    (hm : t.r (K.sliceMode (sliceOf p)) = s.r (K.sliceMode (sliceOf p))) (hl : t.r (K.portLinkState p) = l.num) :
    t.link p = l := by
  simp [State.link, (State.portExists_congr hm).trans hx, hl]

/-- The port that a lane serves follows from the modes of the slices alone. -/
theorem State.laneport_congr (hm : ∀ n, t.r (K.sliceMode n) = s.r (K.sliceMode n)) (n : Nat) :
    t.laneport n = s.laneport n := by
  unfold State.laneport State.sliceMode
  simp only [hm]

/-- Whether a source can occur follows from the modes of the slices alone. -/
theorem State.canOccur_congr (hm : ∀ n, t.r (K.sliceMode n) = s.r (K.sliceMode n)) (k : Nat) :
    t.canOccur k = s.canOccur k := by
  have hx (p : Nat) : t.portExists p = s.portExists p := State.portExists_congr (hm _)
  simp [State.canOccur, hx]

/-- A counter that stays within its size counts. -/
theorem State.r_bump_self {k n : Nat} (h : s.r k + n < 2 ^ Schema.width k) : (s.bump k n).r k = s.r k + n := by
  rw [s.bump_in k n h, State.r_w_self]

/-- What every step of a fold leaves alone, the fold leaves alone. -/
theorem State.each_keeps {α β : Type} (g : State → β) (f : State → α → State) (h : ∀ u x, g (f u x) = g u) (xs : List α)
    (s : State) : g (s.each xs f) = g s := by
  unfold State.each
  induction xs generalizing s with
  | nil => rfl
  | cons x xs ih => exact (ih (f s x)).trans (h s x)

/-- An occurrence that a command reports joins those that wait (R266). -/
theorem occur_shows {r : Res} {f : State → State} {k : Nat} (he : r = effect f s) (hu : f s = s.occur k)
    (ho : s.canOccur k = true) (hp : (Tbl.getD s.onyx.pend k []).length < 255) :
    ∃ t, r = .next t ∧ Tbl.getD t.onyx.pend k [] = Tbl.getD s.onyx.pend k [] ++ [plainReport k] ∧ SameBut [.onyx] s t :=
  exec_shows he hu fun _ q keep => ⟨q.onyx ▸ s.occurWith_pend k _ ho hp, keep _ (s.same_occur k)⟩

/-! ## What counting, credit timers and records change (R97, R233, R284) -/

theorem State.same_tel (s : State) (x : Telemetry) : SameBut [.tel] s { s with tel := x } := by
  intro q hq
  cases q with
  | tel => simp at hq
  | time => exact ⟨rfl, rfl, rfl⟩
  | _ => rfl

theorem State.same_core (s : State) (x : CoreSt) : SameBut [.core] s { s with core := x } := by
  intro q hq
  cases q with
  | core => simp at hq
  | time => exact ⟨rfl, rfl, rfl⟩
  | _ => rfl

theorem State.same_fabric (s : State) (x : Fabric) : SameBut [.fabric] s { s with fabric := x } := by
  intro q hq
  cases q with
  | fabric => simp at hq
  | time => exact ⟨rfl, rfl, rfl⟩
  | _ => rfl

/-- An event that is counted changes telemetry alone. -/
theorem State.same_count (s : State) (ev n : Nat) (e : EventOf) : SameBut [.tel] s (s.count ev n e) :=
  s.same_each _ _ (fun u _ => u.same_tel _) _

theorem State.same_accrueStalls (s : State) (p : Nat) : SameBut [.tel, .ports] s (s.accrueStalls p) :=
  s.same_each _ _ (fun u _ => (u.same_count _ _ _).then (State.same_modPort _ _ _)) _

/-- Watching credits changes the port's timers and counts the time that they ran. -/
theorem State.same_creditWatch (s : State) (p : Nat) : SameBut [.tel, .ports] s (s.creditWatch p) := by
  unfold State.creditWatch
  refine SameBut.then (l := [.tel, .ports]) ?_ (State.same_modPort _ _ _)
  split
  · exact .refl _ s
  · exact s.same_accrueStalls p

/-- A flooded record waits in the egress buffers (R231). -/
theorem State.same_flood (s : State) (l : Lsr) (but : Option Nat) : SameBut [.core] s (s.flood l but) :=
  s.same_each _ _ (fun u _ => u.same_core _) _

/-- A record that is originated changes the fabric's records and is flooded (R233). -/
theorem State.same_originate (s : State) : SameBut [.fabric, .core] s s.originate := by
  unfold State.originate
  split
  · exact (s.same_fabric _).then (State.same_flood _ _ _)
  · split
    · exact .refl _ s
    · exact (s.same_fabric _).then (State.same_flood _ _ _)

/-! ## What has been sent stays sent -/

/-- What has been sent stays sent where a session is told something. -/
theorem State.mem_out_tell {o : Out} {id : Nat} {m : JdpSent} (h : o ∈ s.out) : o ∈ (s.tell id m).out := by
  unfold State.tell
  split
  · exact List.mem_append_left _ h
  · exact h

/-- What has been sent stays sent in a fold whose steps keep it. -/
theorem State.mem_out_each {α : Type} {o : Out} (f : State → α → State) (hf : ∀ u x, o ∈ u.out → o ∈ (f u x).out)
    (xs : List α) (s : State) (h : o ∈ s.out) : o ∈ (s.each xs f).out := by
  unfold State.each
  induction xs generalizing s with
  | nil => exact h
  | cons x xs ih => exact ih (f s x) (hf s x h)

/-- What has been sent stays sent where a command ends. -/
theorem State.mem_out_cmdDone {o : Out} {i : Nat} {r : List Byte} (h : o ∈ s.out) : o ∈ (s.cmdDone i r).out := by
  unfold State.cmdDone
  split
  · refine State.mem_out_each _ (fun u x hu => ?_) _ _ h
    split
    · exact State.mem_out_tell hu
    · exact hu
  · exact h

/-- What an accepted command has sent is sent in its answer. -/
theorem Triggered.mem_out {u : State} {e : JdpEnv} {i : Nat} {checks : State → List Byte → CmdChecks} {args : List Byte}
    (h : Triggered s e i checks args u) {run : State → List Byte → State} {o : Out}
    (ho : o ∈ (run (u.accept e i) args).out) (ht : effectOf e (fun s => s.trigger e i checks run) s = .next t) :
    o ∈ t.out := by
  cases (h.done run).symm.trans ht
  exact (State.reply_out _ e opCommand i 2 0 [] false) ▸ List.mem_append_left _ ho

end Sys2Proof.Machine
end

section
/-! The events of lanes (04; R81 to R83, R87). -/

namespace Sys2Proof.Machine

/-- The state in which a loss of signal on lane n has been counted and is shown. -/
def State.signalLost (s : State) (n : Nat) : State :=
  (s.bump (K.laneLosCount n) 1).modPort (s.laneport n) (fun x =>
    { x with lostLanes := if x.lostLanes.contains n then x.lostLanes else x.lostLanes ++ [n] })

theorem State.same_signalLost (s : State) (n : Nat) : SameBut [.regs, .freeCtr, .ports] s (s.signalLost n) :=
  (s.same_bump _ _).then (State.same_modPort _ _ _)

theorem State.mem_signalLost (s : State) (n : Nat) : n ∈ ((s.signalLost n).port (s.laneport n)).lostLanes := by
  rw [State.signalLost, State.port_modPort]
  dsimp only
  split
  next h => exact List.contains_iff_mem.1 h
  · exact List.mem_concat_self

/-- LOSS_OF_SIGNAL on a lane that is not in electrical idle. -/
theorem lossOfSignal_counts (s : State) (n : LaneId) (hq : s.laneQuiet n.val = false) :
    ∃ t, exec (.lossOfSignal n) s = .next t ∧ n.val ∈ (t.port (s.laneport n.val)).lostLanes ∧
      (s.r (K.laneLosCount n.val) + 1 < 2 ^ Schema.width (K.laneLosCount n.val) →
        t.r (K.laneLosCount n.val) = s.r (K.laneLosCount n.val) + 1) ∧
      (s.link (s.laneport n.val) ≠ .active → t.onyx = s.onyx) ∧ SameBut [.regs, .freeCtr, .ports, .onyx] s t := by
  let v := s.signalLost n.val
  have hv := s.same_signalLost n.val
  refine exec_shows (exec_lossOfSignal s n)
    (u := if v.link (s.laneport n.val) = .active then v.occur (Src.lane n.val 1) else v)
    (if_neg (by simp [hq])) fun t q keep => ?_
  have hu := SameBut.ite (c := v.link (s.laneport n.val) = .active) (v.same_occur (Src.lane n.val 1))
  have ht : SameBut [.onyx, .queue, .time] v t := hu.then q
  refine ⟨?_, fun hc => ?_, fun hl => ?_, keep _ (hv.then hu)⟩
  · rw [State.port_of_ports ht.ports]
    exact s.mem_signalLost n.val
  · rw [ht.r]
    exact State.r_bump_self hc
  · have hlink : v.link (s.laneport n.val) = s.link (s.laneport n.val) :=
      State.link_congr (s.r_bump_ne obj_ne 1) (s.r_bump_ne obj_ne 1)
    rw [if_neg (hlink ▸ hl)] at q
    exact q.onyx.trans hv.onyx

/-- LOSS_OF_LOCK on a lane of an ACTIVE port that is not in electrical idle. -/
theorem lossOfLock_reports (s : State) (n : LaneId) (hl : s.link (s.laneport n.val) = .active)
    (hq : s.laneQuiet n.val = false) (ho : s.canOccur (Src.lane n.val 1) = true)
    (hp : (Tbl.getD s.onyx.pend (Src.lane n.val 1) []).length < 255) :
    ∃ t, exec (.lossOfLock n) s = .next t ∧
      Tbl.getD t.onyx.pend (Src.lane n.val 1) []
        = Tbl.getD s.onyx.pend (Src.lane n.val 1) [] ++ [plainReport (Src.lane n.val 1)] ∧
      (s.r (K.laneLolCount n.val) + 1 < 2 ^ Schema.width (K.laneLolCount n.val) →
        t.r (K.laneLolCount n.val) = s.r (K.laneLolCount n.val) + 1) ∧
      (∀ k, k ≠ K.laneLolCount n.val → t.r k = s.r k) ∧ SameBut [.regs, .freeCtr, .onyx] s t := by
  let v := s.bump (K.laneLolCount n.val) 1
  have hv : SameBut [.regs, .freeCtr] s v := s.same_bump _ _
  have hport : v.laneport n.val = s.laneport n.val := State.laneport_congr (fun _ => s.r_bump_ne obj_ne 1) _
  have hlink : v.link (v.laneport n.val) = .active :=
    hport ▸ (State.link_congr (s.r_bump_ne obj_ne 1) (s.r_bump_ne obj_ne 1)).trans hl
  have hcan : v.canOccur (Src.lane n.val 1) = true := (State.canOccur_congr (fun _ => s.r_bump_ne obj_ne 1) _).trans ho
  have hu := v.same_occur (Src.lane n.val 1)
  refine exec_shows (exec_lossOfLock s n) (u := v.occur (Src.lane n.val 1))
    ((if_neg (by simp [hq])).trans (if_pos hlink)) fun t q keep => ?_
  have ht : SameBut [.onyx, .queue, .time] v t := hu.then q
  refine ⟨?_, fun hc => ?_, fun k hk => ?_, keep _ (hv.then hu)⟩
  · rw [q.onyx, ← hv.onyx]
    exact v.occurWith_pend _ _ hcan (by rwa [hv.onyx])
  · exact (ht.r _).trans (State.r_bump_self hc)
  · exact (ht.r k).trans (s.r_bump_ne hk 1)

/-- The state in which the margins of a scan of lane n are shown (R82). -/
def State.marginsShown (s : State) (n h v : Nat) : State :=
  ((s.w (K.laneMarginH n) (h % 65536)).w (K.laneMarginV n) (v % 65536)).w (K.laneScanTime n) s.now

theorem State.same_marginsShown (s : State) (n h v : Nat) : SameBut [.regs] s (s.marginsShown n h v) :=
  ((s.same_w _ _).trans (State.same_w _ _ _)).trans (State.same_w _ _ _)

theorem State.marginH_marginsShown (s : State) (n v : Nat) {h : Nat} (hh : h < 65536) :
    (s.marginsShown n h v).r (K.laneMarginH n) = h :=
  (State.r_w_ne _ obj_ne _).trans ((State.r_w_ne _ obj_ne _).trans ((s.r_w_self _ _).trans (Nat.mod_eq_of_lt hh)))

theorem State.marginV_marginsShown (s : State) (n h : Nat) {v : Nat} (hv : v < 65536) :
    (s.marginsShown n h v).r (K.laneMarginV n) = v :=
  (State.r_w_ne _ obj_ne _).trans ((State.r_w_self _ _ _).trans (Nat.mod_eq_of_lt hv))

theorem State.scanTime_marginsShown (s : State) (n h v : Nat) :
    (s.marginsShown n h v).r (K.laneScanTime n) = beatVal s.beat s.tick := by
  rw [State.marginsShown, State.r_w_self, State.now]

/-- A port's thresholds stay as they are where a lane's margins are shown. -/
theorem State.thresholds_marginsShown (s : State) (n h v p : Nat) :
    (s.marginsShown n h v).r (K.portMarginThresholdH p) = s.r (K.portMarginThresholdH p) ∧
    (s.marginsShown n h v).r (K.portMarginThresholdV p) = s.r (K.portMarginThresholdV p) := by
  constructor <;>
    exact (State.r_w_ne _ obj_ne _).trans ((State.r_w_ne _ obj_ne _).trans (s.r_w_ne obj_ne _))

/-- EYE_SCAN_COMPLETE on a lane of an ACTIVE link that is not in electrical idle. -/
theorem eyeScanComplete_shows (s : State) (n : LaneId) (h v : Nat) (hh : h < 65536) (hv : v < 65536)
    (hl : s.link (s.laneport n.val) = .active) (hq : s.laneQuiet n.val = false) :
    ∃ t, exec (.eyeScanComplete n h v) s = .next t ∧
      t.r (K.laneMarginH n.val) = h ∧ t.r (K.laneMarginV n.val) = v ∧ t.r (K.laneScanTime n.val) = beatVal s.beat s.tick ∧
      (s.r (K.portMarginThresholdH (s.laneport n.val)) ≤ h → s.r (K.portMarginThresholdV (s.laneport n.val)) ≤ v →
        t.onyx = s.onyx) ∧ SameBut [.regs, .onyx] s t := by
  let w := s.marginsShown n.val h v
  let low := w.r (K.laneMarginH n.val) < w.r (K.portMarginThresholdH (s.laneport n.val)) ∨
    w.r (K.laneMarginV n.val) < w.r (K.portMarginThresholdV (s.laneport n.val))
  have hw := s.same_marginsShown n.val h v
  have hH : w.r (K.laneMarginH n.val) = h := s.marginH_marginsShown n.val v hh
  have hV : w.r (K.laneMarginV n.val) = v := s.marginV_marginsShown n.val h hv
  obtain ⟨hth, htv⟩ := s.thresholds_marginsShown n.val h v (s.laneport n.val)
  have hu := SameBut.ite (c := low) (w.same_occur (Src.lane n.val 0))
  refine exec_shows (exec_eyeScanComplete s n h v) (u := if low then w.occur (Src.lane n.val 0) else w)
    ((if_neg (by simp [hl, hq])).trans (by simp [low, w, State.marginsShown])) fun t q keep => ?_
  have ht : SameBut [.onyx, .queue, .time] w t := hu.then q
  refine ⟨(ht.r _).trans hH, (ht.r _).trans hV, (ht.r _).trans (s.scanTime_marginsShown n.val h v), fun h1 h2 => ?_,
    keep _ (hw.then hu)⟩
  have fine : ¬ low := by
    rintro (hlow | hlow)
    · rw [hH, hth] at hlow
      omega
    · rw [hV, htv] at hlow
      omega
  rw [if_neg fine] at q
  exact q.onyx.trans hw.onyx

/-- EYE_SCAN_COMPLETE elsewhere. -/
theorem eyeScanComplete_idle (s : State) (n : LaneId) (h v : Nat)
    (hq : s.link (s.laneport n.val) ≠ .active ∨ s.laneQuiet n.val = true) :
    ∃ t, exec (.eyeScanComplete n h v) s = .next t ∧ SameBut [] s t :=
  exec_idle (exec_eyeScanComplete s n h v) (if_pos (by simpa using hq))

/-- LOSS_OF_SIGNAL_DEASSERT. -/
theorem lossOfSignalDeassert_ends (s : State) (n : LaneId) :
    ∃ t, exec (.lossOfSignalDeassert n) s = .next t ∧ n.val ∉ (t.port (s.laneport n.val)).lostLanes ∧
      SameBut [.ports] s t := by
  refine exec_shows (exec_lossOfSignalDeassert s n) rfl fun t q keep => ⟨?_, keep _ (s.same_modPort _ _)⟩
  rw [State.port_of_ports q.ports, State.port_modPort]
  simp

/-- LANE_PARK_EXIT_READY. -/
theorem laneParkExitReady_ends (s : State) (p : PortId) :
    ∃ t, exec (.laneParkExitReady p) s = .next t ∧ (t.port p.val).parkExit = false ∧ SameBut [.ports] s t := by
  refine exec_shows (exec_laneParkExitReady s p) rfl fun t q keep => ⟨?_, keep _ (s.same_modPort _ _)⟩
  rw [State.port_of_ports q.ports, State.port_modPort]

/-- Settles O39: by the detector's state and the lane's, event by event. -/
theorem lanesReportLossAndMargins : Obligations.LanesReportLossAndMargins :=
  ⟨lossOfSignal_counts,
   fun s n hq => ⟨exec_idle (exec_lossOfSignal s n) (if_pos hq), exec_idle (exec_lossOfLock s n) (if_pos hq)⟩,
   lossOfSignalDeassert_ends, lossOfLock_reports,
   fun s n h v hh hv => ⟨eyeScanComplete_shows s n h v hh hv, eyeScanComplete_idle s n h v⟩,
   laneParkExitReady_ends⟩

end Sys2Proof.Machine
end

section
/-! The states of a link, its training, and IDE's keys (04; R71, R73, R84, R85, R363). -/

namespace Sys2Proof.Machine

variable {s t : State} {p : Nat}

/-! ## Link states (R71, R84, R85) -/

/-- The beginning of a hold changes HeldSince and nothing else (R99). -/
theorem State.same_beginHold (s : State) (p : Nat) : SameBut [.regs] s (s.beginHold p) := SameBut.ite (s.same_w _ _)

theorem State.r_beginHold_ne {k : Nat} (hk : k ≠ K.portHeldSince p) : (s.beginHold p).r k = s.r k := by
  unfold State.beginHold
  split
  · exact s.r_w_ne hk _
  · rfl

/-- Recovery changes objects and the port (R84). -/
theorem State.same_retrain (s : State) (p : Nat) : SameBut [.regs, .freeCtr, .ports] s (s.retrain p) :=
  (((s.same_beginHold p).trans (State.same_w _ _ _)).then (State.same_bump _ _ _)
    (n := [.regs, .freeCtr])).then (State.same_modPort _ _ _)

theorem State.r_retrain_ne {k : Nat} (hh : k ≠ K.portHeldSince p) (hl : k ≠ K.portLinkState p)
    (hc : k ≠ K.portRetrainCount p) : (s.retrain p).r k = s.r k :=
  (State.r_bump_ne _ hc 1).trans ((State.r_w_ne _ hl _).trans (State.r_beginHold_ne hh))

/-- A port that exists is RETRAINING in Recovery. -/
theorem State.link_retrain (hx : s.portExists p = true) : (s.retrain p).link p = .retraining :=
  State.link_eq hx (State.r_retrain_ne obj_ne obj_ne obj_ne) ((State.r_bump_ne _ obj_ne 1).trans (State.r_w_self _ _ _))

/-- RetrainCount counts each Recovery, within its size. -/
theorem State.retrainCount_retrain
    (hc : s.r (K.portRetrainCount p) + 1 < 2 ^ Schema.width (K.portRetrainCount p)) :
    (s.retrain p).r (K.portRetrainCount p) = s.r (K.portRetrainCount p) + 1 := by
  have before : ((s.beginHold p).setLink p .retraining).r (K.portRetrainCount p) = s.r (K.portRetrainCount p) :=
    (State.r_w_ne _ obj_ne _).trans (State.r_beginHold_ne obj_ne)
  rw [← before] at hc ⊢
  exact State.r_bump_self hc

/-- A port whose link is lost retrains, and its source occurs: what that leaves. -/
theorem retrain_occur_shows {r : Res} {f : State → State} {k : Nat} (he : r = effect f s)
    (hu : f s = (s.retrain p).occur k) (hx : s.portExists p = true) :
    ∃ t, r = .next t ∧ t.link p = .retraining ∧ SameBut [.regs, .freeCtr, .ports, .onyx] s t := by
  have ho := (s.retrain p).same_occur k
  refine exec_shows he hu fun t q keep => ⟨?_, keep _ ((s.same_retrain p).then ho)⟩
  rw [State.link_of_regs (q.regs.trans ho.regs)]
  exact State.link_retrain hx

/-- PORT_LOCK_LOST on an ACTIVE port. -/
theorem portLockLost_stalls (s : State) (p : PortId) (hl : s.link p.val = .active) :
    ∃ t, exec (.portLockLost p) s = .next t ∧ t.link p.val = .stalled ∧ (t.port p.val).lockLostAt = s.clock ∧
      (∀ k, k ≠ K.portLinkState p.val → k ≠ K.portHeldSince p.val → t.r k = s.r k) ∧ SameBut [.regs, .ports] s t := by
  let v := (s.beginHold p.val).setLink p.val .stalled
  have hv : SameBut [.regs] s v := (s.same_beginHold p.val).trans (State.same_w _ _ _)
  have frame (k : Nat) (h1 : k ≠ K.portLinkState p.val) (h2 : k ≠ K.portHeldSince p.val) : v.r k = s.r k :=
    (State.r_w_ne _ h1 _).trans (State.r_beginHold_ne h2)
  have hlink : v.link p.val = .stalled :=
    State.link_eq (State.portExists_of_link hl) (frame _ obj_ne obj_ne) (State.r_w_self _ _ _)
  refine exec_shows (exec_portLockLost s p) (u := v.modPort p.val (fun x => { x with lockLostAt := s.clock }))
    (if_pos hl) fun t q keep => ⟨?_, ?_, fun k h1 h2 => ?_, keep _ (hv.then (State.same_modPort _ _ _))⟩
  · exact (State.link_of_regs q.regs p.val).trans hlink
  · rw [State.port_of_ports q.ports, State.port_modPort]
  · exact (q.r k).trans (frame k h1 h2)

/-! ## The ends of a stall (R84) -/

/-- PORT_LOCK_REGAINED within LockLossHold. -/
theorem portLockRegained_restores (s : State) (p : PortId) (hl : s.link p.val = .stalled) (hlost : s.lanesLost p.val = false)
    (hin : s.nsAgo (s.port p.val).lockLostAt ≤ s.r (K.portLockLossHold p.val)) :
    ∃ t, exec (.portLockRegained p) s = .next t ∧ t.link p.val = .active ∧ t.r (K.portHeldSince p.val) = 0 ∧
      SameBut [.regs, .ports, .tel] s t := by
  let v := s.modPort p.val (fun x => { x with replayAt := x.replayAt + (s.clock - x.lockLostAt) })
  let w := (v.setLink p.val .active).endHold p.val
  have hw : SameBut [.regs, .ports] s w :=
    (s.same_modPort _ _).then ((v.same_w _ _).trans (State.same_w _ _ _))
  have hlink : w.link p.val = .active :=
    State.link_eq (State.portExists_of_link hl) ((State.r_w_ne _ obj_ne _).trans (v.r_w_ne obj_ne _))
      ((State.r_w_ne _ obj_ne _).trans (v.r_w_self _ _))
  have hc := w.same_creditWatch p.val
  refine exec_shows (exec_portLockRegained s p) (u := w.creditWatch p.val) (if_pos (by simp [hl, hlost, hin]))
    fun t q keep => ?_
  have ht : SameBut [.tel, .ports, .queue, .time] w t := hc.then q
  exact ⟨(State.link_of_regs ht.regs _).trans hlink, (ht.r _).trans (State.r_w_self _ _ _), keep _ (hw.then hc)⟩

/-- A STALLED port: lock regained in time restores it, later does nothing; the hold's end starts Recovery. -/
theorem stalledPort_ends (s : State) (p : PortId) (hl : s.link p.val = .stalled) :
    (s.lanesLost p.val = false → s.nsAgo (s.port p.val).lockLostAt ≤ s.r (K.portLockLossHold p.val) →
      ∃ t, exec (.portLockRegained p) s = .next t ∧ t.link p.val = .active ∧ t.r (K.portHeldSince p.val) = 0 ∧
        SameBut [.regs, .ports, .tel] s t) ∧
    (s.r (K.portLockLossHold p.val) < s.nsAgo (s.port p.val).lockLostAt →
      ∃ t, exec (.portLockRegained p) s = .next t ∧ SameBut [] s t) ∧
    (s.r (K.portLockLossHold p.val) ≤ s.nsAgo (s.port p.val).lockLostAt →
      ∃ t, exec (.lockLossHoldExpiry p) s = .next t ∧ t.link p.val = .retraining ∧
        SameBut [.regs, .freeCtr, .ports, .onyx] s t) :=
  ⟨portLockRegained_restores s p hl,
   fun late => exec_idle (exec_portLockRegained s p) (if_neg (by simp [late])),
   fun ended => retrain_occur_shows (exec_lockLossHoldExpiry s p) (if_pos (by simp [hl, ended]))
     (State.portExists_of_link hl)⟩

/-- PARTNER_RECOVERY, of an ACTIVE or a STALLED port (log entry 56). -/
theorem partnerRecovery_retrains (s : State) (p : PortId) (hl : s.link p.val = .active ∨ s.link p.val = .stalled) :
    ∃ t, exec (.partnerRecovery p) s = .next t ∧ t.link p.val = .retraining ∧
      (s.r (K.portRetrainCount p.val) + 1 < 2 ^ Schema.width (K.portRetrainCount p.val) →
        t.r (K.portRetrainCount p.val) = s.r (K.portRetrainCount p.val) + 1) ∧ SameBut [.regs, .freeCtr, .ports] s t := by
  have hx : s.portExists p.val = true := hl.elim State.portExists_of_link State.portExists_of_link
  refine exec_shows (exec_partnerRecovery s p) (u := s.retrain p.val) (if_pos (by simpa using hl)) fun t q keep =>
    ⟨?_, fun hc => ?_, keep _ (s.same_retrain p.val)⟩
  · exact (State.link_of_regs q.regs _).trans (State.link_retrain hx)
  · exact (q.r _).trans (State.retrainCount_retrain hc)

/-! ## Training (R71, R87, R99) -/

/-- A training writes sub-indices 0x07 and 0x08 of lanes alone. -/
theorem State.r_trainLanes {i a rate width : Nat} {x : LaneTraining} (h7 : a % 256 ≠ 0x07 % 256 := by decide)
    (h8 : a % 256 ≠ 0x08 % 256 := by decide) : (s.trainLanes p rate width x).r (obj i a) = s.r (obj i a) := by
  refine State.each_keeps (·.r (obj i a)) _ (fun u n => ?_) _ s
  dsimp only
  split
  · exact u.r_w_ne (obj_ne h7) _
  · exact (State.r_w_ne _ (obj_ne h8) _).trans (u.r_w_ne (obj_ne h7) _)

theorem State.same_trainLanes (s : State) (p rate width : Nat) (x : LaneTraining) :
    SameBut [.regs, .freeCtr] s (s.trainLanes p rate width x) := by
  refine s.same_each _ _ (fun u n => ?_) _
  dsimp only
  split
  · exact (u.same_w _ _).mono (by decide)
  · exact ((u.same_w _ _).then (State.same_fresh _) (n := [.regs, .freeCtr])).then (State.same_w _ _ _)

/-- The objects of a port that becomes ACTIVE, with the window in force and the lane that is substituted. -/
def State.activeShown (s : State) (p rate width format window sub : Nat) : State :=
  ((((((s.setLink p .active).endHold p).w (K.portNegotiatedRate p) rate).w (K.portNegotiatedWidth p) width).w
    (K.portFlitFormat p) format).w (K.portReplayWindow p) window).w (K.portSubstitutedLane p) sub

theorem State.same_activeShown (s : State) (p rate width format window sub : Nat) :
    SameBut [.regs] s (s.activeShown p rate width format window sub) :=
  ((((((s.same_w _ _).trans (State.same_w _ _ _)).trans (State.same_w _ _ _)).trans (State.same_w _ _ _)).trans
    (State.same_w _ _ _)).trans (State.same_w _ _ _)).trans (State.same_w _ _ _)

/-- What the objects of a port that becomes ACTIVE read; its slice keeps its mode. -/
theorem State.r_activeShown (s : State) (p rate width format window sub : Nat) :
    (s.activeShown p rate width format window sub).r (K.portLinkState p) = LinkState.active.num ∧
    (s.activeShown p rate width format window sub).r (K.portNegotiatedRate p) = rate ∧
    (s.activeShown p rate width format window sub).r (K.portNegotiatedWidth p) = width ∧
    (s.activeShown p rate width format window sub).r (K.portFlitFormat p) = format ∧
    (s.activeShown p rate width format window sub).r (K.portHeldSince p) = 0 ∧
    ∀ n, (s.activeShown p rate width format window sub).r (K.sliceMode n) = s.r (K.sliceMode n) := by
  refine ⟨?_, ?_, ?_, ?_, ?_, fun n => ?_⟩
  · iterate 6 refine (State.r_w_ne _ obj_ne _).trans ?_
    exact State.r_w_self _ _ _
  · iterate 4 refine (State.r_w_ne _ obj_ne _).trans ?_
    exact State.r_w_self _ _ _
  · iterate 3 refine (State.r_w_ne _ obj_ne _).trans ?_
    exact State.r_w_self _ _ _
  · iterate 2 refine (State.r_w_ne _ obj_ne _).trans ?_
    exact State.r_w_self _ _ _
  · iterate 5 refine (State.r_w_ne _ obj_ne _).trans ?_
    exact State.r_w_self _ _ _
  · iterate 6 refine (State.r_w_ne _ obj_ne _).trans ?_
    exact State.r_w_ne _ obj_ne _

/-- A port becomes ACTIVE in three steps: its objects, the port but for its replay buffer, and its lanes. -/
theorem State.enterActive_eq (s : State) (p rate width : Nat) (flit lopt : Bool) (lanes : LaneTraining)
    (partner : List Nat) :
    ∃ (window sub : Nat) (f : PortSt → PortSt), s.enterActive p rate width flit lopt lanes partner =
        ((s.activeShown p rate width (flitFormat (s.portMode p) rate flit lopt) window sub).modPort p f).trainLanes
          p rate width lanes ∧ ∀ x, (f x).outstanding = x.outstanding :=
  ⟨_, _, _, rfl, fun _ => rfl⟩

/-- What a port shows that has become ACTIVE: the training's result, no hold, and the flits that were outstanding. -/
theorem State.enterActive_shows (hx : s.portExists p = true) (rate width : Nat) (flit lopt : Bool) (lanes : LaneTraining)
    (partner : List Nat) {v : State} (hv : s.enterActive p rate width flit lopt lanes partner = v) :
    v.link p = .active ∧ v.r (K.portNegotiatedRate p) = rate ∧ v.r (K.portNegotiatedWidth p) = width ∧
    v.r (K.portFlitFormat p) = flitFormat (s.portMode p) rate flit lopt ∧ v.r (K.portHeldSince p) = 0 ∧
    (v.port p).outstanding = (s.port p).outstanding ∧ SameBut [.regs, .ports, .freeCtr] s v := by
  obtain ⟨window, sub, f, heq, hf⟩ := s.enterActive_eq p rate width flit lopt lanes partner
  subst hv
  rw [heq]
  have shown := s.same_activeShown p rate width (flitFormat (s.portMode p) rate flit lopt) window sub
  obtain ⟨hlink, hrate, hwidth, hformat, hheld, hmode⟩ :=
    s.r_activeShown p rate width (flitFormat (s.portMode p) rate flit lopt) window sub
  have trained := State.same_trainLanes
    ((s.activeShown p rate width (flitFormat (s.portMode p) rate flit lopt) window sub).modPort p f) p rate width lanes
  refine ⟨State.link_eq hx (.trans State.r_trainLanes (hmode _)) (.trans State.r_trainLanes hlink),
    .trans State.r_trainLanes hrate, .trans State.r_trainLanes hwidth, .trans State.r_trainLanes hformat,
    .trans State.r_trainLanes hheld, ?_, (shown.then (State.same_modPort _ _ _) (n := [.regs, .ports])).then trained⟩
  rw [State.port_of_ports trained.ports, State.port_modPort, hf, State.port_of_ports shown.ports]

/-- TRAINING_REACHES_L0 of a port in Recovery with nothing to replay. -/
theorem trainingReachesL0_active (s : State) (p : PortId) (rate width : Nat) (flit lopt : Bool) (lanes : LaneTraining)
    (count last : Nat) (partner : List Nat) (hl : s.link p.val = .retraining) (ht : s.trains p.val = true)
    (hc : s.canReach p.val rate width flit lanes.reversed partner = true) (hout : (s.port p.val).outstanding = []) :
    ∃ t, exec (.trainingReachesL0 p rate width flit lopt lanes count last partner) s = .next t ∧
      t.link p.val = .active ∧ t.r (K.portNegotiatedRate p.val) = rate ∧ t.r (K.portNegotiatedWidth p.val) = width ∧
      t.r (K.portFlitFormat p.val) = flitFormat (s.portMode p.val) rate flit lopt ∧
      t.r (K.portHeldSince p.val) = 0 ∧ SameBut [.regs, .ports, .freeCtr, .tel, .fabric, .core] s t := by
  let v := s.enterActive p.val rate width flit lopt lanes partner
  let w := if v.isFabric p.val then v.originate else v
  obtain ⟨hlink, hrate, hwidth, hformat, hheld, hkept, hv⟩ :=
    State.enterActive_shows (State.portExists_of_link hl) rate width flit lopt lanes partner (v := v) rfl
  have hnone : (v.port p.val).outstanding.isEmpty = true := by rw [hkept, hout]; rfl
  have hw : SameBut [.fabric, .core] v w := SameBut.ite v.same_originate
  have hu : SameBut [.tel, .ports] w (if w.link p.val = .active then w.creditWatch p.val else w) :=
    SameBut.ite (w.same_creditWatch p.val)
  refine exec_shows (exec_trainingReachesL0 s p rate width flit lopt lanes count last partner)
    (u := if w.link p.val = .active then w.creditWatch p.val else w)
    ((if_neg (by simp [hl, ht, hc])).trans ?_) fun t q keep => ?_
  · simp only [hl, decide_true, Bool.not_true, Bool.false_eq_true, if_false]
    rw [if_pos hnone]
  · have hvt : SameBut [.fabric, .core, .tel, .ports, .queue, .time] v t :=
      (hw.then hu (n := [.fabric, .core, .tel, .ports])).then q
    exact ⟨(State.link_of_regs hvt.regs _).trans hlink, (hvt.r _).trans hrate, (hvt.r _).trans hwidth,
      (hvt.r _).trans hformat, (hvt.r _).trans hheld, 
      keep _ ((hv.then hw (n := [.regs, .ports, .freeCtr, .fabric, .core])).then hu)⟩

/-! ## Ports taken down, and IDE's keys (R73, R85, R363) -/

/-- HOT_RESET on a HOST port is its data-link-down event. -/
theorem hotReset_down (s : State) (p : PortId) (hh : s.isHost p.val = true) :
    ∃ t, exec (.hotReset p) s = .next t ∧ SameBut [.queue, .time] (s.portDown p.val causeHotReset) t :=
  exec_shows (exec_hotReset s p) (if_pos hh) fun _ q _ => q

/-- A port whose data link is not up cannot go down. -/
theorem State.portDown_of_not_up (hu : s.linkUp p = false) (cause : Nat) : s.portDown p cause = s :=
  if_neg (by simp [hu])

/-- HOT_RESET on a HOST port without a link. -/
theorem hotReset_without_link (s : State) (p : PortId) (hh : s.isHost p.val = true) (hu : s.linkUp p.val = false) :
    ∃ t, exec (.hotReset p) s = .next t ∧ SameBut [] s t :=
  exec_idle (exec_hotReset s p) ((if_pos hh).trans (State.portDown_of_not_up hu _))

/-- IDE_MAC_FAILURE on an ACTIVE port with IDE. -/
theorem ideMacFailure_down (s : State) (p : PortId) (hi : s.on (K.portIdeEnable p.val) = true)
    (hl : s.link p.val = .active) :
    ∃ t, exec (.ideMacFailure p) s = .next t ∧
      SameBut [.queue, .time] ((s.portDown p.val causeLinkDown).occur (Src.port p.val 4)) t :=
  exec_shows (exec_ideMacFailure s p) (if_pos (by simp [hi, hl])) fun _ q _ => q

/-- IDE_MAC_FAILURE without IDE or without an ACTIVE link. -/
theorem ideMacFailure_idle (s : State) (p : PortId)
    (h : s.on (K.portIdeEnable p.val) = false ∨ s.link p.val ≠ .active) :
    ∃ t, exec (.ideMacFailure p) s = .next t ∧ SameBut [] s t :=
  exec_idle (exec_ideMacFailure s p) (if_neg (by rcases h with h | h <;> simp [h]))

/-- New keys change the port and draw two free values (log entry 29). -/
theorem State.same_setKeys (s : State) (p : Nat) : SameBut [.ports, .freeCtr] s (s.setKeys p) :=
  ((s.same_fresh.trans (State.same_fresh _)).then (State.same_modPort _ p _))

theorem State.ideKeys_setKeys (s : State) (p : Nat) : ((s.setKeys p).port p).ideKeys.isSome = true := by
  rw [State.setKeys, State.port_modPort]
  rfl

/-- IDE_KEY_REFRESH accepted: IDE_KM is run as initiator, the keys are set, and the command is DONE. -/
theorem ideKeyRefresh_sets (s u : State) (e : JdpEnv) (args : List Byte)
    (h : Triggered s e 0x2560 (fun s args => s.ideChecks args) args u) :
    ∃ t, exec (.ideKeyRefresh e) s = .next t ∧ (t.port (fieldAt args 0 1)).ideKeys.isSome = true ∧
      .ideKm (fieldAt args 0 1) ∈ t.out ∧ (t.cmd 0x2560).state = .done ∧
      SameBut [.ports, .freeCtr, .cmds, .mgmt, .out] s t := by
  let port := fieldAt args 0 1
  let a := u.accept e 0x2560
  let v := (a.emit (.ideKm port)).setKeys port
  have hv : SameBut [.out, .ports, .freeCtr] a v := (a.same_emit _).then (State.same_setKeys _ port)
  have hd := v.same_cmdDone 0x2560 []
  have hpending : (v.cmd 0x2560).state = .pending := by
    rw [State.cmd, hv.cmds]
    exact u.cmd_accept e 0x2560
  have hsent : .ideKm port ∈ (v.cmdDone 0x2560 []).out := State.mem_out_cmdDone (by simp [v, State.setKeys, State.fresh])
  obtain ⟨t, ht, same, q⟩ := h.next (v := v.cmdDone 0x2560 [])
    (run := fun s args => ((s.emit (.ideKm (fieldAt args 0 1))).setKeys (fieldAt args 0 1)).cmdDone 0x2560 []) rfl
    (hv.then hd (n := [.out, .ports, .freeCtr, .cmds, .mgmt]))
  refine ⟨t, ht, ?_, h.mem_out hsent ht, ?_, same.mono (by decide)⟩
  · rw [State.port_of_ports (q.ports.trans hd.ports)]
    exact State.ideKeys_setKeys _ port
  · rw [State.cmd, q.cmds]
    exact congrArg CmdRec.state (v.cmd_cmdDone 0x2560 [] hpending)

/-- IDE_KM_REQUEST of the tenant of an ACTIVE port with IDE: answered as responder, and the keys are set. -/
theorem ideKmRequest_sets (s : State) (n : TenantId) (p : PortId) (ht : s.tenantOfPort p.val = some n.val)
    (hi : s.on (K.portIdeEnable p.val) = true) (hl : s.link p.val = .active) :
    ∃ t, exec (.ideKmRequest n p) s = .next t ∧ (t.port p.val).ideKeys.isSome = true ∧ t.out = s.out ++ [.ideKm p.val] ∧
      SameBut [.ports, .freeCtr, .out] s t := by
  have hk := (s.emit (.ideKm p.val)).same_setKeys p.val
  refine exec_shows (exec_ideKmRequest s n p) (if_pos (by simp [ht, hi, hl])) fun t q keep =>
    ⟨?_, q.out.trans hk.out, keep _ ((s.same_emit _).then hk)⟩
  rw [State.port_of_ports q.ports]
  exact State.ideKeys_setKeys _ p.val

/-- IDE_KM_REQUEST elsewhere. -/
theorem ideKmRequest_idle (s : State) (n : TenantId) (p : PortId)
    (h : s.tenantOfPort p.val ≠ some n.val ∨ s.on (K.portIdeEnable p.val) = false ∨ s.link p.val ≠ .active) :
    ∃ t, exec (.ideKmRequest n p) s = .next t ∧ SameBut [] s t :=
  exec_idle (exec_ideKmRequest s n p) (if_neg (by rcases h with h | h | h <;> simp [h]))

/-- A failed attempt of a DOWN port that trains, and a repetition without a receiver, are reported. -/
theorem downPort_reports (s : State) (p : PortId) (hl : s.link p.val = .down) (ht : s.trains p.val = true)
    (ho : s.canOccur (Src.port p.val 1) = true) (hp : (Tbl.getD s.onyx.pend (Src.port p.val 1) []).length < 255) :
    (∃ t, exec (.trainingAttemptFailure p) s = .next t ∧ Tbl.getD t.onyx.pend (Src.port p.val 1) []
        = Tbl.getD s.onyx.pend (Src.port p.val 1) [] ++ [plainReport (Src.port p.val 1)] ∧ SameBut [.onyx] s t) ∧
    (∃ t, exec (.detectNoReceiver p) s = .next t ∧ Tbl.getD t.onyx.pend (Src.port p.val 1) []
        = Tbl.getD s.onyx.pend (Src.port p.val 1) [] ++ [plainReport (Src.port p.val 1)] ∧ SameBut [.onyx] s t) :=
  ⟨occur_shows (exec_trainingAttemptFailure s p) (by simp [hl, ht]) ho hp,
   occur_shows (exec_detectNoReceiver s p) (if_pos (by simp [hl, ht])) ho hp⟩

/-- Settles O40: by the link's state, event by event. -/
theorem linksStallRetrainAndTrain : Obligations.LinksStallRetrainAndTrain := by
  refine ⟨portLockLost_stalls, stalledPort_ends, partnerRecovery_retrains, trainingReachesL0_active,
    fun s p hh => ⟨fun _ => hotReset_down s p hh, hotReset_without_link s p hh⟩,
    fun s p hh => exec_idle (exec_hotReset s p) (if_neg (by simp [hh])),
    ideMacFailure_down, ideMacFailure_idle, fun s u e args h => ?_, fun s n p ht hi hl => ?_, downPort_reports⟩
  · obtain ⟨t, he, hkeys, -, -, same⟩ := ideKeyRefresh_sets s u e args h
    exact ⟨t, he, hkeys, same⟩
  · obtain ⟨t, he, hkeys, -, same⟩ := ideKmRequest_sets s n p ht hi hl
    exact ⟨t, he, hkeys, same⟩

end Sys2Proof.Machine
end

section
/-! The markers of Weuri links (04; R76 to R78). -/

namespace Sys2Proof.Machine

variable {s t : State} {p : Nat}

/-- The marker carries the beat: it goes out on the link, and no marker has carried this edge. -/
def State.markerCarries (s : State) (p : Nat) : Bool := s.beatGoes p && decide ((s.port p).markBeat ≠ some s.beat)

/-- The offset of the next marker, drawn where the marker carries the beat (log entry 29), and the state after it. -/
def State.markerOffset (s : State) (p : Nat) : Nat × State := if s.markerCarries p then s.edgeOffset else (0, s)

/-- The beat number and offset in the next marker, where it carries them. -/
def State.markerBeat (s : State) (p : Nat) : Option (Nat × Nat) :=
  if s.markerCarries p then some ((s.markerOffset p).2.beat, (s.markerOffset p).1) else none

/-- The lanes of a port send a marker. -/
def State.sendMarkers (s : State) (p sequence : Nat) (sub : Option Nat) (beat : Option (Nat × Nat)) : State :=
  s.each (s.markerLanes p) (fun u k => u.emit (.marker p k (markerWord k sequence sub beat)))

/-- After a marker with SUB the port shows the lane that its transmitter substitutes (R79). -/
def State.showSub (s : State) (p : Nat) (sub : Option Nat) : State :=
  match sub with | some k => s.w (K.portSubstitutedLane p) k | none => s

/-- The state in which the lanes of a port have sent a marker and its objects show it. -/
def State.markerShown (s : State) (p : Nat) : State :=
  ((s.markerOffset p).2.sendMarkers p (s.port p).marker (s.port p).txSub (s.markerBeat p)).showSub p (s.port p).txSub

/-- The state after a marker. -/
def State.markerSent (s : State) (p : Nat) : State :=
  (s.markerShown p).modPort p (fun x => { x with
    marker := (x.marker + 1) % 65536, flits := 0, subbed := (s.port p).txSub.isSome
    markBeat := if s.markerCarries p then some (s.markerShown p).beat else x.markBeat })

/-- Messages sent one after another stand behind those sent before. -/
theorem State.out_each_emit {α : Type} (g : α → Out) (l : List α) (s : State) :
    (s.each l (fun u k => u.emit (g k))).out = s.out ++ l.map g := by
  unfold State.each
  induction l generalizing s with
  | nil => simp
  | cons o l ih => rw [List.foldl_cons, ih, State.emit_out, List.append_assoc, List.singleton_append, List.map_cons]

theorem State.same_markerOffset (s : State) (p : Nat) : SameBut [.freeCtr] s (s.markerOffset p).2 := by
  unfold State.markerOffset
  split
  · exact s.same_fresh
  · exact .refl _ s

theorem State.markerLanes_markerOffset (s : State) (p : Nat) : (s.markerOffset p).2.markerLanes p = s.markerLanes p := by
  unfold State.markerOffset
  split <;> rfl

theorem State.same_sendMarkers (s : State) (p sequence : Nat) (sub : Option Nat) (beat : Option (Nat × Nat)) :
    SameBut [.out] s (s.sendMarkers p sequence sub beat) := s.same_each _ _ (fun u _ => u.same_emit _) _

theorem State.same_showSub (s : State) (p : Nat) (sub : Option Nat) : SameBut [.regs] s (s.showSub p sub) := by
  cases sub with
  | none => exact .refl _ s
  | some k => exact s.same_w _ k

theorem State.r_showSub_ne {k : Nat} (hk : k ≠ K.portSubstitutedLane p) (sub : Option Nat) :
    (s.showSub p sub).r k = s.r k := by
  cases sub with
  | none => rfl
  | some x => exact s.r_w_ne hk x

/-- The beat number in a marker is that of the beat in progress. -/
theorem State.markerBeat_eq (s : State) (p : Nat) :
    s.markerBeat p = if s.beatGoes p = true ∧ (s.port p).markBeat ≠ some s.beat
      then some (s.beat, s.edgeOffset.1) else none := by
  have carries : s.markerCarries p = true ↔ s.beatGoes p = true ∧ (s.port p).markBeat ≠ some s.beat := by
    simp [State.markerCarries]
  unfold State.markerBeat State.markerOffset
  by_cases h : s.markerCarries p = true
  · rw [if_pos h, if_pos h, if_pos (carries.1 h)]
    rfl
  · rw [if_neg h, if_neg (mt carries.2 h)]

theorem State.same_markerShown (s : State) (p : Nat) : SameBut [.freeCtr, .out, .regs] s (s.markerShown p) :=
  ((s.same_markerOffset p).then (State.same_sendMarkers _ p _ _ _) (n := [.freeCtr, .out])).then (State.same_showSub _ p _)

theorem State.out_markerShown (s : State) (p : Nat) : (s.markerShown p).out = s.out ++ (s.markerLanes p).map
    (fun k => .marker p k (markerWord k (s.port p).marker (s.port p).txSub (s.markerBeat p))) := by
  rw [State.markerShown, (State.same_showSub _ p _).out, State.sendMarkers, State.out_each_emit,
    State.markerLanes_markerOffset, (s.same_markerOffset p).out]

theorem State.r_markerShown_ne {k : Nat} (hk : k ≠ K.portSubstitutedLane p) : (s.markerShown p).r k = s.r k :=
  (State.r_showSub_ne hk _).trans (((s.same_markerOffset p).then (State.same_sendMarkers _ p _ _ _)
    (n := [.freeCtr, .out])).r k)

theorem State.substituted_markerShown {k : Nat} (hk : (s.port p).txSub = some k) :
    (s.markerShown p).r (K.portSubstitutedLane p) = k := by
  rw [State.markerShown, hk]
  exact State.r_w_self _ _ k

/-- WEURI_MARKER_TRANSMIT at a flit boundary at which a marker is due. -/
theorem weuriMarkerTransmit_sends (s : State) (p : PortId) (hm : s.portMode p.val = 3) (hr : s.linksRun = true)
    (hc : s.carries p.val = true) (hf : 4096 ≤ (s.port p.val).flits) :
    ∃ t, exec (.weuriMarkerTransmit p) s = .next t ∧
      t.out = s.out ++ (s.markerLanes p.val).map (fun k => .marker p.val k (markerWord k (s.port p.val).marker
        (s.port p.val).txSub (if s.beatGoes p.val = true ∧ (s.port p.val).markBeat ≠ some s.beat
          then some (s.beat, s.edgeOffset.1) else none))) ∧
      (t.port p.val).marker = ((s.port p.val).marker + 1) % 65536 ∧ (t.port p.val).flits = 0 ∧
      (s.beatGoes p.val = true → (t.port p.val).markBeat = some s.beat) ∧
      (∀ k, (s.port p.val).txSub = some k → t.r (K.portSubstitutedLane p.val) = k) ∧
      (∀ k, k ≠ K.portSubstitutedLane p.val → t.r k = s.r k) ∧ SameBut [.regs, .freeCtr, .ports, .out] s t := by
  have shown := s.same_markerShown p.val
  refine exec_shows (exec_weuriMarkerTransmit s p) (u := s.markerSent p.val)
    ((if_neg (by simp [hr, hc, State.markerDue, hm, hf])).trans rfl) fun t q keep => ?_
  have port : t.port p.val = { s.port p.val with
      marker := ((s.port p.val).marker + 1) % 65536, flits := 0, subbed := (s.port p.val).txSub.isSome
      markBeat := if s.markerCarries p.val then some s.beat else (s.port p.val).markBeat } := by
    rw [State.port_of_ports q.ports, State.markerSent, State.port_modPort, State.port_of_ports shown.ports, shown.beat]
  refine ⟨?_, by rw [port], by rw [port], fun goes => ?_, fun k hk => ?_, fun k hk => ?_,
    keep _ (shown.then (State.same_modPort _ _ _))⟩
  · rw [← s.markerBeat_eq]
    exact q.out.trans (s.out_markerShown p.val)
  · rw [port]
    dsimp only
    split
    · rfl
    next stays => simpa [State.markerCarries, goes] using stays
  · exact (q.r _).trans (State.substituted_markerShown hk)
  · exact (q.r _).trans (State.r_markerShown_ne hk)

/-- WEURI_MARKER_TRANSMIT elsewhere. -/
theorem weuriMarkerTransmit_idle (s : State) (p : PortId)
    (h : s.linksRun = false ∨ s.carries p.val = false ∨ (s.port p.val).flits < 4096) :
    ∃ t, exec (.weuriMarkerTransmit p) s = .next t ∧ SameBut [] s t :=
  exec_idle (exec_weuriMarkerTransmit s p)
    (if_pos (by rcases h with h | h | h <;> simp [State.markerDue, h]))

/-- Copies of which two disagree disagree with the first. -/
theorem markerKeys_disagree {c : MarkerCopy} {rest : List MarkerCopy}
    (h : ∃ x ∈ c :: rest, ∃ y ∈ c :: rest, markerKey x ≠ markerKey y) :
    rest.any (fun d => decide (markerKey d ≠ markerKey c)) = true := by
  refine Decidable.byContradiction fun agree => ?_
  have same : ∀ x ∈ c :: rest, markerKey x = markerKey c := by simpa using agree
  obtain ⟨x, hx, y, hy, hne⟩ := h
  exact hne ((same x hx).trans (same y hy).symm)

section Received

variable (s : State) (p : PortId) (hm : s.portMode p.val = 3) (hl : s.link p.val = .active)
include hm hl

/-- WEURI_MARKER_RECEIVE of a marker without a good copy, or whose good copies disagree. -/
theorem weuriMarkerReceive_retrains (copies : List MarkerCopy) (h : s.goodCopies p.val copies = [] ∨
      (∃ c ∈ s.goodCopies p.val copies, ∃ d ∈ s.goodCopies p.val copies, markerKey c ≠ markerKey d)) :
    ∃ t, exec (.weuriMarkerReceive p copies) s = .next t ∧ t.link p.val = .retraining ∧
      SameBut [.regs, .freeCtr, .ports, .onyx] s t := by
  refine retrain_occur_shows (k := Src.port p.val 0) (exec_weuriMarkerReceive s p copies)
    ((if_neg (by simp [hm, hl])).trans ?_) (State.portExists_of_link hl)
  cases hgood : s.goodCopies p.val copies with
  | nil => rfl
  | cons c rest =>
    rw [hgood] at h
    exact if_pos (markerKeys_disagree (h.resolve_left (List.cons_ne_nil c rest)))

/-- WEURI_MARKER_RECEIVE of a marker whose good copies agree: one with SUB for a lane is taken, any other changes nothing. -/
theorem weuriMarkerReceive_agreed {copies rest : List MarkerCopy} {c : MarkerCopy}
    (hgood : s.goodCopies p.val copies = c :: rest) (agree : ∀ d ∈ rest, markerKey d = markerKey c) :
    ∃ t, exec (.weuriMarkerReceive p copies) s = .next t ∧
      (bit (markerBits c) 87 = false → SameBut [] s t) ∧
      (bit (markerBits c) 87 = true → bits (markerBits c) 84 80 < 16 →
        SameBut [.queue, .time] (s.takeSub p.val (bits (markerBits c) 84 80)) t) := by
  let k := bits (markerBits c) 84 80
  have disagree : ¬ rest.any (fun d => decide (markerKey d ≠ markerKey c)) = true := by simpa using agree
  refine exec_shows (exec_weuriMarkerReceive s p copies)
    (u := if !bit (markerBits c) 87 || 16 ≤ k then s else s.takeSub p.val k)
    ((if_neg (by simp [hm, hl])).trans ?_) fun t q keep => ⟨fun h => ?_, fun h hk => ?_⟩
  · rw [hgood]
    exact if_neg disagree
  · rw [if_pos (by simp [h])] at keep
    exact keep _ (.refl _ s)
  · rwa [if_neg (by simp [h, k]; omega)] at q

end Received

/-- Settles O41: ports taken down, keys, and the markers sent and received. -/
theorem hotResetsMarkersAndIde : Obligations.HotResetsMarkersAndIde := by
  refine ⟨hotReset_down, ideMacFailure_down, ideKeyRefresh_sets, ideKmRequest_sets, ideKmRequest_idle,
    fun s p hm => ⟨weuriMarkerTransmit_sends s p hm, weuriMarkerTransmit_idle s p, fun hl copies =>
      ⟨weuriMarkerReceive_retrains s p hm hl copies, fun hne hsub agree => ?_, fun c rest hgood agree hsub hk => ?_⟩⟩⟩
  · obtain ⟨c, rest, hgood⟩ := List.exists_cons_of_ne_nil hne
    rw [hgood] at hsub agree
    obtain ⟨t, he, nothing, -⟩ := weuriMarkerReceive_agreed s p hm hl hgood fun d hd =>
      agree d (List.mem_cons_of_mem c hd) c List.mem_cons_self
    exact ⟨t, he, nothing (hsub c List.mem_cons_self)⟩
  · obtain ⟨t, he, -, taken⟩ := weuriMarkerReceive_agreed s p hm hl hgood agree
    exact ⟨t, he, taken hsub hk⟩

end Sys2Proof.Machine
end

section
/-! What the operations of the data link share: the objects that they leave as they were, and what counting leaves (05). -/

namespace Sys2Proof.Machine

variable {s t u : State} {p : Nat}

/-- What the data link of port p reads of the objects: its link state, flit format and mode, and whether links run. -/
structure SameLink (p : Nat) (s t : State) : Prop where
  link : t.link p = s.link p
  format : t.format p = s.format p
  portMode : t.portMode p = s.portMode p
  linksRun : t.linksRun = s.linksRun

theorem SameLink.of_regs (h : t.regs = s.regs) : SameLink p s t where
  link := State.link_of_regs h p
  format := State.r_of_regs h _
  portMode := State.r_of_regs h _
  linksRun := State.linksRun_of_regs h

theorem SameLink.trans (h : SameLink p s t) (g : SameLink p t u) : SameLink p s u where
  link := g.link.trans h.link
  format := g.format.trans h.format
  portMode := g.portMode.trans h.portMode
  linksRun := g.linksRun.trans h.linksRun

/-- The counters of a port stand above sub-index 0x0F, and what its data link reads below. -/
theorem State.sameLink_bump (s : State) {i a n : Nat} (ha : 0x0F < a % 256 := by decide) :
    SameLink p s (s.bump (obj i a) n) := by
  have reads {j b : Nat} (hb : b % 256 < 0x10) : (s.bump (obj i a) n).r (obj j b) = s.r (obj j b) :=
    s.r_bump_ne (obj_ne (by omega)) n
  refine ⟨State.link_congr (reads (by decide)) (reads (by decide)), reads (by decide), reads (by decide), ?_⟩
  have device : (s.bump (obj i a) n).device = s.device := congrArg DeviceState.ofNum (reads (by decide))
  rw [State.linksRun, device]
  rfl

/-- What the data link reads stays as it was where a further step leaves the objects alone. -/
theorem SameLink.then_regs (h : SameLink p s t) (hr : u.regs = t.regs) : SameLink p s u := h.trans (.of_regs hr)

/-- On links with 256-byte flits sequence numbers count modulo 1,024 (R93). -/
theorem seqMod_wide {format : Nat} (hf : 2 ≤ format) : seqMod format = 1024 := by
  unfold seqMod
  rw [if_neg (by omega), if_neg (by omega)]

/-! ## Sequence errors (R93, R94) -/

theorem State.same_sequenceError (s : State) (p : Nat) :
    SameBut [.regs, .freeCtr, .ports, .onyx] s (s.sequenceError p) :=
  ((s.same_bump _ _).then (State.same_retrain _ _) (n := [.regs, .freeCtr, .ports])).then (State.same_occur _ _)

/-- A port in a link state retrains after a sequence error. -/
theorem State.link_sequenceError (hx : s.portExists p = true) : (s.sequenceError p).link p = .retraining := by
  rw [State.sequenceError, State.link_of_regs (State.same_occur _ _).regs]
  exact State.link_retrain ((State.portExists_congr (s.r_bump_ne obj_ne 1)).trans hx)

/-- Sequence errors are counted. -/
theorem State.sequenceErrors_sequenceError
    (hc : s.r (K.portSequenceErrors p) + 1 < 2 ^ Schema.width (K.portSequenceErrors p)) :
    (s.sequenceError p).r (K.portSequenceErrors p) = s.r (K.portSequenceErrors p) + 1 :=
  (State.r_occur _ _ _).trans ((State.r_retrain_ne obj_ne obj_ne obj_ne).trans (State.r_bump_self hc))

end Sys2Proof.Machine
end

section
/-! Flits received (05; R93 to R96). -/

namespace Sys2Proof.Machine

variable {s : State} {p : Nat}

/-- A port that has no NAK in force asks for a replay from E on (R93). -/
theorem State.askReplay_asks (hr : s.linksRun = true) (hn : (s.port p).nakInForce = false) {v : State}
    (hv : s.askReplay p = v) :
    v.out = s.out ++ [.nak p (((s.port p).expect + seqMod (s.format p) - 1) % seqMod (s.format p))] ∧
    (v.port p).nakInForce = true ∧ (v.port p).expect = (s.port p).expect ∧
    SameBut [.regs, .freeCtr, .ports, .out] s v := by
  let w := s.bump (K.portNaksSent p) 1
  have hw : SameBut [.regs, .freeCtr] s w := s.same_bump _ _
  have asked : s.askReplay p = (w.modPort p (fun y => { y with nakInForce := true })).emit
      (.nak p (((s.port p).expect + seqMod (s.format p) - 1) % seqMod (s.format p))) := if_neg (by simp [hr, hn])
  have port : v.port p = { s.port p with nakInForce := true } := by
    rw [← hv, asked, State.port_of_ports (State.same_emit _ _).ports, State.port_modPort, State.port_of_ports hw.ports]
  refine ⟨?_, by rw [port], by rw [port], ?_⟩
  · rw [← hv, asked, State.emit_out, State.modPort_out, hw.out]
  · rw [← hv, asked]
    exact (hw.then (State.same_modPort _ _ _) (n := [.regs, .freeCtr, .ports])).then (State.same_emit _ _)

/-- A port that has a NAK in force does not ask again. -/
theorem State.askReplay_once (hn : (s.port p).nakInForce = true) : s.askReplay p = s := if_pos (by simp [hn])

/-- The flit counters of a port after a flit whose FEC corrected `fixed` symbols. -/
def State.flitCounted (s : State) (p fixed : Nat) : State :=
  (s.bump (K.portFecCorrected p) fixed).count evFlitsReceived 1 { port := some p }

theorem State.same_flitCounted (s : State) (p fixed : Nat) : SameBut [.regs, .freeCtr, .tel] s (s.flitCounted p fixed) :=
  (s.same_bump _ _).then (State.same_count _ _ _ _)

theorem State.sameLink_flitCounted (s : State) (p fixed : Nat) : SameLink p s (s.flitCounted p fixed) :=
  s.sameLink_bump.then_regs (State.same_count _ _ _ _).regs

theorem State.r_flitCounted_ne {i a fixed : Nat} (ha : a % 256 ≠ 0x1B % 256 := by decide) :
    (s.flitCounted p fixed).r (obj i a) = s.r (obj i a) :=
  ((State.same_count _ _ _ _).r _).trans (s.r_bump_ne (obj_ne ha) fixed)

/-- The flit counters of a port after a flit that fails its check. -/
def State.badFlitCounted (s : State) (p fixed : Nat) : State :=
  (s.flitCounted p fixed).bump (K.portBadFlitsReceived p) 1

theorem State.same_badFlitCounted (s : State) (p fixed : Nat) :
    SameBut [.regs, .freeCtr, .tel] s (s.badFlitCounted p fixed) :=
  (s.same_flitCounted p fixed).then (State.same_bump _ _ _)

theorem State.sameLink_badFlitCounted (s : State) (p fixed : Nat) : SameLink p s (s.badFlitCounted p fixed) :=
  (s.sameLink_flitCounted p fixed).trans (State.sameLink_bump _)

/-- What a flit of 256 bytes does whose number is d places past E, of 1,024 (R93): it is the one expected, one of the 511
before it, one of the 510 after it, or none of these. -/
def State.takeWide (s : State) (p d : Nat) : State :=
  if d = 0 then s.modPort p (fun y => { y with expect := (y.expect + 1) % 1024, nakInForce := false, ackDue := true })
  else if 513 ≤ d then (s.bump (K.portDuplicatesDiscarded p) 1).modPort p (fun y => { y with ackDue := true })
  else if d ≤ 510 then s.askReplay p
  else s.sequenceError p

theorem State.takeFlit_eq_takeWide {q d : Nat} (hf : 2 ≤ s.format p) (he : (s.port p).expect < 1024)
    (hd : d = (q % 1024 + 1024 - (s.port p).expect) % 1024) : s.takeFlit p q = s.takeWide p d := by
  subst hd
  simp [State.takeFlit, State.takeWide, seqMod_wide hf, Nat.mod_eq_of_lt he, behindOf, aheadOf]

theorem State.takeWide_ahead {d : Nat} (h1 : 1 ≤ d) (h2 : d ≤ 510) : s.takeWide p d = s.askReplay p :=
  (if_neg (by omega)).trans ((if_neg (by omega)).trans (if_pos h2))

theorem State.takeWide_impossible {d : Nat} (h : d = 511 ∨ d = 512) : s.takeWide p d = s.sequenceError p :=
  (if_neg (by omega)).trans ((if_neg (by omega)).trans (if_neg (by omega)))

section Received

variable (s : State) (p : PortId) (q : Fin 4096) (data fixed : Nat) (hl : s.link p.val = .active)
include hl

section Wide

variable (d : Nat) (hf : 2 ≤ s.format p.val) (hd : d = (q.val % 1024 + 1024 - (s.port p.val).expect) % 1024)
  (he : (s.port p.val).expect < 1024)
include hf hd he

/-- FLIT_RECEIVE of a 256-byte flit that passes its CRC: it is counted, and taken by its place. -/
theorem flitReceive_wide {v : State} {P : State → Prop} (hv : (s.flitCounted p.val fixed).takeWide p.val d = v)
    (hP : ∀ t, SameBut [.queue, .time] v t → (∀ l, SameBut l s v → SameBut l s t) → P t) :
    ∃ t, exec (.flitReceive p q true data fixed) s = .next t ∧ P t := by
  have port := State.port_of_ports (s.same_flitCounted p.val fixed).ports p.val
  have taken := State.takeFlit_eq_takeWide (s := s.flitCounted p.val fixed)
    ((s.sameLink_flitCounted p.val fixed).format ▸ hf) (port ▸ he) (port ▸ hd)
  exact exec_shows (exec_flitReceive s p q true data fixed) ((if_neg (by simp [hl])).trans (taken.trans hv)) hP

theorem flitReceive_expected (h : d = 0) :
    ∃ t, exec (.flitReceive p q true data fixed) s = .next t ∧
      (t.port p.val).expect = ((s.port p.val).expect + 1) % 1024 ∧ (t.port p.val).nakInForce = false ∧
      (t.port p.val).ackDue = true ∧ SameBut [.regs, .freeCtr, .tel, .ports] s t := by
  have hu := s.same_flitCounted p.val fixed
  refine flitReceive_wide s p q data fixed hl d hf hd he (if_pos h) fun t same keep => ?_
  rw [State.port_of_ports same.ports, State.port_modPort, State.port_of_ports hu.ports]
  exact ⟨rfl, rfl, rfl, keep _ (hu.then (State.same_modPort _ _ _))⟩

theorem flitReceive_duplicate (h : 513 ≤ d) :
    ∃ t, exec (.flitReceive p q true data fixed) s = .next t ∧
      (t.port p.val).expect = (s.port p.val).expect ∧ (t.port p.val).ackDue = true ∧
      (s.r (K.portDuplicatesDiscarded p.val) + 1 < 2 ^ Schema.width (K.portDuplicatesDiscarded p.val) →
        t.r (K.portDuplicatesDiscarded p.val) = s.r (K.portDuplicatesDiscarded p.val) + 1) ∧
      SameBut [.regs, .freeCtr, .tel, .ports] s t := by
  let u := s.flitCounted p.val fixed
  have hw : SameBut [.regs, .freeCtr, .tel] s (u.bump (K.portDuplicatesDiscarded p.val) 1) :=
    (s.same_flitCounted p.val fixed).then (u.same_bump _ _)
  have before : u.r (K.portDuplicatesDiscarded p.val) = s.r (K.portDuplicatesDiscarded p.val) := State.r_flitCounted_ne
  refine flitReceive_wide s p q data fixed hl d hf hd he ((if_neg (by omega)).trans (if_pos h)) fun t same keep => ?_
  rw [State.port_of_ports same.ports, State.port_modPort, State.port_of_ports hw.ports, same.r, State.r_modPort]
  refine ⟨rfl, rfl, fun hc => ?_, keep _ (hw.then (State.same_modPort _ _ _))⟩
  rw [← before] at hc ⊢
  exact State.r_bump_self hc

theorem flitReceive_ahead (hr : s.linksRun = true) (h1 : 1 ≤ d) (h2 : d ≤ 510) (hn : (s.port p.val).nakInForce = false) :
    ∃ t, exec (.flitReceive p q true data fixed) s = .next t ∧
      t.out = s.out ++ [.nak p.val (((s.port p.val).expect + 1023) % 1024)] ∧ (t.port p.val).nakInForce = true ∧
      (t.port p.val).expect = (s.port p.val).expect ∧ SameBut [.regs, .freeCtr, .tel, .ports, .out] s t := by
  let u := s.flitCounted p.val fixed
  have hu := s.same_flitCounted p.val fixed
  have hlink := s.sameLink_flitCounted p.val fixed
  have port : u.port p.val = s.port p.val := State.port_of_ports hu.ports p.val
  obtain ⟨out, force, expect, asked⟩ := State.askReplay_asks (s := u) (hlink.linksRun.trans hr) (port ▸ hn) rfl
  refine flitReceive_wide s p q data fixed hl d hf hd he (State.takeWide_ahead h1 h2) fun t same keep => ?_
  rw [State.port_of_ports same.ports, same.out, out, hu.out, expect, port, hlink.format, seqMod_wide hf]
  exact ⟨rfl, force, rfl, keep _ (hu.then asked)⟩

theorem flitReceive_ahead_again (h1 : 1 ≤ d) (h2 : d ≤ 510) (hn : (s.port p.val).nakInForce = true) :
    ∃ t, exec (.flitReceive p q true data fixed) s = .next t ∧ SameBut [.regs, .freeCtr, .tel] s t := by
  have hu := s.same_flitCounted p.val fixed
  have port := State.port_of_ports hu.ports p.val
  exact flitReceive_wide s p q data fixed hl d hf hd he
    ((State.takeWide_ahead h1 h2).trans (State.askReplay_once (port ▸ hn))) fun t _ keep => keep _ hu

theorem flitReceive_impossible (h : d = 511 ∨ d = 512) :
    ∃ t, exec (.flitReceive p q true data fixed) s = .next t ∧ t.link p.val = .retraining ∧
      (s.r (K.portSequenceErrors p.val) + 1 < 2 ^ Schema.width (K.portSequenceErrors p.val) →
        t.r (K.portSequenceErrors p.val) = s.r (K.portSequenceErrors p.val) + 1) ∧
      SameBut [.regs, .freeCtr, .tel, .ports, .onyx] s t := by
  let u := s.flitCounted p.val fixed
  have hx : u.portExists p.val = true := State.portExists_of_link ((s.sameLink_flitCounted p.val fixed).link.trans hl)
  have before : u.r (K.portSequenceErrors p.val) = s.r (K.portSequenceErrors p.val) := State.r_flitCounted_ne
  refine flitReceive_wide s p q data fixed hl d hf hd he (State.takeWide_impossible h) fun t same keep =>
    ⟨?_, fun hc => ?_, keep _ ((s.same_flitCounted p.val fixed).then (u.same_sequenceError p.val))⟩
  · exact (State.link_of_regs same.regs _).trans (State.link_sequenceError hx)
  · rw [same.r]
    rw [← before] at hc ⊢
    exact State.sequenceErrors_sequenceError hc

end Wide

/-- FLIT_RECEIVE of a flit that fails its check: it is counted as bad, and asked for again at once without 256-byte flits. -/
theorem flitReceive_bad {v : State} {P : State → Prop}
    (hv : (if s.format p.val ≤ 1 then (s.badFlitCounted p.val fixed).askReplay p.val
      else s.badFlitCounted p.val fixed) = v)
    (hP : ∀ t, SameBut [.queue, .time] v t → (∀ l, SameBut l s v → SameBut l s t) → P t) :
    ∃ t, exec (.flitReceive p q false data fixed) s = .next t ∧ P t := by
  rw [← (s.sameLink_badFlitCounted p.val fixed).format] at hv
  exact exec_shows (exec_flitReceive s p q false data fixed) ((if_neg (by simp [hl])).trans hv) hP

theorem flitReceive_bad_wide (hf : 2 ≤ s.format p.val) :
    ∃ t, exec (.flitReceive p q false data fixed) s = .next t ∧ t.ports = s.ports ∧
      SameBut [.regs, .freeCtr, .tel] s t := by
  have hw := s.same_badFlitCounted p.val fixed
  exact flitReceive_bad s p q data fixed hl (if_neg (by omega)) fun t same keep =>
    ⟨same.ports.trans hw.ports, keep _ hw⟩

theorem flitReceive_bad_narrow (hr : s.linksRun = true) (hf : s.format p.val ≤ 1) (hn : (s.port p.val).nakInForce = false) :
    ∃ t, exec (.flitReceive p q false data fixed) s = .next t ∧
      t.out = s.out ++ [.nak p.val (((s.port p.val).expect + seqMod (s.format p.val) - 1) % seqMod (s.format p.val))] ∧
      (t.port p.val).nakInForce = true ∧ (t.port p.val).expect = (s.port p.val).expect ∧
      SameBut [.regs, .freeCtr, .tel, .ports, .out] s t := by
  let w := s.badFlitCounted p.val fixed
  have hw := s.same_badFlitCounted p.val fixed
  have hlink := s.sameLink_badFlitCounted p.val fixed
  have port : w.port p.val = s.port p.val := State.port_of_ports hw.ports p.val
  obtain ⟨out, force, expect, asked⟩ := State.askReplay_asks (s := w) (hlink.linksRun.trans hr) (port ▸ hn) rfl
  refine flitReceive_bad s p q data fixed hl (if_pos hf) fun t same keep => ?_
  rw [State.port_of_ports same.ports, same.out, out, hw.out, expect, port, hlink.format]
  exact ⟨rfl, force, rfl, keep _ (hw.then asked)⟩

end Received

/-- A marker is due at a flit boundary of a Weuri link alone, after 4,096 flits (R76). -/
theorem State.markerDue_iff : s.markerDue p = true ↔ s.portMode p = 3 ∧ 4096 ≤ (s.port p).flits := by
  simp [State.markerDue]

/-- Settles O42: flits by their place behind E, markers due and lost, and bad flits without 256-byte flits. -/
theorem flitsAreTakenInSequence : Obligations.FlitsAreTakenInSequence := by
  refine ⟨fun s p q data fixed d hl hf hd he =>
      ⟨flitReceive_expected s p q data fixed hl d hf hd he, flitReceive_duplicate s p q data fixed hl d hf hd he,
       flitReceive_ahead s p q data fixed hl d hf hd he, flitReceive_ahead_again s p q data fixed hl d hf hd he,
       flitReceive_impossible s p q data fixed hl d hf hd he, flitReceive_bad_wide s p q data fixed hl hf⟩,
    fun s p hr hc hm => ?_,
    fun s p copies hm hl hgood => weuriMarkerReceive_retrains s p hm hl copies (.inl hgood),
    fun s p q data fixed m hr hl hf hm hn => hm ▸ flitReceive_bad_narrow s p q data fixed hl hr hf hn⟩
  obtain ⟨mode, flits⟩ := State.markerDue_iff.1 hm
  obtain ⟨t, he, -, marker, flits0, -, -, -, same⟩ := weuriMarkerTransmit_sends s p mode hr hc flits
  exact ⟨t, he, flits0, marker, same⟩

end Sys2Proof.Machine
end

section
/-! Acknowledgements, replays and credits (05; R91 to R97). -/

namespace Sys2Proof.Machine

variable {s : State} {p : Nat}

/-! ## Flits released, and replayed (R92, R95) -/

theorem State.same_endStall (s : State) (p : Nat) : SameBut [.regs, .freeCtr, .ports] s (s.endStall p) := by
  unfold State.endStall
  split
  · exact (s.same_bump _ _).then (State.same_modPort _ _ _)
  · exact .refl _ s

theorem State.sameLink_endStall (s : State) (p : Nat) : SameLink p s (s.endStall p) := by
  unfold State.endStall
  split
  · exact s.sameLink_bump.then_regs rfl
  · exact .of_regs rfl

/-- The end of a window's stall leaves the flits of a replay as they were. -/
theorem State.resend_endStall (s : State) (p : Nat) : ((s.endStall p).port p).resend = (s.port p).resend := by
  unfold State.endStall
  split
  · rw [State.port_modPort, State.port_of_ports (s.same_bump _ _).ports]
  · rfl

theorem State.same_releaseFlits (s : State) (p n : Nat) :
    SameBut [.regs, .freeCtr, .ports] s (s.releaseFlits p n) :=
  ((s.same_endStall p).then (State.same_modPort _ _ _) (n := [.regs, .freeCtr, .ports])).then (State.same_modPort _ _ _)

theorem State.sameLink_releaseFlits (s : State) (p n : Nat) : SameLink p s (s.releaseFlits p n) :=
  (s.sameLink_endStall p).then_regs rfl

/-- What the port holds once n flits are released: the rest, no replay counted, and of a replay what is still outstanding. -/
theorem State.port_releaseFlits (s : State) (p n : Nat) :
    ((s.releaseFlits p n).port p).outstanding = (s.port p).outstanding.drop n ∧
    ((s.releaseFlits p n).port p).replays = 0 ∧
    ((s.releaseFlits p n).port p).resend = (s.port p).resend.filter (fun q =>
      ((s.port p).outstanding.drop n).any (fun f => decide (f.sequence = q))) := by
  rw [State.releaseFlits, State.port_modPort, State.dropFlits, State.port_modPort, State.resend_endStall]
  exact ⟨rfl, rfl, rfl⟩

/-- The state in which a replay has begun: of the oldest flit alone, or of every outstanding one. -/
def State.replayBegun (s : State) (p : Nat) (selective : Bool) : State :=
  (s.bump (K.portReplaysSent p) 1).modPort p (fun x => { x with
    replays := (s.port p).replays + 1, replayRunning := true, replayAt := s.clock
    resend := if selective then ((s.port p).outstanding.map (·.sequence)).take 1
      else (s.port p).outstanding.map (·.sequence) })

theorem State.same_replayBegun (s : State) (p : Nat) (sel : Bool) :
    SameBut [.regs, .freeCtr, .ports] s (s.replayBegun p sel) :=
  (s.same_bump _ _).then (State.same_modPort _ _ _)

theorem State.sameLink_replayBegun (s : State) (p : Nat) (sel : Bool) : SameLink p s (s.replayBegun p sel) :=
  s.sameLink_bump.then_regs rfl

theorem State.port_replayBegun (s : State) (p : Nat) (sel : Bool) :
    ((s.replayBegun p sel).port p).outstanding = (s.port p).outstanding ∧
    ((s.replayBegun p sel).port p).replays = (s.port p).replays + 1 ∧
    ((s.replayBegun p sel).port p).resend = if sel then ((s.port p).outstanding.map (·.sequence)).take 1
      else (s.port p).outstanding.map (·.sequence) := by
  rw [State.replayBegun, State.port_modPort, State.port_of_ports (s.same_bump _ _).ports]
  exact ⟨rfl, rfl, rfl⟩

/-- The state in which the fourth replay of a flit ends in Recovery (R95). -/
def State.rolledOver (s : State) (p : Nat) : State :=
  ((s.modPort p (fun x => { x with replays := 0 })).retrain p).occur (Src.port p 2)

theorem State.same_rolledOver (s : State) (p : Nat) : SameBut [.regs, .freeCtr, .ports, .onyx] s (s.rolledOver p) :=
  ((s.same_modPort _ _).then (State.same_retrain _ _) (n := [.regs, .freeCtr, .ports])).then (State.same_occur _ _)

theorem State.link_rolledOver (hx : s.portExists p = true) : (s.rolledOver p).link p = .retraining := by
  rw [State.rolledOver, State.link_of_regs (State.same_occur _ _).regs]
  exact State.link_retrain hx

/-- Recovery ends a replay in progress and leaves the rest of the port as it was. -/
theorem State.port_retrain (s : State) (p : Nat) : (s.retrain p).port p = { s.port p with resend := [] } := by
  have before : SameBut [.regs, .freeCtr] s (((s.beginHold p).setLink p .retraining).bump (K.portRetrainCount p) 1) :=
    ((s.same_beginHold p).trans (State.same_w _ _ _)).then (State.same_bump _ _ _)
  rw [State.retrain, State.port_modPort, State.port_of_ports before.ports]

theorem State.outstanding_rolledOver (s : State) (p : Nat) :
    ((s.rolledOver p).port p).outstanding = (s.port p).outstanding := by
  rw [State.rolledOver, State.port_of_ports (State.same_occur _ _).ports, State.port_retrain, State.port_modPort]

/-- A replay begins, and ends in Recovery where it is the fourth in a row (R95). -/
theorem State.replay_eq (s : State) (p : Nat) (sel : Bool) :
    s.replay p sel = if (s.port p).replays = 3 then (s.replayBegun p sel).rolledOver p else s.replayBegun p sel := by
  have fourth : (s.port p).replays + 1 = 4 ↔ (s.port p).replays = 3 := by omega
  unfold State.replay
  exact ite_congr (propext fourth) (fun _ => rfl) (fun _ => rfl)

section Acknowledged

variable (s : State) (p : PortId) (q : Fin 4096) (hl : s.link p.val = .active)
include hl

/-- ACK_RECEIVE of an outstanding flit. -/
theorem ackReceive_releases {n : Nat} (hq : (s.port p.val).place (seqMod (s.format p.val)) q.val = .held n) :
    ∃ t, exec (.ackReceive p q) s = .next t ∧ (t.port p.val).outstanding = (s.port p.val).outstanding.drop n ∧
      (t.port p.val).replays = 0 ∧ SameBut [.regs, .freeCtr, .ports] s t := by
  obtain ⟨left, zero, -⟩ := s.port_releaseFlits p.val n
  refine exec_shows (exec_ackReceive s p q) (u := s.releaseFlits p.val n) ((if_neg (by simp [hl])).trans (by rw [hq]))
    fun t same keep => ?_
  rw [State.port_of_ports same.ports]
  exact ⟨left, zero, keep _ (s.same_releaseFlits p.val n)⟩

/-- NAK_RECEIVE of an outstanding flit: those up to it are released, and of the rest a replay begins. -/
theorem nakReceive_replays {n : Nat} (one : Bool)
    (hq : (s.port p.val).place (seqMod (s.format p.val)) q.val = .held n) :
    ∃ t, exec (.nakReceive p ⟨q, one⟩) s = .next t ∧ (t.port p.val).outstanding = (s.port p.val).outstanding.drop n ∧
      (t.port p.val).resend = (if one = true ∧ s.portMode p.val = 1 ∧ s.format p.val = 2
        then ((s.port p.val).outstanding.drop n).take 1 else (s.port p.val).outstanding.drop n).map (·.sequence) ∧
      t.link p.val = .active ∧ SameBut [.regs, .freeCtr, .ports] s t := by
  let u := s.releaseFlits p.val n
  let sel := one && u.portMode p.val = 1 && u.format p.val = 2
  have hu := s.same_releaseFlits p.val n
  have hlink : SameLink p.val s u := s.sameLink_releaseFlits p.val n
  obtain ⟨left, zero, resend⟩ := s.port_releaseFlits p.val n
  have hsel : sel = true ↔ one = true ∧ s.portMode p.val = 1 ∧ s.format p.val = 2 := by
    simp [sel, hlink.portMode, hlink.format, and_assoc]
  refine exec_shows (exec_nakReceive s p ⟨q, one⟩)
    (u := if (u.port p.val).outstanding.isEmpty then u else u.replay p.val sel)
    ((if_neg (by simp [hl])).trans (by dsimp only; rw [hq])) fun t same keep => ?_
  rw [State.port_of_ports same.ports, State.link_of_regs same.regs]
  by_cases rest : (s.port p.val).outstanding.drop n = []
  · rw [if_pos (by simp [u, left, rest])] at keep ⊢
    refine ⟨left, ?_, hlink.link.trans hl, keep _ hu⟩
    simp [u, resend, rest]
  · have begun : u.replay p.val sel = u.replayBegun p.val sel := (u.replay_eq p.val sel).trans (if_neg (by simp [u, zero]))
    rw [if_neg (by simp [u, left, rest]), begun] at keep ⊢
    obtain ⟨kept, -, again⟩ := u.port_replayBegun p.val sel
    refine ⟨kept.trans left, again.trans ?_, (hlink.trans (u.sameLink_replayBegun p.val sel)).link.trans hl,
      keep _ (hu.trans (u.same_replayBegun p.val sel))⟩
    rw [left, apply_ite (List.map Flit.sequence), List.map_take]
    exact ite_congr (propext hsel) (fun _ => rfl) (fun _ => rfl)

/-- An acknowledgement of a flit not yet sent is a sequence error. -/
theorem sequenceError_shows {r : Res} {f : State → State} (he : r = effect f s) (hf : f s = s.sequenceError p.val) :
    ∃ t, r = .next t ∧ t.link p.val = .retraining ∧ SameBut [.regs, .freeCtr, .ports, .onyx] s t :=
  exec_shows he hf fun _ same keep =>
    ⟨(State.link_of_regs same.regs _).trans (State.link_sequenceError (State.portExists_of_link hl)),
     keep _ (s.same_sequenceError p.val)⟩

theorem ackReceive_unsent (hq : (s.port p.val).place (seqMod (s.format p.val)) q.val = .unsent) :
    ∃ t, exec (.ackReceive p q) s = .next t ∧ t.link p.val = .retraining ∧ SameBut [.regs, .freeCtr, .ports, .onyx] s t :=
  sequenceError_shows s p hl (exec_ackReceive s p q) ((if_neg (by simp [hl])).trans (by rw [hq]))

theorem nakReceive_unsent (one : Bool) (hq : (s.port p.val).place (seqMod (s.format p.val)) q.val = .unsent) :
    ∃ t, exec (.nakReceive p ⟨q, one⟩) s = .next t ∧ t.link p.val = .retraining ∧
      SameBut [.regs, .freeCtr, .ports, .onyx] s t :=
  sequenceError_shows s p hl (exec_nakReceive s p ⟨q, one⟩) ((if_neg (by simp [hl])).trans (by dsimp only; rw [hq]))

end Acknowledged

/-- REPLAY_TIMER_EXPIRY where the timer of an ACTIVE port has run. -/
theorem replayTimerExpiry_replays (s : State) (p : PortId) (hr : s.linksRun = true) (hl : s.link p.val = .active)
    (hd : s.replayDue p.val = true) :
    ∃ t, exec (.replayTimerExpiry p) s = .next t ∧ (t.port p.val).outstanding = (s.port p.val).outstanding ∧
      ((s.port p.val).replays ≠ 3 → t.link p.val = .active ∧ (t.port p.val).replays = (s.port p.val).replays + 1 ∧
        (t.port p.val).resend = (s.port p.val).outstanding.map (·.sequence)) ∧
      ((s.port p.val).replays = 3 → t.link p.val = .retraining) ∧ SameBut [.regs, .freeCtr, .ports, .onyx] s t := by
  let u := s.replayBegun p.val false
  have hu := s.same_replayBegun p.val false
  have active : u.link p.val = .active := (s.sameLink_replayBegun p.val false).link.trans hl
  obtain ⟨kept, counted, again⟩ := s.port_replayBegun p.val false
  refine exec_shows (exec_replayTimerExpiry s p) (u := if (s.port p.val).replays = 3 then u.rolledOver p.val else u)
    ((if_pos (by simp [hr, hl, hd])).trans (s.replay_eq p.val false)) fun t same keep => ?_
  rw [State.port_of_ports same.ports, State.link_of_regs same.regs]
  by_cases fourth : (s.port p.val).replays = 3
  · rw [if_pos fourth] at keep ⊢
    exact ⟨(u.outstanding_rolledOver p.val).trans kept, fun h => absurd fourth h,
      fun _ => State.link_rolledOver (State.portExists_of_link active), keep _ (hu.then (u.same_rolledOver p.val))⟩
  · rw [if_neg fourth] at keep ⊢
    exact ⟨kept, fun _ => ⟨active, counted, again⟩, fun h => absurd h fourth, keep _ (hu.mono (by decide))⟩

/-- REPLAY_TIMER_EXPIRY where the timer has not run. -/
theorem replayTimerExpiry_idle (s : State) (p : PortId) (hd : s.replayDue p.val = false) :
    ∃ t, exec (.replayTimerExpiry p) s = .next t ∧ SameBut [] s t :=
  exec_idle (exec_replayTimerExpiry s p) (if_neg (by simp [hd]))

/-! ## Credits (R91, R97) -/

/-- The port but for its credit timers and the time that they have run. -/
def PortSt.untimed (x : PortSt) : PortSt := { x with creditTimer := [], stalledNs := [] }

/-- Counting the time of running credit timers leaves the rest of the port as it was. -/
theorem State.untimed_accrueStalls (s : State) (p : Nat) :
    ((s.accrueStalls p).port p).untimed = (s.port p).untimed := by
  refine State.each_keeps (fun u => (u.port p).untimed) _ (fun u e => ?_) _ s
  dsimp only
  rw [State.port_modPort, State.port_of_ports (u.same_count _ _ _).ports]
  rfl

/-- Watching credits leaves the port as it was, but for its timers. -/
theorem State.untimed_creditWatch (s : State) (p : Nat) :
    ((s.creditWatch p).port p).untimed = (s.port p).untimed := by
  rw [State.creditWatch, State.port_modPort]
  split
  · rfl
  · exact s.untimed_accrueStalls p

/-- What does not hang on a port's credit timers stays as it was where its credits are watched. -/
theorem State.creditWatch_keeps {β : Type} (s : State) (p : Nat) (g : PortSt → β) (hg : ∀ x, g x.untimed = g x) :
    g ((s.creditWatch p).port p) = g (s.port p) := by
  rw [← hg, s.untimed_creditWatch, hg]

/-- An update's counts are taken where they exceed what is known (R91). -/
theorem getD_raised (t : Tbl (Nat × Nat)) (c h d : Nat) :
    Tbl.getD (raised t c h d) c (0, 0) = (max (Tbl.getD t c (0, 0)).1 h, max (Tbl.getD t c (0, 0)).2 d) :=
  Tbl.getD_putD_self t c _ (0, 0)

/-- CREDIT_UPDATE_RECEIVE on an ACTIVE port. -/
theorem creditUpdateReceive_raises (s : State) (p : PortId) (c : Chan) (h d : Credits) (hl : s.link p.val = .active) :
    ∃ t, exec (.creditUpdateReceive p c h d) s = .next t ∧ Tbl.getD (t.port p.val).credits (chanNum c) (0, 0) =
        (max (Tbl.getD (s.port p.val).credits (chanNum c) (0, 0)).1 h.dedicated,
         max (Tbl.getD (s.port p.val).credits (chanNum c) (0, 0)).2 d.dedicated) ∧
      Tbl.getD (t.port p.val).shared (chanNum c) (0, 0) =
        (max (Tbl.getD (s.port p.val).shared (chanNum c) (0, 0)).1 h.shared,
         max (Tbl.getD (s.port p.val).shared (chanNum c) (0, 0)).2 d.shared) ∧ SameBut [.ports, .tel] s t := by
  let v := s.modPort p.val (fun x => { x with
    credits := raised x.credits (chanNum c) h.dedicated d.dedicated
    shared := raised x.shared (chanNum c) h.shared d.shared })
  have credits := v.creditWatch_keeps p.val PortSt.credits fun _ => rfl
  have shared := v.creditWatch_keeps p.val PortSt.shared fun _ => rfl
  refine exec_shows (exec_creditUpdateReceive s p c h d) (u := v.creditWatch p.val) (if_neg (by simp [hl]))
    fun t same keep => ?_
  rw [State.port_of_ports same.ports, credits, shared, State.port_modPort]
  exact ⟨getD_raised _ _ _ _, getD_raised _ _ _ _, keep _ ((s.same_modPort _ _).then (v.same_creditWatch p.val))⟩

/-- CREDIT_UPDATE_REPEAT on an ACTIVE port. -/
theorem creditUpdateRepeat_sends (s : State) (p : PortId) (hr : s.linksRun = true) (hl : s.link p.val = .active) :
    ∃ t, exec (.creditUpdateRepeat p) s = .next t ∧
      t.out = s.out ++ (s.port p.val).granted.map (fun g => .creditUpdate p.val g.1 g.2.1 g.2.2) ∧ SameBut [.out] s t :=
  exec_shows (exec_creditUpdateRepeat s p) (if_neg (by simp [hr, hl])) fun _ same keep =>
    ⟨same.out.trans (State.out_each_emit _ _ s), keep _ (s.same_each _ _ (fun u _ => u.same_emit _) _)⟩

/-- The state in which a channel's credit timeout has been counted and reported (R97). -/
def State.creditTimedOut (s : State) (p c : Nat) : State :=
  (((s.bump (K.portCreditTimeouts p) 1).accrueStalls p).modPort p (fun x => { x with
    creditTimer := Tbl.del x.creditTimer c, stalledNs := Tbl.del x.stalledNs c
    lastTimeout := Tbl.put x.lastTimeout c 0 })).occur (Src.port p 3)

theorem State.same_creditTimedOut (s : State) (p c : Nat) :
    SameBut [.regs, .freeCtr, .ports, .onyx, .tel] s (s.creditTimedOut p c) :=
  (((s.same_bump _ _).then (State.same_accrueStalls _ p) (n := [.regs, .freeCtr, .ports, .tel])).then
    (State.same_modPort _ _ _) (n := [.regs, .freeCtr, .ports, .tel])).then (State.same_occur _ _)

theorem State.sameLink_creditTimedOut (s : State) (p c : Nat) : SameLink p s (s.creditTimedOut p c) :=
  s.sameLink_bump.then_regs ((State.same_occur _ _).regs.trans (State.same_accrueStalls _ p).regs)

theorem State.creditTimer_creditTimedOut (s : State) (p c : Nat) :
    Tbl.find ((s.creditTimedOut p c).port p).creditTimer c = none := by
  rw [State.creditTimedOut, State.port_of_ports (State.same_occur _ _).ports, State.port_modPort]
  exact Tbl.find_del_self _ c

/-- CREDIT_TIMEOUT of a channel's first expiry on an ACTIVE port. -/
theorem creditTimeout_retrains (s : State) (p : PortId) (c : Chan) (n k : Nat) (hl : s.link p.val = .active)
    (ht : Tbl.find (s.port p.val).creditTimer (chanNum c) = some (n, k))
    (hn : Tbl.find (s.port p.val).lastTimeout (chanNum c) = none)
    (hd : (n + s.r (K.portCreditTimeout p.val)) * 1024 + k ≤ s.beat * 1024 + s.tick) :
    ∃ t, exec (.creditTimeout p c) s = .next t ∧ t.link p.val = .retraining ∧
      Tbl.find (t.port p.val).creditTimer (chanNum c) = none ∧ SameBut [.regs, .freeCtr, .ports, .onyx, .tel] s t := by
  let u := s.creditTimedOut p.val (chanNum c)
  have first (e : Nat) : ¬ s.timesOutAgain p.val (chanNum c) e = true := by simp [State.timesOutAgain, hn]
  have active : u.link p.val = .active := (s.sameLink_creditTimedOut p.val (chanNum c)).link.trans hl
  refine exec_shows (exec_creditTimeout s p c) (u := u.retrain p.val) ?_ fun t same keep => ?_
  · dsimp only
    rw [ht]
    exact (if_neg (by simp [hl, hd])).trans (if_neg (first _))
  · rw [State.link_of_regs same.regs, State.port_of_ports same.ports, State.port_retrain]
    exact ⟨State.link_retrain (State.portExists_of_link active), s.creditTimer_creditTimedOut p.val (chanNum c),
      keep _ ((s.same_creditTimedOut _ _).then (u.same_retrain p.val))⟩

/-- Settles O43: by the place of what is acknowledged, the replay timer, and the credits of each channel. -/
theorem replayAndCredits : Obligations.ReplayAndCredits :=
  ⟨fun s p q _ one hl hq => ⟨ackReceive_releases s p q hl hq, nakReceive_replays s p q hl one hq⟩,
   fun s p q one hl hq => ⟨ackReceive_unsent s p q hl hq, nakReceive_unsent s p q hl one hq⟩,
   replayTimerExpiry_replays, replayTimerExpiry_idle, creditUpdateReceive_raises, creditUpdateRepeat_sends,
   creditTimeout_retrains⟩

end Sys2Proof.Machine
end

section
/-! What a port transmits at a flit boundary, and the samples of its queues (05, 07; R92, R95, R128 to R130, R138). -/

namespace Sys2Proof.Machine

variable {s t u : State} {p : Nat} {l : List Part}

/-! ## What a port's transmitter holds -/

/-- What a port holds of its flits: those outstanding and to be replayed, the requests to be sent again, a stall of the window,
and the lane that it substitutes. -/
def PortSt.sending (x : PortSt) : PortSt :=
  { outstanding := x.outstanding, nextTx := x.nextTx, resend := x.resend, reissues := x.reissues
    replayRunning := x.replayRunning, stalledAt := x.stalledAt, txSub := x.txSub, subbed := x.subbed }

/-- Ports that hold the same of their flits agree in all that hangs on it. -/
theorem PortSt.agree {β : Type} {x y : PortSt} (h : x.sending = y.sending) (g : PortSt → β)
    (hg : ∀ x, g x.sending = g x) : g x = g y := by
  rw [← hg x, h, hg]

/-- The lanes of a port's flits follow from its mode and the lane that it substitutes. -/
theorem State.stripes_congr (hr : t.regs = s.regs) (hs : (t.port p).subbed = (s.port p).subbed)
    (ht : (t.port p).txSub = (s.port p).txSub) : t.stripes p = s.stripes p := by
  simp only [State.stripes, State.portMode_of_regs hr, hs, ht]

/-- A port's egress buffer follows from the core alone. -/
theorem State.egress_of_core (h : t.core = s.core) (p : Nat) : t.egress p = s.egress p := by simp [State.egress, h]

theorem State.same_modEgress (s : State) (p : Nat) (f : EgressSt → EgressSt) : SameBut [.core] s (s.modEgress p f) :=
  s.same_core _

@[simp] theorem State.egress_modEgress (s : State) (p : Nat) (f : EgressSt → EgressSt) :
    (s.modEgress p f).egress p = f (s.egress p) := by simp [State.egress, State.modEgress]

/-- From s to t the parts `l` may change, but port p holds the same of its flits, its egress buffer is as it was, and what has
been sent stays sent. -/
structure KeepsFlits (l : List Part) (p : Nat) (s t : State) : Prop where
  same : SameBut l s t
  sending : (t.port p).sending = (s.port p).sending
  egress : t.egress p = s.egress p
  out : ∀ o ∈ s.out, o ∈ t.out

theorem KeepsFlits.refl (l : List Part) (p : Nat) (s : State) : KeepsFlits l p s s :=
  ⟨.refl l s, rfl, rfl, fun _ h => h⟩

theorem KeepsFlits.trans (h : KeepsFlits l p s t) (g : KeepsFlits l p t u) : KeepsFlits l p s u where
  same := h.same.trans g.same
  sending := g.sending.trans h.sending
  egress := g.egress.trans h.egress
  out o ho := g.out o (h.out o ho)

theorem KeepsFlits.mono {m : List Part} (h : KeepsFlits l p s t) (hm : ∀ x ∈ l, x ∈ m := by decide) : KeepsFlits m p s t :=
  { h with same := h.same.mono hm }

/-- What every step of a fold keeps, the fold keeps. -/
theorem KeepsFlits.each {α : Type} (f : State → α → State) (h : ∀ u x, KeepsFlits l p u (f u x)) (xs : List α) (s : State) :
    KeepsFlits l p s (s.each xs f) := by
  unfold State.each
  induction xs generalizing s with
  | nil => exact .refl l p s
  | cons x xs ih => exact (h s x).trans (ih (f s x))

theorem State.keeps_emit (s : State) (p : Nat) (o : Out) : KeepsFlits [.out] p s (s.emit o) :=
  ⟨s.same_emit o, rfl, rfl, fun _ h => List.mem_append_left _ h⟩

theorem State.keeps_modPort (s : State) (p : Nat) (f : PortSt → PortSt) (hf : (f (s.port p)).sending = (s.port p).sending) :
    KeepsFlits [.ports] p s (s.modPort p f) :=
  ⟨s.same_modPort p f, by rw [State.port_modPort, hf], rfl, fun _ h => h⟩

theorem State.keeps_count (s : State) (p ev n : Nat) (e : EventOf) : KeepsFlits [.tel] p s (s.count ev n e) :=
  have same := s.same_count ev n e
  ⟨same, congrArg PortSt.sending (State.port_of_ports same.ports p), State.egress_of_core same.core p,
   fun _ h => same.out ▸ h⟩

/-- Watching credits changes credit timers and counts their time (R97). -/
theorem State.keeps_creditWatch (s : State) (p : Nat) : KeepsFlits [.tel, .ports] p s (s.creditWatch p) :=
  have same := s.same_creditWatch p
  ⟨same, s.creditWatch_keeps p PortSt.sending fun _ => rfl, State.egress_of_core same.core p, fun _ h => same.out ▸ h⟩

/-- An acknowledgement carried changes what is due and what has been sent (R94). -/
theorem State.keeps_carryAck (s : State) (p : Nat) : KeepsFlits [.ports, .out] p s (s.carryAck p) := by
  refine ((s.keeps_modPort p (fun y => { y with flits := y.flits + 1 }) rfl).mono (m := [.ports, .out])).trans ?_
  unfold State.carryAck
  dsimp only
  split
  · exact ((State.keeps_modPort _ p _ rfl).mono).trans ((State.keeps_emit _ p _).mono)
  · exact (State.keeps_modPort _ p _ rfl).mono

theorem State.keeps_idleFlit (s : State) (p : Nat) : KeepsFlits [.ports, .out] p s (s.idleFlit p) :=
  (s.keeps_emit p _).mono.trans (State.keeps_carryAck _ p)

/-- A port that counts a request sent, in a core with the same egress buffers. -/
theorem State.keeps_sentCount (s : State) (p n : Nat) (x : CoreSt) (hx : x.egress = s.core.egress) :
    KeepsFlits [.core, .ports, .out] p s { s.modPort p (fun y => { y with sentCount := n }) with core := x } :=
  (s.keeps_modPort p _ rfl).mono.trans
    ⟨(State.same_core _ x).mono (by decide), rfl, by simp [State.egress, hx], fun _ h => h⟩

/-- A message that leaves is recorded in its request's tag (R100). -/
theorem State.keeps_msgSent (s : State) (p : Nat) (m : Msg) : KeepsFlits [.core, .ports, .out] p s (s.msgSent p m) := by
  unfold State.msgSent
  dsimp only
  split
  · exact (s.keeps_emit p _).mono
  · split
    · exact (s.keeps_emit p _).mono
    · split
      · exact (s.keeps_emit p _).mono
      · exact (s.keeps_emit p _).mono.trans (State.keeps_sentCount _ p _ _ rfl)

/-- The credits that messages take leave the flits of the port as they were. -/
theorem PortSt.sending_consume (host : Bool) (ms : List Msg) (x : PortSt) :
    (ms.foldl (fun z m => z.consume host m) x).sending = x.sending := by
  induction ms generalizing x with
  | nil => rfl
  | cons m ms ih => exact ih (x.consume host m)

/-! ## What is sent at a flit boundary (R92, R95, R128, R129) -/

/-- A replay sends its next flit again, over the lanes that carry its bytes. -/
theorem State.resendNext_sends {f : Flit} (hf : (s.port p).outstanding.find? (fun g => decide (g.sequence = f.sequence)) = some f)
    {v : State} (hv : s.resendNext p f.sequence = v) :
    (v.port p).sending = { s.port p with resend := (s.port p).resend.drop 1 }.sending ∧
    .flit p f.sequence f.payload (s.stripes p) ∈ v.out ∧ SameBut [.ports, .out] s v := by
  let u := s.modPort p (fun y => { y with resend := y.resend.drop 1 })
  have port : u.port p = { s.port p with resend := (s.port p).resend.drop 1 } := State.port_modPort _ _ _
  have lanes : u.stripes p = s.stripes p := State.stripes_congr rfl (by rw [port]) (by rw [port])
  have sent : s.resendNext p f.sequence = (u.emit (.flit p f.sequence f.payload (s.stripes p))).carryAck p := by
    have found : (u.port p).outstanding.find? (fun g => decide (g.sequence = f.sequence)) = some f := by rw [port, hf]
    rw [State.resendNext, ← lanes, found]
  subst hv
  rw [sent, ← port]
  have keeps := (u.keeps_emit p _).mono.trans (State.keeps_carryAck (u.emit (.flit p f.sequence f.payload (s.stripes p))) p)
  exact ⟨keeps.sending, (State.keeps_carryAck _ p).out _ List.mem_concat_self, (s.same_modPort _ _).then keeps.same⟩

/-- A message of the fabric management channel that waits in S0 is sent. -/
theorem State.sendControl_sends (s : State) (p : Nat) (o : Out) {v : State} (hv : s.sendControl p (.carry o) = v) :
    (v.egress p).control = (s.egress p).control.drop 1 ∧ o ∈ v.out ∧ SameBut [.core, .ports, .out] s v := by
  let u := s.modEgress p (fun e => { e with control := e.control.drop 1 })
  have egress : u.egress p = { s.egress p with control := (s.egress p).control.drop 1 } := s.egress_modEgress p _
  have keeps := State.keeps_carryAck (u.emit o) p
  subst hv
  exact ⟨(congrArg EgressSt.control keeps.egress).trans (congrArg EgressSt.control egress), keeps.out o List.mem_concat_self,
    (s.same_modEgress p _).then ((u.same_emit o).then keeps.same (n := [.ports, .out]))⟩

/-- A window that is full stalls the port, which sends no payload (R92). -/
theorem State.stallFlit_stalls (s : State) (p : Nat) {v : State} (hv : s.stallFlit p = v) :
    (v.port p).outstanding = (s.port p).outstanding ∧ (v.port p).stalledAt.isSome = true ∧ SameBut [.ports, .out] s v := by
  let u := s.modPort p (fun x => { x with stalledAt := x.stalledAt <|> some (s.beat, s.tick) })
  have keeps := u.keeps_idleFlit p
  subst hv
  refine ⟨(PortSt.agree keeps.sending PortSt.outstanding fun _ => rfl).trans ?_,
    (PortSt.agree keeps.sending (·.stalledAt.isSome) fun _ => rfl).trans ?_, (s.same_modPort _ _).then keeps.same⟩
  · rw [State.port_modPort]
  · rw [State.port_modPort]
    cases (s.port p).stalledAt <;> rfl

/-- A cell on a link with 256-byte flits is one flit. -/
theorem flitsOf_wide {format : Nat} (hf : 2 ≤ format) (c : Cell) : flitsOf format c = [(c.valid, c.msgs)] := by
  unfold flitsOf
  rw [if_neg (by omega), if_neg (by omega)]

/-- The replay buffer of a link with 256-byte flits takes one more within its window (R92). -/
theorem State.windowTakes_wide (hf : 2 ≤ s.format p) (c : Cell) :
    s.windowTakes p (flitsOf (s.format p) c) = decide ((s.port p).outstanding.length < s.r (K.portReplayWindow p)) := by
  have wide : decide (s.format p ≠ 0) = true := decide_eq_true (by omega)
  rw [flitsOf_wide hf]
  change (decide ((s.port p).outstanding.length < s.r (K.portReplayWindow p)) && (decide (s.format p ≠ 0) || _)) = _
  rw [wide, Bool.true_or, Bool.and_true]

/-- The port with a flit of a cell put into its replay buffer (R92). -/
def State.withFlit (s : State) (p : Nat) (c : Cell) (y : PortSt) : PortSt :=
  { y with outstanding := y.outstanding ++
             [{ sequence := y.nextTx, payload := c.valid, msgs := c.msgs, sentBeat := s.beat, sentTick := s.tick }]
           nextTx := (y.nextTx + 1) % seqMod (s.format p), replayRunning := true
           replayAt := if y.replayRunning then y.replayAt else s.clock }

/-- A flit put on the link stays outstanding, and goes out over the lanes that carry its bytes. -/
theorem State.putFlit_sends (s : State) (p : Nat) (c : Cell) {v : State} (hv : s.putFlit p (c.valid, c.msgs) = v) :
    (v.port p).sending = (s.withFlit p c (s.port p)).sending ∧ v.egress p = s.egress p ∧
    .flit p (s.port p).nextTx c.valid (s.stripes p) ∈ v.out ∧ SameBut [.ports, .out] s v := by
  let u := s.modPort p (s.withFlit p c)
  have port : u.port p = s.withFlit p c (s.port p) := State.port_modPort _ _ _
  have lanes : u.stripes p = s.stripes p := State.stripes_congr rfl (by rw [port]; rfl) (by rw [port]; rfl)
  have sent : s.putFlit p (c.valid, c.msgs) = (u.emit (.flit p (s.port p).nextTx c.valid (s.stripes p))).carryAck p := by
    rw [← lanes]
    rfl
  have keeps := State.keeps_carryAck (u.emit (.flit p (s.port p).nextTx c.valid (s.stripes p))) p
  subst hv
  rw [sent, ← port]
  exact ⟨keeps.sending, keeps.egress, keeps.out _ List.mem_concat_self,
    (s.same_modPort _ _).then ((u.same_emit _).then keeps.same (n := [.ports, .out]))⟩

/-- A cell leaves as the next 256-byte flit, over the lanes that carry its bytes, and stays outstanding. -/
theorem State.sendFlit_sends (hf : 2 ≤ s.format p) (x : EgressCell) {v : State} (hv : s.sendFlit p x = v) :
    (v.port p).sending = (s.withFlit p x.cell (s.port p)).sending ∧ v.egress p = s.egress p ∧
    .flit p (s.port p).nextTx x.cell.valid (s.stripes p) ∈ v.out ∧ SameBut [.core, .ports, .out, .tel] s v := by
  let taken (y : PortSt) : PortSt := x.cell.begins.foldl (fun z m => z.consume (s.isHost p) m) y
  let u := s.modPort p taken
  let w := u.putFlit p (x.cell.valid, x.cell.msgs)
  have credits : KeepsFlits [.ports] p s u := s.keeps_modPort p taken (PortSt.sending_consume _ _ _)
  have next : (u.port p).nextTx = (s.port p).nextTx := PortSt.agree credits.sending PortSt.nextTx fun _ => rfl
  have lanes : u.stripes p = s.stripes p := State.stripes_congr credits.same.regs
    (PortSt.agree credits.sending PortSt.subbed fun _ => rfl) (PortSt.agree credits.sending PortSt.txSub fun _ => rfl)
  obtain ⟨sending, egress, flit, same⟩ := u.putFlit_sends p x.cell (v := w) rfl
  have rest : KeepsFlits [.core, .ports, .out, .tel] p w v := by
    rw [← hv, State.sendFlit, flitsOf_wide hf]
    exact ((KeepsFlits.each _ (fun t m => t.keeps_msgSent p m) x.cell.msgs w).mono.trans
      (State.keeps_count _ p _ _ _).mono).trans (State.keeps_count _ p _ _ _).mono
  refine ⟨(rest.sending.trans sending).trans (PortSt.agree credits.sending (fun y => (s.withFlit p x.cell y).sending)
    fun _ => rfl), (rest.egress.trans egress).trans credits.egress, ?_,
    (credits.same.then same (n := [.core, .ports, .out, .tel])).trans rest.same⟩
  rw [← next, ← lanes]
  exact rest.out _ flit

theorem State.stripes_creditWatch (s : State) (p : Nat) : (s.creditWatch p).stripes p = s.stripes p :=
  State.stripes_congr (s.same_creditWatch p).regs (s.creditWatch_keeps p PortSt.subbed fun _ => rfl)
    (s.creditWatch_keeps p PortSt.txSub fun _ => rfl)

/-! ## The cell that is chosen (R128, R129) -/

/-- Whether a queue's head is eligible does not hang on the credit timers. -/
theorem State.eligible_creditWatch (s : State) (p : Nat) (q : List EgressCell) :
    (s.creditWatch p).eligible p q = s.eligible p q := by
  have same := s.same_creditWatch p
  simp only [State.eligible, s.creditWatch_keeps p PortSt.admits fun _ => rfl, State.isHost_of_regs same.regs,
    State.egress_of_core same.core]

/-- An eligible BI cell goes before any other. -/
theorem State.pick_of_bi {x : EgressCell} (h : s.eligible p (s.egress p).bi = some x) : s.pick p = some (x, 0, false) := by
  simp [State.pick, h]

/-- A BI cell leaves its queue and is put on the link. -/
theorem State.transmit_bi {x : EgressCell} (h : x.cell.cls = .bi) :
    s.transmit p x 0 = (s.modEgress p (fun e => { e with bi := e.bi.filter (fun y => decide (y.order ≠ x.order)) })).sendFlit
      p x := by
  simp [State.transmit, h, Cls.weighted, EgressSt.remove]

@[simp] theorem State.eligible_nil (s : State) (p : Nat) : s.eligible p [] = none := rfl

/-- A group without cells has none to choose: no member's head takes the place of the best so far. -/
theorem State.groupChoice_of_empty (hg : (s.egress p).members = []) : s.groupChoice p = none := by
  have nobody (j : Nat) : s.eligible p ((s.egress p).member j) = none := by
    rw [EgressSt.member, hg]
    rfl
  unfold State.groupChoice
  induction upTo 65 with
  | nil => rfl
  | cons j l ih =>
    rw [List.foldl_cons, nobody]
    exact ih

/-- An egress buffer without cells has none to choose. -/
theorem State.pick_of_empty (hb : (s.egress p).bi = []) (hm : (s.egress p).memRsp = []) (hc : (s.egress p).ioCpl = [])
    (hg : (s.egress p).members = []) : s.pick p = none := by
  have s1 : s.s1Choice p = none := by simp [State.s1Choice, EgressSt.posted, hm, hc, hg]
  simp [State.pick, hb, s1, State.groupChoice_of_empty hg]

/-- An eligible BI cell is sent, or the port stalls where its window is full. -/
theorem State.sendNext_of_bi (hf : 2 ≤ s.format p) {x : EgressCell} (hx : s.eligible p (s.egress p).bi = some x) :
    (s.creditWatch p).sendNext p =
      if (s.port p).outstanding.length < s.r (K.portReplayWindow p) then (s.creditWatch p).transmit p x 0
      else (s.creditWatch p).stallFlit p := by
  let w := s.creditWatch p
  have same := s.same_creditWatch p
  have chosen : w.pick p = some (x, 0, false) :=
    State.pick_of_bi (by rw [s.eligible_creditWatch, State.egress_of_core same.core, hx])
  have format : w.format p = s.format p := same.r _
  have room := State.windowTakes_wide (s := w) (p := p) (format ▸ hf) x.cell
  rw [s.creditWatch_keeps p PortSt.outstanding fun _ => rfl, same.r] at room
  rw [State.sendNext, chosen]
  dsimp only
  rw [room]
  by_cases hroom : (s.port p).outstanding.length < s.r (K.portReplayWindow p) <;> simp [hroom]

/-! ## EGRESS_TRANSMIT_DECISION -/

section Decided

variable (s : State) (p : PortId) (hr : s.linksRun = true) (hc : s.carries p.val = true) (hm : s.markerDue p.val = false)
include hr hc hm

/-- At a flit boundary at which a replay is in progress its next flit is sent. -/
theorem egressTransmitDecision_replays (f : Flit) (rest : List Nat) (hs : (s.port p.val).resend = f.sequence :: rest)
    (hf : (s.port p.val).outstanding.find? (fun g => decide (g.sequence = f.sequence)) = some f) :
    ∃ t, exec (.egressTransmitDecision p) s = .next t ∧ (t.port p.val).resend = rest ∧
      (t.port p.val).outstanding = (s.port p.val).outstanding ∧ .flit p.val f.sequence f.payload (s.stripes p.val) ∈ t.out ∧
      SameBut [.ports, .out, .tel] s t := by
  let w := s.creditWatch p.val
  have watched := s.keeps_creditWatch p.val
  have resend : (w.port p.val).resend = f.sequence :: rest := (s.creditWatch_keeps p.val PortSt.resend fun _ => rfl).trans hs
  have outstanding : (w.port p.val).outstanding = (s.port p.val).outstanding :=
    s.creditWatch_keeps p.val PortSt.outstanding fun _ => rfl
  have lanes : w.stripes p.val = s.stripes p.val := s.stripes_creditWatch p.val
  obtain ⟨sending, sent, same⟩ := State.resendNext_sends (s := w) (p := p.val) (outstanding ▸ hf) rfl
  refine exec_shows (exec_egressTransmitDecision s p) (u := w.resendNext p.val f.sequence)
    ((if_neg (by simp [hr, hc, hm])).trans (by dsimp only; rw [resend])) fun t q keep => ?_
  rw [State.port_of_ports q.ports, q.out, ← lanes]
  refine ⟨(PortSt.agree sending PortSt.resend fun _ => rfl).trans ?_,
    (PortSt.agree sending PortSt.outstanding fun _ => rfl).trans outstanding, sent, keep _ (watched.same.then same)⟩
  dsimp only
  rw [resend, List.drop_one, List.tail_cons]

section Fresh

variable (hs : (s.port p.val).resend = [])
include hs

/-- At a flit boundary without a replay a message of the fabric management channel is sent. -/
theorem egressTransmitDecision_control (o : Out) (rest : List Ctl) (ho : (s.egress p.val).control = .carry o :: rest) :
    ∃ t, exec (.egressTransmitDecision p) s = .next t ∧ (t.egress p.val).control = rest ∧ o ∈ t.out ∧
      SameBut [.core, .ports, .out, .tel] s t := by
  let w := s.creditWatch p.val
  have watched := s.keeps_creditWatch p.val
  have resend : (w.port p.val).resend = [] := (s.creditWatch_keeps p.val PortSt.resend fun _ => rfl).trans hs
  have control : (w.egress p.val).control = .carry o :: rest := (congrArg EgressSt.control watched.egress).trans ho
  obtain ⟨left, sent, same⟩ := w.sendControl_sends p.val o rfl
  refine exec_shows (exec_egressTransmitDecision s p) (u := w.sendControl p.val (.carry o))
    ((if_neg (by simp [hr, hc, hm])).trans (by dsimp only; rw [resend]; dsimp only; rw [control])) fun t q keep => ?_
  rw [State.egress_of_core q.core, q.out, left, control]
  exact ⟨rfl, sent, keep _ (watched.same.then same)⟩

section Payload

variable (ho : (s.egress p.val).control = []) (hw : s.forwarding = true) (hi : (s.port p.val).reissues = [])
include ho hw hi

/-- At a flit boundary with nothing before the levels' cells: the port sends the cell that they choose, or none. -/
theorem egressTransmitDecision_sendNext {v : State} {P : State → Prop} (hv : (s.creditWatch p.val).sendNext p.val = v)
    (hP : ∀ t, SameBut [.queue, .time] v t → (∀ l, SameBut l s v → SameBut l s t) → P t) :
    ∃ t, exec (.egressTransmitDecision p) s = .next t ∧ P t := by
  let w := s.creditWatch p.val
  have watched := s.keeps_creditWatch p.val
  have resend : (w.port p.val).resend = [] := (s.creditWatch_keeps p.val PortSt.resend fun _ => rfl).trans hs
  have control : (w.egress p.val).control = [] := (congrArg EgressSt.control watched.egress).trans ho
  have forwarding : w.forwarding = true := (State.forwarding_of_regs watched.same.regs).trans hw
  have reissues : (w.port p.val).reissues = [] := (s.creditWatch_keeps p.val PortSt.reissues fun _ => rfl).trans hi
  refine exec_shows (exec_egressTransmitDecision s p) ((if_neg (by simp [hr, hc, hm])).trans (.trans ?_ hv)) hP
  dsimp only
  rw [resend]
  dsimp only
  rw [control]
  dsimp only
  rw [forwarding, reissues]
  rfl

/-- A port without cells in its egress buffer sends no payload. -/
theorem egressTransmitDecision_empty (hb : (s.egress p.val).bi = []) (h1 : (s.egress p.val).memRsp = [])
    (h2 : (s.egress p.val).ioCpl = []) (h3 : (s.egress p.val).members = []) :
    ∃ t, exec (.egressTransmitDecision p) s = .next t ∧ (t.port p.val).outstanding = (s.port p.val).outstanding ∧
      SameBut [.ports, .out, .tel] s t := by
  let w := s.creditWatch p.val
  have watched := s.keeps_creditWatch p.val
  have nothing : w.pick p.val = none := State.pick_of_empty (watched.egress ▸ hb) (watched.egress ▸ h1)
    (watched.egress ▸ h2) (watched.egress ▸ h3)
  have next : w.sendNext p.val = w.idleFlit p.val := by rw [State.sendNext, nothing]
  have keeps : KeepsFlits [.ports, .out, .tel] p.val s (w.idleFlit p.val) :=
    watched.mono.trans (w.keeps_idleFlit p.val).mono
  refine egressTransmitDecision_sendNext s p hr hc hm hs ho hw hi next fun t q keep => ?_
  rw [State.port_of_ports q.ports]
  exact ⟨PortSt.agree keeps.sending PortSt.outstanding fun _ => rfl, keep _ keeps.same⟩

section Cell

variable (hf : 2 ≤ s.format p.val) (x : EgressCell) (hx : s.eligible p.val (s.egress p.val).bi = some x)
include hf hx

/-- The eligible BI cell leaves as the next 256-byte flit and stays outstanding. -/
theorem egressTransmitDecision_cell (hb : x.cell.cls = .bi)
    (hroom : (s.port p.val).outstanding.length < s.r (K.portReplayWindow p.val)) :
    ∃ t, exec (.egressTransmitDecision p) s = .next t ∧
      (t.egress p.val).bi = (s.egress p.val).bi.filter (fun y => decide (y.order ≠ x.order)) ∧
      (t.port p.val).outstanding = (s.port p.val).outstanding ++
        [{ sequence := (s.port p.val).nextTx, payload := x.cell.valid, msgs := x.cell.msgs, sentBeat := s.beat,
           sentTick := s.tick }] ∧
      (t.port p.val).nextTx = ((s.port p.val).nextTx + 1) % seqMod (s.format p.val) ∧
      (t.port p.val).replayRunning = true ∧
      .flit p.val (s.port p.val).nextTx x.cell.valid (s.stripes p.val) ∈ t.out ∧ SameBut [.core, .ports, .out, .tel] s t := by
  let w := s.creditWatch p.val
  let u := w.modEgress p.val (fun e => { e with bi := e.bi.filter (fun y => decide (y.order ≠ x.order)) })
  have watched := s.keeps_creditWatch p.val
  have format : u.format p.val = s.format p.val := watched.same.r _
  have outstanding : (u.port p.val).outstanding = (s.port p.val).outstanding :=
    s.creditWatch_keeps p.val PortSt.outstanding fun _ => rfl
  have nextTx : (u.port p.val).nextTx = (s.port p.val).nextTx := s.creditWatch_keeps p.val PortSt.nextTx fun _ => rfl
  have lanes : u.stripes p.val = s.stripes p.val := s.stripes_creditWatch p.val
  have bi : u.egress p.val = { s.egress p.val with
      bi := (s.egress p.val).bi.filter (fun y => decide (y.order ≠ x.order)) } := by
    rw [State.egress_modEgress, watched.egress]
  obtain ⟨sending, egress, flit, same⟩ := State.sendFlit_sends (s := u) (format ▸ hf) x rfl
  refine egressTransmitDecision_sendNext s p hr hc hm hs ho hw hi (v := u.sendFlit p.val x)
    (((State.sendNext_of_bi hf hx).trans (if_pos hroom)).trans (State.transmit_bi hb)) fun t q keep => ?_
  rw [State.port_of_ports q.ports, State.egress_of_core q.core, q.out, egress, bi, ← nextTx, ← lanes, ← outstanding, ← format,
    ← watched.same.beat, ← watched.same.tick]
  exact ⟨rfl, PortSt.agree sending PortSt.outstanding fun _ => rfl, PortSt.agree sending PortSt.nextTx fun _ => rfl,
    PortSt.agree sending PortSt.replayRunning fun _ => rfl, flit,
    keep _ ((watched.same.then (w.same_modEgress p.val _) (n := [.core, .ports, .out, .tel])).trans same)⟩

/-- A port whose replay window is full sends no payload. -/
theorem egressTransmitDecision_full (hfull : s.r (K.portReplayWindow p.val) ≤ (s.port p.val).outstanding.length) :
    ∃ t, exec (.egressTransmitDecision p) s = .next t ∧ (t.port p.val).outstanding = (s.port p.val).outstanding ∧
      (t.port p.val).stalledAt.isSome = true ∧ SameBut [.ports, .out, .tel] s t := by
  obtain ⟨kept, stalled, same⟩ := (s.creditWatch p.val).stallFlit_stalls p.val rfl
  refine egressTransmitDecision_sendNext s p hr hc hm hs ho hw hi
    ((State.sendNext_of_bi hf hx).trans (if_neg (by omega))) fun t q keep => ?_
  rw [State.port_of_ports q.ports]
  exact ⟨kept.trans (s.creditWatch_keeps p.val PortSt.outstanding fun _ => rfl), stalled,
    keep _ ((s.same_creditWatch p.val).then same)⟩

end Cell

end Payload

end Fresh

end Decided

/-- EGRESS_TRANSMIT_DECISION where no flit of the port's can leave. -/
theorem egressTransmitDecision_idle (s : State) (p : PortId)
    (h : s.linksRun = false ∨ s.carries p.val = false ∨ s.markerDue p.val = true) :
    ∃ t, exec (.egressTransmitDecision p) s = .next t ∧ SameBut [] s t :=
  exec_idle (exec_egressTransmitDecision s p) (if_pos (by rcases h with h | h | h <;> simp [h]))

/-! ## QUEUE_SAMPLE (R138) -/

/-- A fold over the keys below n writes each of them once. -/
theorem Tbl.getD_foldl_upTo {α : Type} (t : Tbl α) (f : Nat → α → α) (d : α) (n q : Nat) :
    Tbl.getD ((upTo n).foldl (fun t k => Tbl.put t k (f k (Tbl.getD t k d))) t) q d
      = if q < n then f q (Tbl.getD t q d) else Tbl.getD t q d := by
  unfold upTo
  induction n with
  | zero => rfl
  | succ n ih =>
    rw [List.range_succ, List.foldl_append, List.foldl_cons, List.foldl_nil]
    by_cases hq : q = n
    · subst hq
      rw [Tbl.getD_put_self, ih, if_neg (Nat.lt_irrefl q), if_pos (Nat.lt_succ_self q)]
    · rw [Tbl.getD_put_ne _ hq, ih]
      exact ite_congr (propext (by omega)) (fun _ => rfl) (fun _ => rfl)

/-- The records of a port's queues with one sample more of each. -/
def State.sampled (s : State) (p : Nat) (acc : Tbl QueueAcc) : Tbl QueueAcc :=
  (upTo 67).foldl (fun t q => Tbl.put t q ((Tbl.getD t q {}).add (s.queueNow p q).1 (s.queueNow p q).2)) acc

theorem State.samples_sampled (s : State) (p : Nat) (acc : Tbl QueueAcc) {q : Nat} (hq : q < 67) :
    (Tbl.getD (s.sampled p acc) q {}).samples = (Tbl.getD acc q {}).samples + 1 := by
  have added := Tbl.getD_foldl_upTo acc (fun k a => a.add (s.queueNow p k).1 (s.queueNow p k).2) {} 67 q
  rw [if_pos hq] at added
  rw [State.sampled, added]
  rfl

/-- QUEUE_SAMPLE adds a sample to each of the 67 queues. -/
theorem queueSample_adds (s : State) (p : PortId) (q : Nat) (hq : q < 67) : ∃ t, exec (.queueSample p) s = .next t ∧
    (Tbl.getD (t.egress p.val).acc q {}).samples = (Tbl.getD (s.egress p.val).acc q {}).samples + 1 ∧
    (t.egress p.val).bi = (s.egress p.val).bi ∧ SameBut [.core] s t := by
  refine exec_shows (exec_queueSample s p)
    (u := s.modEgress p.val (fun e => { e with acc := s.sampled p.val e.acc })) rfl fun t same keep => ?_
  rw [State.egress_of_core same.core, State.egress_modEgress]
  have added := s.samples_sampled p.val (s.egress p.val).acc hq
  dsimp only
  exact ⟨added, rfl, keep _ (s.same_modEgress _ _)⟩

/-- Settles O48: a replay first, then link control, then an eligible BI cell within the window, else none. -/
theorem egressSendsTheEligibleCell : Obligations.EgressSendsTheEligibleCell :=
  ⟨fun s p hr hc hm => ⟨egressTransmitDecision_replays s p hr hc hm, fun hs =>
     ⟨egressTransmitDecision_control s p hr hc hm hs, fun ho hw hi hf =>
       ⟨fun x hx hb => ⟨egressTransmitDecision_cell s p hr hc hm hs ho hw hi hf x hx hb,
          egressTransmitDecision_full s p hr hc hm hs ho hw hi hf x hx⟩,
        egressTransmitDecision_empty s p hr hc hm hs ho hw hi⟩⟩⟩,
   egressTransmitDecision_idle, queueSample_adds⟩

end Sys2Proof.Machine
end

section
/-! What the operations of the switch core share: returned credits, staging and receive buffers, and sample records (06). -/

namespace Sys2Proof.Machine

variable {s t : State}

/-- A fold whose steps leave the state alone leaves it alone. -/
theorem State.each_of_fixed {α : Type} {f : State → α → State} {xs : List α} (h : ∀ x ∈ xs, f s x = s) : s.each xs f = s := by
  unfold State.each
  induction xs with
  | nil => rfl
  | cons x xs ih =>
    rw [List.foldl_cons, h x List.mem_cons_self]
    exact ih fun y hy => h y (List.mem_cons_of_mem _ hy)

theorem State.same_returnCredit (s : State) (p c d : Nat) : SameBut [.ports, .out] s (s.returnCredit p c d) :=
  (s.same_modPort _ _).then (State.same_emit _ _)

/-- Messages that leave staging return credits of Response and BI channels alone (R90). -/
theorem State.same_returnResponses (s : State) (c : Cell) : SameBut [.ports, .out] s (s.returnResponses c) := by
  refine s.same_each _ _ (fun u m => ?_) _
  unfold State.returnResponse
  split
  · split
    · exact .refl _ u
    · exact u.same_returnCredit _ _ _
  · exact .refl _ u

/-- A sample record that is changed changes telemetry alone. -/
theorem State.same_modSample (s : State) (l : Option (Nat × Nat)) (f : Sample → Sample) :
    SameBut [.tel] s (s.modSample l f) := by
  unfold State.modSample
  split
  · exact .refl _ s
  · split
    · exact (s.same_tel _).ite
    · exact .refl _ s

@[simp] theorem State.staging_setStaging (s : State) (sl : Nat) (l : List Cell) : (s.setStaging sl l).staging sl = l :=
  Tbl.getD_putD_self _ _ _ _

theorem State.staging_of_core (h : t.core = s.core) (sl : Nat) : t.staging sl = s.staging sl := by simp [State.staging, h]

theorem State.same_setStaging (s : State) (sl : Nat) (l : List Cell) : SameBut [.core] s (s.setStaging sl l) := s.same_core _

theorem State.same_setRx (s : State) (k : Nat) (l : List Msg) : SameBut [.core] s (s.setRx k l) := s.same_core _

theorem State.same_receive (s : State) (p : Nat) (m : Msg) : SameBut [.core] s (s.receive p m) := s.same_core _

/-- A slice at which no answer of its own waits has none to offer to staging (R123). -/
theorem State.flushSlice_of_empty {sl : Nat} (h : ∀ k, k < 2 → Tbl.getD s.core.rxq (ownKey sl k) [] = []) :
    s.flushSlice sl = s := by
  refine State.each_of_fixed fun k hk => ?_
  rw [h k (by simp at hk; omega)]
  rfl

end Sys2Proof.Machine
end

section
/-! How entries, TLPs and responses enter the switch (06, 08, 09; R90, R116, R123, R147, R157, R174, R175, R290). -/

namespace Sys2Proof.Machine

variable {s t u : State}

/-! ## Entries (R174, R175) -/

theorem State.same_beryl (s : State) (x : Beryl) : SameBut [.beryl] s { s with beryl := x } := by
  intro q hq
  cases q with
  | beryl => simp at hq
  | time => exact ⟨rfl, rfl, rfl⟩
  | _ => rfl

/-- Where no request waits, a refill serves none. -/
theorem State.serveRefill_of_none (h : s.beryl.waiting = []) (r : Refill) (ecc : Bool) : s.serveRefill r ecc = s := by
  rw [State.serveRefill, h]
  rfl

/-- A sound entry that comes back ends its refill, and is stored unless a boundary has passed over it. -/
def State.refilled (s : State) (sl e ns : Nat) (r : Refill) : State :=
  let acc := Tbl.getD s.beryl.cacheAcc sl (0, 0, 0)
  { s with beryl := { s.beryl with
    refills := s.beryl.refills.erase r
    cacheAcc := Tbl.put s.beryl.cacheAcc sl (acc.1, acc.2.1, max acc.2.2 ns)
    cache := if r.stale then s.beryl.cache else Tbl.put s.beryl.cache sl
      (touchLine (s.cacheLines sl) { index := e, descriptor := r.descriptor, entry := s.entry e }) } }

/-- EXTENT_CACHE_REFILL of a sound entry. -/
theorem extentCacheRefill_stores (s : State) (sl : SliceId) (e ns : Nat) (r : Refill)
    (hr : s.beryl.refills.find? (fun r => decide (r.slice = sl.val) && decide (r.index = e)) = some r)
    (hw : s.beryl.waiting = []) (he : e ∉ s.beryl.errors) (hs : entState (s.entry e) ≠ 0) :
    ∃ t, exec (.extentCacheRefill sl e false false ns) s = .next t ∧ t.beryl.refills = s.beryl.refills.erase r ∧
      (r.stale = false → (t.cacheLines sl.val).head?
        = some { index := e, descriptor := r.descriptor, entry := s.entry e }) ∧
      (r.stale = true → t.beryl.cache = s.beryl.cache) ∧ SameBut [.beryl] s t := by
  have taken : s.takeRefill sl.val e =
      (some r, { s with beryl := { s.beryl with refills := s.beryl.refills.erase r } }) := by
    rw [State.takeRefill, hr]
  have sound : s.beryl.errors.contains e = false := by simpa using he
  refine exec_shows (exec_extentCacheRefill s sl e false false ns) (u := s.refilled sl.val e ns r) ?_ fun t q keep => ?_
  · dsimp only
    rw [taken]
    have kept : entState (State.entry { s with beryl := { s.beryl with refills := s.beryl.refills.erase r } } e) ≠ 0 := hs
    simp only [sound, kept, Bool.or_false, Bool.false_and, decide_false, if_false, Bool.false_eq_true]
    refine .trans (congrArg (fun u => State.serveRefill u r false) ?_)
      (State.serveRefill_of_none (s := s.refilled sl.val e ns r) hw r false)
    rw [State.refilled]
    cases r.stale <;> rfl
  · rw [State.cacheLines, q.beryl]
    refine ⟨rfl, fun h => ?_, fun h => ?_, ?_⟩
    · simp [State.refilled, h, touchLine]
    · simp [State.refilled, h]
    · exact keep _ (s.same_beryl _)

/-! ## TLPs of devices bound whole (R116, R157) -/

/-- A TLP that arrives at the HOST port of tenant n joins the port's queue, which is served while the tenant is ACTIVE (R147). -/
def State.tlpAtHost (s : State) (p n : Nat) (q : TlpReq) : State :=
  let (l, u) := s.offerTlp p n q
  let v := u.setTlpq p (u.tlpq p ++ [(q, l)])
  if v.tenantState n = .active then v.drainTlps p n else v

/-- What a TLP at a port that carries traffic does, by the role of the port. -/
def State.tlpArrives (s : State) (p : Nat) (q : TlpReq) : State :=
  if s.isHost p then
    match s.tenantOfPort p with
    | none => s
    | some n => s.tlpAtHost p n q
  else if s.isDevice p then s.tlpFromDevice p q
  else s

theorem State.tlpArrives_host {p n : Nat} (h : s.isHost p = true) (hn : s.tenantOfPort p = some n) (q : TlpReq) :
    s.tlpArrives p q = s.tlpAtHost p n q := by
  rw [State.tlpArrives, if_pos h, hn]

theorem State.tlpArrives_device {p : Nat} (h : s.isDevice p = true) (q : TlpReq) :
    s.tlpArrives p q = s.tlpFromDevice p q := by
  have other : ¬ s.isHost p = true := by simp_all [State.isDevice, State.isHost]
  rw [State.tlpArrives, if_neg other, if_pos h]

/-- TLP_INGRESS at a port that carries traffic; only a CXL port brings CXL.cache messages (Table 4-3). -/
theorem tlpIngress_arrives (s : State) (p : PortId) (q : TlpReq) (hl : s.linksRun = true) (hc : s.carries p.val = true)
    (hx : ∀ c, q.kind = .cache c → s.portMode p.val = 2) {P : State → Prop} {v : State} (hv : s.tlpArrives p.val q = v)
    (hP : ∀ t, SameBut [.queue, .time] v t → (∀ l, SameBut l s v → SameBut l s t) → P t) :
    ∃ t, exec (.tlpIngress p q) s = .next t ∧ P t := by
  refine exec_shows (exec_tlpIngress s p q) ((if_neg ?_).trans hv) hP
  rw [hl, hc]
  split
  · next c hk => simp [hx c hk]
  · simp

/-- A TLP of a device bound whole to an ACTIVE tenant. -/
theorem State.tlpFromDevice_active {p n : Nat} (ht : s.tenantOfDevice p = some n) (ha : s.tenantState n = .active) (q : TlpReq) :
    s.tlpFromDevice p q =
      if s.acsViolated n (s.vppbOfPort n p) q then
        ((s.freeArrival (s.tlpMsg p n p q)).answerAbort (s.tlpMsg p n p q).src (s.tlpMsg p n p q)).reportIo n
          (s.vppbOfPort n p) errAcs (s.tlpMsg p n p q)
      else if q.peer && !s.acsRedirects n (s.vppbOfPort n p) q then s.tlpToPeer p n q
      else s.receive p (s.tlpMsg p n (s.r (K.tenantPrimaryPort n)) q) := by
  rw [State.tlpFromDevice, ht]
  exact if_neg (by simp [ha])

/-- A peer-to-peer TLP to a device that takes traffic. -/
theorem State.tlpToPeer_bound {p n d : Nat} {q : TlpReq} (hb : s.boundPort n q.vppb.val = some d)
    (hr : s.refusesTraffic d = false) : s.tlpToPeer p n q = s.tlpToDevice p n d q (s.tlpMsg p n d q) := by
  rw [State.tlpToPeer, hb]
  exact if_neg (by simp [hr])

/-- TLP_INGRESS of a device bound whole. -/
theorem tlpIngress_device (s : State) (p : PortId) (q : TlpReq) (n b k : Nat) (hl : s.linksRun = true)
    (hc : s.carries p.val = true) (hd : s.isDevice p.val = true) (ht : s.tenantOfDevice p.val = some n)
    (ha : s.tenantState n = .active) (hx : ∀ c, q.kind = .cache c → s.portMode p.val = 2) (hb : b = s.vppbOfPort n p.val)
    (hk : k = 16 * p.val + tlpChan q.kind false) :
    (s.acsViolated n b q = false → q.peer = false ∨ s.acsRedirects n b q = true →
      ∃ t, exec (.tlpIngress p q) s = .next t ∧ Tbl.getD t.core.rxq k [] =
        Tbl.getD s.core.rxq k [] ++ [s.tlpMsg p.val n (s.r (K.tenantPrimaryPort n)) q] ∧ SameBut [.core] s t) ∧
    (∀ d, s.acsViolated n b q = false → q.peer = true → s.acsRedirects n b q = false → s.boundPort n q.vppb.val = some d →
      s.refusesTraffic d = false →
      ∃ t, exec (.tlpIngress p q) s = .next t ∧
        SameBut [.queue, .time] (s.tlpToDevice p.val n d q (s.tlpMsg p.val n d q)) t) ∧
    (∀ m, s.acsViolated n b q = true → m = s.tlpMsg p.val n p.val q →
      ∃ t, exec (.tlpIngress p q) s = .next t ∧
        SameBut [.queue, .time] (((s.freeArrival m).answerAbort m.src m).reportIo n b errAcs m) t) := by
  subst hb hk
  have arrives := (State.tlpArrives_device hd q).trans (State.tlpFromDevice_active ht ha q)
  refine ⟨fun hv hp => ?_, fun d hv hp hr hd hf => ?_, fun m hv hm => ?_⟩
  · let m := s.tlpMsg p.val n (s.r (K.tenantPrimaryPort n)) q
    have kept : (q.peer && !s.acsRedirects n (s.vppbOfPort n p.val) q) = false := by rcases hp with hp | hp <;> simp [hp]
    refine tlpIngress_arrives s p q hl hc hx (v := s.receive p.val m)
      (arrives.trans ((if_neg (by simp [hv])).trans (if_neg (by simp [kept])))) fun t same keep => ?_
    have chan : tlpChan q.kind (s.isHost p.val) = tlpChan q.kind false := by
      congr
      simp_all [State.isDevice, State.isHost]
    rw [same.core, ← chan]
    exact ⟨Tbl.getD_put_self _ _ _ _, keep _ (s.same_receive _ _)⟩
  · exact tlpIngress_arrives s p q hl hc hx (arrives.trans ((if_neg (by simp [hv])).trans ((if_pos (by simp [hp, hr])).trans
      (State.tlpToPeer_bound hd hf)))) fun t same _ => same
  · subst hm
    exact tlpIngress_arrives s p q hl hc hx (arrives.trans (if_pos hv)) fun t same _ => same

/-! ## TLPs of hosts (R90, R147, R290, R291) -/

/-- The objects that the sampler writes. -/
def samplerKeys : List Nat := [K.telSampleHead, K.telSampleTail, K.telSamplesDropped, K.telSamplesLost]

/-- From s to t the sampler has taken a transaction, or passed it over. -/
structure Sampled (s t : State) : Prop where
  same : SameBut [.tel, .regs, .freeCtr] s t
  reads : ReadsBut samplerKeys s t

theorem Sampled.refl (s : State) : Sampled s s := ⟨.refl _ s, fun _ _ => rfl⟩

theorem Sampled.trans (h : Sampled s t) (g : Sampled t u) : Sampled s u :=
  ⟨h.same.trans g.same, fun k hk => (g.reads k hk).trans (h.reads k hk)⟩

theorem Sampled.of_tel (h : SameBut [.tel] s t) : Sampled s t := ⟨h.mono (by decide), fun k _ => h.r k⟩

theorem Sampled.of_w {k v : Nat} (s : State) (hk : k ∈ samplerKeys) : Sampled s (s.w k v) :=
  ⟨(s.same_w k v).mono (by decide), fun i hi => s.r_w_ne (fun h : i = k => hi (h ▸ hk)) v⟩

theorem Sampled.of_bump {k n : Nat} (s : State) (hk : k ∈ samplerKeys) : Sampled s (s.bump k n) :=
  ⟨(s.same_bump k n).mono (by decide), fun i hi => s.r_bump_ne (fun h : i = k => hi (h ▸ hk)) n⟩

/-- Rows of objects of other sub-indices read as before. -/
theorem Sampled.r_row (h : Sampled s t) {i a r : Nat} (ha : a % 256 < 5 ∨ 8 < a % 256 := by decide) (hr : r < 2 ^ 32) :
    t.r (obj i a + r) = s.r (obj i a + r) := by
  refine h.reads _ ?_
  simp only [samplerKeys, K.telSampleHead, K.telSampleTail, K.telSamplesDropped, K.telSamplesLost, obj, List.mem_cons,
    List.not_mem_nil, or_false]
  omega

/-- Objects of other sub-indices read as before. -/
theorem Sampled.r (h : Sampled s t) {i a : Nat} (ha : a % 256 < 5 ∨ 8 < a % 256 := by decide) :
    t.r (obj i a) = s.r (obj i a) := by
  rw [← Nat.add_zero (obj i a)]
  exact h.r_row ha (by decide)

theorem Sampled.tenantState (h : Sampled s t) (n : Nat) : t.tenantState n = s.tenantState n := congrArg TenantState.ofNum h.r

theorem Sampled.link (h : Sampled s t) (p : Nat) : t.link p = s.link p := State.link_congr h.r h.r

theorem Sampled.boundPort (h : Sampled s t) (n : Nat) (b : Fin 32) : t.boundPort n b.val = s.boundPort n b.val := by
  have row : t.r (vppbKey n b.val) = s.r (vppbKey n b.val) := h.r_row (hr := by omega)
  have status : t.r (K.tenantVppbStatus n + b.val) = s.r (K.tenantVppbStatus n + b.val) := h.r_row (hr := by omega)
  simp [State.boundPort, row, status]

/-- The streams' registers shift, and nothing else changes. -/
theorem State.same_shiftStreams (s : State) (n p c : Nat) : SameBut [.tel] s (s.shiftStreams n p c).2 := by
  refine List.foldlRecOn (motive := fun acc : Option Nat × State => SameBut [.tel] s acc.2) (upTo 16) _ (.refl _ s)
    fun acc h k _ => ?_
  dsimp only
  split
  · exact h.trans (acc.2.same_tel _)
  · exact h

theorem State.sampled_allocSample (s : State) (k : Nat) (x : Transaction) : Sampled s (s.allocSample k x).2 := by
  unfold State.allocSample
  dsimp only
  split
  · exact .of_bump s (by simp [samplerKeys])
  · split
    · exact .trans (.trans (.of_tel (s.same_tel _)) (.of_w _ (by simp [samplerKeys]))) (.of_w _ (by simp [samplerKeys]))
    · exact .trans (.of_tel (s.same_tel _)) (.of_w _ (by simp [samplerKeys]))

theorem State.sampled_sampleTransaction (s : State) (x : Transaction) : Sampled s (s.sampleTransaction x).2 := by
  have shifted := Sampled.of_tel (s.same_shiftStreams x.tenant x.port x.chan)
  unfold State.sampleTransaction
  generalize s.shiftStreams x.tenant x.port x.chan = r at shifted
  obtain ⟨sel, u⟩ := r
  cases sel with
  | none => exact shifted
  | some k =>
    refine shifted.trans ?_
    dsimp only
    split
    · exact .refl u
    · split
      · split
        · exact u.sampled_allocSample k x
        · have dropped : Sampled u (u.bump K.telSamplesDropped 1) := .of_bump u (by simp [samplerKeys])
          split
          · exact dropped
          · exact dropped.trans (.of_tel (State.same_tel _ _))
      · exact u.sampled_allocSample k x

/-- A TLP offered to the sampler changes what the sampler keeps. -/
theorem State.sampled_offerTlp (s : State) (p n : Nat) (q : TlpReq) : Sampled s (s.offerTlp p n q).2 := by
  unfold State.offerTlp
  split
  · exact .refl s
  · exact .refl s
  · exact s.sampled_sampleTransaction _

@[simp] theorem State.tlpq_setTlpq (s : State) (p : Nat) (l : List (TlpReq × Option (Nat × Nat))) :
    (s.setTlpq p l).tlpq p = l := Tbl.getD_putD_self _ _ _ _

theorem State.tlpq_of_core (h : t.core = s.core) (p : Nat) : t.tlpq p = s.tlpq p := by simp [State.tlpq, h]

theorem State.same_setTlpq (s : State) (p : Nat) (l : List (TlpReq × Option (Nat × Nat))) : SameBut [.core] s (s.setTlpq p l) :=
  s.same_core _

theorem State.same_reportError (s : State) (n b e : Nat) : SameBut [.tenants, .out] s (s.reportError n b e) :=
  (s.same_modTenant _ _).then (State.same_emit _ _)

/-- A TLP for a vPPB to which nothing is bound goes nowhere. -/
theorem State.tlpFromHost_unbound {p n : Nat} {q : TlpReq} (hp : s.r (K.tenantPrimaryPort n) = p) (ho : q.own = false)
    (hb : s.boundPort n q.vppb.val = none) (l : Option (Nat × Nat)) :
    s.tlpFromHost p n q l =
      (s.sampleTarget l 0 0 0).refuseHost p n q.vppb.val { s.tlpMsg p n p q with sample := l } := by
  have primary : (s.sampleTarget l 0 0 0).r (K.tenantPrimaryPort n) = p := ((s.same_modSample l _).r _).trans hp
  rw [State.tlpFromHost, ho, if_neg Bool.false_ne_true, hb]
  exact (if_neg (not_not_intro primary)).trans (if_neg Bool.false_ne_true)

/-- A posted TLP that goes nowhere returns its credits, and is counted and reported (R91, R101, R143). -/
theorem State.refuseHost_posted {p : Nat} {m : Msg} (hk : m.kind = .tlp .memWrite) (hc : m.cls = .ioP) (hn : m.chan = some 0)
    (hp : m.port = p) (hl : s.linkUp p = true) (n b : Nat) :
    s.refuseHost p n b m = ((s.returnCredit p 0 m.dataUnits).occur (Src.port p 5)).reportError n b errUnsupported := by
  subst hp
  simp [State.refuseHost, State.refuseTlp, State.freeArrival, State.reportIo, hk, hc, hn, hl]

/-- A refused posted TLP sends its credits back, with d data units, and an error message of the vPPB. -/
theorem State.refusePosted_sends (s : State) (p d n b : Nat) {v : State}
    (hv : ((s.returnCredit p 0 d).occur (Src.port p 5)).reportError n b errUnsupported = v) :
    v.out = s.out ++
      [.creditUpdate p 0 ((Tbl.getD (s.port p).granted 0 (0, 0)).1 + 1) ((Tbl.getD (s.port p).granted 0 (0, 0)).2 + d),
      .errorMessage n b errUnsupported] ∧ SameBut [.ports, .out, .onyx, .tenants] s v := by
  have occurred := (s.returnCredit p 0 d).same_occur (Src.port p 5)
  have same : SameBut [.ports, .out, .onyx] s ((s.returnCredit p 0 d).occur (Src.port p 5)) :=
    (s.same_returnCredit p 0 d).then occurred
  subst hv
  refine ⟨?_, same.then (State.same_reportError _ _ _ _)⟩
  change ((s.returnCredit p 0 d).occur (Src.port p 5)).out ++ [_] = _
  rw [occurred.out]
  exact List.append_assoc _ _ _

section Host

variable (s u : State) (p : PortId) (q : TlpReq) (n : Nat) (l : Option (Nat × Nat)) (hr : s.linksRun = true)
  (hc : s.carries p.val = true) (hh : s.isHost p.val = true) (hn : s.tenantOfPort p.val = some n)
  (hx : ∀ c, q.kind = .cache c → s.portMode p.val = 2) (ho : s.offerTlp p.val n q = (l, u))
include hr hc hh hn hx ho

/-- TLP_INGRESS of a host whose tenant is not ACTIVE. -/
theorem tlpIngress_waits (ha : s.tenantState n ≠ .active) :
    ∃ t, exec (.tlpIngress p q) s = .next t ∧ t.tlpq p.val = s.tlpq p.val ++ [(q, l)] ∧ SameBut [.core, .queue, .time] u t := by
  have sampled := s.sampled_offerTlp p.val n q
  rw [ho] at sampled
  have inactive : ¬ (u.setTlpq p.val (u.tlpq p.val ++ [(q, l)])).tenantState n = .active := by
    rw [State.tenantState_of_regs (u.same_setTlpq _ _).regs, sampled.tenantState]
    exact ha
  have queued : s.tlpArrives p.val q = u.setTlpq p.val (u.tlpq p.val ++ [(q, l)]) := by
    rw [State.tlpArrives_host hh hn, State.tlpAtHost, ho]
    exact if_neg inactive
  refine tlpIngress_arrives s p q hr hc hx queued fun t same _ => ⟨?_, (u.same_setTlpq _ _).then same⟩
  rw [State.tlpq_of_core same.core, State.tlpq_setTlpq, State.tlpq_of_core sampled.same.core]

/-- TLP_INGRESS of a posted TLP of an ACTIVE tenant's host, for a vPPB to which nothing is bound. -/
theorem tlpIngress_discards (g : Nat × Nat) (ha : s.tenantState n = .active) (hq : s.tlpq p.val = [])
    (hp : s.r (K.tenantPrimaryPort n) = p.val) (hw : q.own = false) (hk : q.kind = .memWrite)
    (hb : s.boundPort n q.vppb.val = none) (hg : g = Tbl.getD (s.port p.val).granted 0 (0, 0)) :
    ∃ t, exec (.tlpIngress p q) s = .next t ∧ t.tlpq p.val = [] ∧ t.core.rxq = s.core.rxq ∧
      t.out = s.out ++ [.creditUpdate p.val 0 (g.1 + 1) (g.2 + (s.tlpMsg p.val n p.val q).dataUnits),
        .errorMessage n q.vppb.val errUnsupported] ∧
      SameBut [.core, .onyx, .tel, .regs, .freeCtr, .tenants, .ports, .out] s t := by
  subst hg
  have sampled := s.sampled_offerTlp p.val n q
  rw [ho] at sampled
  let y := (u.setTlpq p.val [(q, l)]).setTlpq p.val []
  let v := y.sampleTarget l 0 0 0
  let m : Msg := { y.tlpMsg p.val n p.val q with sample := l }
  have noted : SameBut [.tel] y v := y.same_modSample l _
  have regs : v.regs = u.regs := noted.regs
  have active : (u.setTlpq p.val [(q, l)]).tenantState n = .active := (sampled.tenantState n).trans ha
  have up : v.linkUp p.val = true := by
    have link : v.link p.val = s.link p.val := (State.link_of_regs regs p.val).trans (sampled.link p.val)
    simp_all [State.linkUp, State.carries]
  have port : v.port p.val = s.port p.val := State.port_of_ports (noted.ports.trans sampled.same.ports) p.val
  have out : v.out = s.out := noted.out.trans sampled.same.out
  have primary : y.r (K.tenantPrimaryPort n) = p.val := Eq.trans (sampled.r (i := 0x3000 + n) (a := 0x02)) hp
  have unbound : y.boundPort n q.vppb.val = none := Eq.trans (sampled.boundPort n q.vppb) hb
  have refused : y.tlpFromHost p.val n q l = v.refuseHost p.val n q.vppb.val m :=
    State.tlpFromHost_unbound primary hw unbound l
  have posted := State.refuseHost_posted (s := v) (m := m) (p := p.val) (by simp [m, State.tlpMsg, hk])
    (by simp [m, State.tlpMsg, tlpCls, hk]) (by simp [m, State.tlpMsg, tlpChan, hk]) rfl up n q.vppb.val
  have served : s.tlpArrives p.val q = y.tlpFromHost p.val n q l := by
    have empty : u.tlpq p.val = [] := (State.tlpq_of_core sampled.same.core p.val).trans hq
    rw [State.tlpArrives_host hh hn, State.tlpAtHost, ho]
    dsimp only
    rw [empty]
    refine (if_pos active).trans ?_
    rw [State.drainTlps, State.tlpq_setTlpq]
    rfl
  obtain ⟨sent, same⟩ := State.refusePosted_sends v p.val m.dataUnits n q.vppb.val rfl
  refine tlpIngress_arrives s p q hr hc hx (served.trans (refused.trans posted)) fun t now keep => ?_
  have core := now.core.trans (same.core.trans noted.core)
  refine ⟨?_, ?_, ?_, keep _ ?_⟩
  · rw [State.tlpq_of_core core, State.tlpq_setTlpq]
  · rw [core, ← sampled.same.core]
    rfl
  · rw [now.out, sent, port, out]
    rfl
  · exact (((sampled.same.then (u.same_setTlpq _ _) (n := [.core, .tel, .regs, .freeCtr])).trans
      ((State.same_setTlpq _ _ _).mono (by decide))).then noted (n := [.core, .tel, .regs, .freeCtr])).then same

end Host

/-! ## Responses (R123) -/

/-- A message that is no request, from a port that is no HOST port, is held back by nothing. -/
theorem State.entryHeld_response {p c : Nat} {m : Msg} (hh : s.isHost p = false) (hr : m.cls.isRequest = false)
    (ha : m.isAcquire = false) : s.entryHeld p c m = false := by
  simp [State.entryHeld, State.policeHolds, hh, hr, ha]

/-- Its entry takes no tokens, no share, no allowance and no tag. -/
theorem State.beginEntry_response {p c : Nat} {m : Msg} (hh : s.isHost p = false) (hr : m.cls.isRequest = false)
    (ha : m.isAcquire = false) : s.beginEntry p c m = (m, s) := by
  have untagged : s.needsTag m = false := by
    unfold State.needsTag
    split <;> simp_all [Cls.isRequest]
  unfold State.beginEntry
  simp only [hh, hr, ha, Bool.false_and, Bool.false_eq_true, if_false]
  cases m.vmd <;> simp [untagged]

/-- A receive buffer's head for all of which its pair has room moves into staging (R123). -/
theorem State.moveHead_all {k half : Nat} {m n : Msg} {cells : List Cell}
    (hp : packMsg (s.staging m.src) half (s.stagingRoom m.src half m) m = (cells, n)) (hn : n.bytes ≤ n.sent) (rest : List Msg) :
    s.moveHead k half m rest = (true, (s.setStaging m.src cells).setRx k rest) := by
  rw [State.moveHead, hp]
  exact if_pos hn

/-- A link channel's receive buffer is none of those in which the answers of slices wait. -/
theorem ownKey_ne {p : Nat} (c : Chan) (sl h : Nat) : ownKey sl h ≠ 16 * p + chanNum c := by
  have link : chanNum c < 15 := by cases c <;> decide
  unfold ownKey
  omega

/-- A response of which nothing has entered yet enters staging, where its pair has room for all of it. -/
theorem State.enterStaging_response {p : Nat} {c : Chan} {m n : Msg} {rest : List Msg} {cells : List Cell}
    (hh : s.isHost p = false) (hq : isRequestChan (chanNum c) = false) (hs : m.sent = 0) (hr : m.cls.isRequest = false)
    (ha : m.isAcquire = false) (hb : s.flowBusy (16 * p + chanNum c) m = false)
    (ho : ∀ h, h < 2 → Tbl.getD s.core.rxq (ownKey m.src h) [] = [])
    (hp : packMsg (s.staging m.src) (s.stagingHalf p) (s.stagingRoom m.src (s.stagingHalf p) m) m = (cells, n))
    (h0 : n.sent ≠ 0) (hn : n.bytes ≤ n.sent) :
    s.enterStaging p (chanNum c) m rest = (s.setStaging m.src cells).setRx (16 * p + chanNum c) rest := by
  have moves : s.canMove (16 * p + chanNum c) (s.stagingHalf p) m = true := by simp [State.canMove, hb, hp, hs, h0]
  have quiet : ∀ h, h < 2 →
      Tbl.getD ((s.setStaging m.src cells).setRx (16 * p + chanNum c) rest).core.rxq (ownKey m.src h) [] = [] :=
    fun h hl => (Tbl.getD_putD_ne _ (ownKey_ne c _ _) _ _ _).trans (ho h hl)
  rw [State.enterStaging]
  dsimp only
  rw [if_neg (by simp [moves]), if_pos hs, State.beginEntry_response hh hr ha]
  dsimp only
  rw [State.moveHead_all hp hn, hq]
  exact State.flushSlice_of_empty quiet

/-- INGRESS_STAGING_ENTRY of a response for which its pair has room. -/
theorem ingressStagingEntry_moves (s : State) (p : PortId) (c : Chan) (m n : Msg) (rest : List Msg) (cells : List Cell)
    (hw : s.forwarding = true) (hh : s.isHost p.val = false) (ht : s.activeTenant p.val = none)
    (hq : isRequestChan (chanNum c) = false) (hx : Tbl.getD s.core.rxq (16 * p.val + chanNum c) [] = m :: rest)
    (hs : m.sent = 0) (hr : m.cls.isRequest = false) (ha : m.isAcquire = false)
    (hb : s.flowBusy (16 * p.val + chanNum c) m = false)
    (ho : ∀ h, h < 2 → Tbl.getD s.core.rxq (ownKey m.src h) [] = [])
    (hp : packMsg (s.staging m.src) (s.stagingHalf p.val) (s.stagingRoom m.src (s.stagingHalf p.val) m) m = (cells, n))
    (h0 : n.sent ≠ 0) (hn : n.bytes ≤ n.sent) :
    ∃ t, exec (.ingressStagingEntry p c) s = .next t ∧ t.staging m.src = cells ∧
      Tbl.getD t.core.rxq (16 * p.val + chanNum c) [] = rest ∧ SameBut [.core] s t := by
  have free : s.entryHeld p.val (chanNum c) m = false := State.entryHeld_response hh hr ha
  refine exec_shows (exec_ingressStagingEntry s p c)
    (u := (s.setStaging m.src cells).setRx (16 * p.val + chanNum c) rest) ((if_neg (by simp [hw])).trans ?_)
    fun t q keep => ?_
  · dsimp only
    rw [ht]
    dsimp only
    rw [hx]
    exact (if_neg (by simp [hr])).trans ((if_neg (by simp [hh])).trans ((if_neg (by simp [free])).trans
      (State.enterStaging_response hh hq hs hr ha hb ho hp h0 hn)))
  · rw [State.staging_of_core q.core, q.core]
    exact ⟨s.staging_setStaging _ _, Tbl.getD_putD_self _ _ _ _,
      keep _ ((s.same_setStaging _ _).trans (State.same_setRx _ _ _))⟩

/-- Settles O45: an entry that comes back, a TLP of a device and of a host, and a response. -/
theorem entriesTlpsAndResponsesEnter : Obligations.EntriesTlpsAndResponsesEnter :=
  ⟨extentCacheRefill_stores,
   tlpIngress_device,
   fun s u p q n l hr hc hh hn hx ho => ⟨tlpIngress_waits s u p q n l hr hc hh hn hx ho,
     tlpIngress_discards s u p q n l hr hc hh hn hx ho⟩,
   ingressStagingEntry_moves⟩

end Sys2Proof.Machine
end

section
/-! How cells cross the switch core, each connection once a slot (06; R104 to R106, R110, R111, R118). -/

namespace Sys2Proof.Machine

variable {s : State}

/-! ## Slots and stage one (R104 to R106) -/

theorem State.same_useSlot (s : State) (k n : Nat) : SameBut [.core] s (s.useSlot k n) := s.same_core _

/-- A connection used in a slot is not open in that slot again (R104). -/
theorem State.slotOpen_of_used {k n : Nat} (h : Tbl.getD s.core.slotOf k 0 = n + 1) : s.slotOpen k n = false := by
  simp [State.slotOpen, h]

/-- An input without open frames closes none (R105). -/
theorem State.closeFrames_of_none (h : s.core.frames = []) (i n : Nat) : s.closeFrames i n = s :=
  State.each_of_fixed fun e he => by simp [h] at he

/-- Which cell an input sends does not hang on the slots that have been used. -/
theorem State.stageOnePick_useSlot (s : State) (k n i m t : Nat) :
    (s.useSlot k n).stageOnePick i m t = s.stageOnePick i m t := rfl

/-- The cell as it is sent in slot n, with its flow's next Sequence and the mark of its posted cells, and the state that it has
left (R105, R106). -/
def State.stamped (s : State) (i n : Nat) (c : Cell) : Cell × State :=
  ((s.setStaging i ((s.staging i).erase c)).fillFrame c n).stampCell c

/-- The core in which a cell travels to middle m (R106). -/
def State.sentCore (s : State) (i m n : Nat) (c : Cell) : CoreSt :=
  { (s.stamped i n c).2.core with
    flight1 := Tbl.put s.core.flight1 m (Tbl.getD s.core.flight1 m [] ++ [{ (s.stamped i n c).1 with slot := n }]) }

/-- A cell that leaves staging is counted, returns its credits and travels to its middle (R90, R105, R106). -/
theorem State.sendCell_sends {i m n : Nat} {c : Cell} (hq : ∀ h, h < 2 → Tbl.getD s.core.rxq (ownKey i h) [] = []) {v : State}
    (hv : s.sendCell i m n c = v) : v.core = s.sentCore i m n c ∧ SameBut [.core, .tel, .ports, .out] s v := by
  let d := (s.stamped i n c).1
  let b := (s.stamped i n c).2
  let w := (b.count evCellsIn 1 { port := (if d.dst < 96 then some d.dst else none), cls := some d.cls.num }).returnResponses d
  let x : State := { w with core := { w.core with
    flight1 := Tbl.put w.core.flight1 m (Tbl.getD w.core.flight1 m [] ++ [{ d with slot := n }]) } }
  have counted : SameBut [.tel, .ports, .out] b w := (b.same_count _ _ _).then (State.same_returnResponses _ _)
  have travels : x.core = s.sentCore i m n c :=
    congrArg (fun y : CoreSt => { y with flight1 := Tbl.put y.flight1 m (Tbl.getD y.flight1 m [] ++ [{ d with slot := n }]) })
      counted.core
  have unflushed : x.flushSlice i = x := State.flushSlice_of_empty (by rw [travels]; exact hq)
  have sent : v = x := hv.symm.trans unflushed
  subst sent
  exact ⟨travels, ((s.same_core _).then counted (n := [.core, .tel, .ports, .out])).trans ((w.same_core _).mono (by decide))⟩

/-- STAGE_ONE_SEND in a slot that its input has not used. -/
theorem stageOneSend_sends (s : State) (i : SliceId) (slot m : Nat) (c : Cell) (hw : s.forwarding = true)
    (ho : s.slotOpen i.val slot = true) (hf : s.core.frames = []) (hm : m = (i.val + slot) % 48)
    (hc : s.stageOnePick i.val m slot = some c) (hq : ∀ h, h < 2 → Tbl.getD s.core.rxq (ownKey i.val h) [] = []) :
    ∃ t d, exec (.stageOneSend i slot) s = .next t ∧ t.staging i.val = (s.staging i.val).erase c ∧
      Tbl.getD t.core.flight1 m [] = Tbl.getD s.core.flight1 m [] ++ [d] ∧ d.msgs = c.msgs ∧ d.dst = c.dst ∧
      d.payload = c.payload ∧ d.sequence = Tbl.getD s.core.nextSeq c.flow 0 ∧
      Tbl.getD t.core.nextSeq c.flow 0 = (Tbl.getD s.core.nextSeq c.flow 0 + 1) % 65536 ∧
      t.slotOpen i.val slot = false ∧ SameBut [.core, .tel, .ports, .out] s t := by
  subst hm
  let m := (i.val + slot) % 48
  let u := s.useSlot i.val slot
  obtain ⟨core, same⟩ := State.sendCell_sends (s := u) (m := m) (n := slot) (c := c) hq rfl
  obtain ⟨t, he, now, keeps⟩ := exec_shows (exec_stageOneSend s i slot) (u := u.sendCell i.val m slot c)
    (P := fun t => t.core = (u.sendCell i.val m slot c).core ∧ SameBut [.core, .tel, .ports, .out] s t)
    ((if_neg (by simp [hw, ho])).trans (by
      dsimp only
      rw [State.closeFrames_of_none (s := s.useSlot i.val slot) hf, s.stageOnePick_useSlot, hc]))
    fun t q keep => ⟨q.core, keep _ ((s.same_useSlot _ _).then same)⟩
  rw [core] at now
  have used : Tbl.getD t.core.slotOf i.val 0 = slot + 1 := by
    rw [now]
    exact Tbl.getD_put_self _ _ _ _
  refine ⟨t, { (u.stamped i.val slot c).1 with slot := slot }, he, ?_, ?_, rfl, rfl, rfl, rfl, ?_,
    State.slotOpen_of_used used, keeps⟩
  · rw [State.staging, now]
    exact u.staging_setStaging i.val _
  · rw [now]
    exact Tbl.getD_put_self _ _ _ _
  · rw [now]
    exact Tbl.getD_put_self _ _ _ _

/-- STAGE_ONE_SEND in a slot that has been used. -/
theorem stageOneSend_idle (s : State) (i : SliceId) (slot : Nat) (h : s.slotOpen i.val slot = false) :
    ∃ t, exec (.stageOneSend i slot) s = .next t ∧ SameBut [] s t :=
  exec_idle (exec_stageOneSend s i slot) (if_pos (by simp [h]))

/-! ## Middle pools (R118, R119) -/

/-- The cell as a pool keeps it: in its area, under the lowest free number, stamped with the beat (R118, R125). -/
def State.pooled (s : State) (m : Nat) (c : Cell) (a : Area) : PoolCell :=
  { cell := { c with held := some (m, s.freeCell m) }, number := s.freeCell m, area := a, stamp := s.beat % 65536 }

theorem State.same_noteDepth (s : State) (c : Cell) (n : Nat) : SameBut [.tel] s (s.noteDepth c n) :=
  (s.same_each _ _ (fun u _ => u.same_modSample _ _) _).ite

/-- A cell that is stored joins its queue behind every other (R118). -/
theorem State.storeCell_stores (s : State) (m : Nat) (c : Cell) (a : Area) {v : State} (hv : s.storeCell m c a = v) :
    v.core = { s.core with
      voq := Tbl.put s.core.voq (voqKey m c.dst c.cls.num) (s.voq m c.dst c.cls.num ++ [s.pooled m c a])
      taken := Tbl.put s.core.taken m (Tbl.getD s.core.taken m 0 + 1) } ∧
    SameBut [.core, .tel] s v := by
  let u : State := { s with core := { s.core with
    voq := Tbl.put s.core.voq (voqKey m c.dst c.cls.num) (s.voq m c.dst c.cls.num ++ [s.pooled m c a])
    taken := Tbl.put s.core.taken m (Tbl.getD s.core.taken m 0 + 1) } }
  have noted : SameBut [.tel] u v := by
    subst hv
    exact (u.same_noteDepth c (s.voq m c.dst c.cls.num).length).trans (State.same_count _ _ _ _).ite
  exact ⟨noted.core, (s.same_core u.core).then noted⟩

/-- Without express placement a cell is stored in the pool of its middle, where that has room (R109, R119). -/
theorem State.placeCell_plain (h : s.on K.coreExpressEnable = false) (m : Nat) (c : Cell) :
    s.placeCell m c = (s.areaFor m c).map fun a => s.storeCell m c a := by
  have plain : s.expressPool m c = none := by simp [State.expressPool, h]
  rw [State.placeCell, plain]

/-- POOL_CELL_ARRIVAL of a cell whose turn it is and which has room. -/
theorem poolCellArrival_stores (s : State) (m : SliceId) (c : Cell) (rest : List Cell)
    (hf : Tbl.getD s.core.flight1 m.val [] = c :: rest) (hx : s.on K.coreExpressEnable = false) (a : Area)
    (hn : s.arrivesNext c.slot = true) (ha : s.areaFor m.val c = some a) :
    ∃ t x, exec (.poolCellArrival m) s = .next t ∧ Tbl.getD t.core.flight1 m.val [] = rest ∧
      t.voq m.val c.dst c.cls.num = s.voq m.val c.dst c.cls.num ++ [x] ∧ x.area = a ∧
      x.cell = { c with held := some (m.val, x.number) } ∧ SameBut [.core, .tel] s t := by
  let u : State := { s with core := { s.core with flight1 := Tbl.putD s.core.flight1 m.val rest [] } }
  obtain ⟨core, same⟩ := u.storeCell_stores m.val c a rfl
  have room : u.areaFor m.val c = some a := ha
  obtain ⟨t, he, now, keeps⟩ := exec_shows (exec_poolCellArrival s m) (u := u.storeCell m.val c a)
    (P := fun t => t.core = (u.storeCell m.val c a).core ∧ SameBut [.core, .tel] s t)
    (by
      dsimp only
      rw [hf]
      exact (if_neg (by simp [hn])).trans (by rw [State.placeCell_plain (s := u) hx, room]; rfl))
    fun t q keep => ⟨q.core, keep _ ((s.same_core u.core).then same)⟩
  rw [core] at now
  refine ⟨t, u.pooled m.val c a, he, ?_, ?_, rfl, by rw [State.pooled], keeps⟩
  · rw [now]
    exact Tbl.getD_putD_self _ _ _ _
  · rw [State.voq, now]
    exact Tbl.getD_put_self _ _ _ _

/-- POOL_CELL_ARRIVAL of a cell that another one goes before, or for which its pool has no room. -/
theorem poolCellArrival_waits (s : State) (m : SliceId) (c : Cell) (rest : List Cell)
    (hf : Tbl.getD s.core.flight1 m.val [] = c :: rest) (hx : s.on K.coreExpressEnable = false)
    (h : s.arrivesNext c.slot = false ∨ s.areaFor m.val c = none) :
    ∃ t, exec (.poolCellArrival m) s = .next t ∧ SameBut [] s t := by
  refine exec_idle (exec_poolCellArrival s m) ?_
  dsimp only
  rw [hf]
  cases hn : s.arrivesNext c.slot with
  | false => exact if_pos (by simp [hn])
  | true =>
    let u : State := { s with core := { s.core with flight1 := Tbl.putD s.core.flight1 m.val rest [] } }
    have full : u.areaFor m.val c = none := h.resolve_left (by simp [hn])
    exact (if_neg (by simp [hn])).trans (by rw [State.placeCell_plain (s := u) hx, full]; rfl)

/-! ## Stage two and the window (R104, R110, R111) -/

/-- Where no cell waits to be injected, none is offered again. -/
theorem State.retryInject_of_none (h : s.core.injectWait = []) : s.retryInject = s := by
  rw [State.retryInject, h]
  obtain ⟨⟩ := s
  dsimp only [List.foldl_nil] at h ⊢
  rw [← h]

/-- A head that is taken leaves its queue. -/
theorem State.voq_takeHead (s : State) (m d c : Nat) : (s.takeHead m d c).voq m d c = (s.voq m d c).drop 1 := by
  unfold State.takeHead State.voq
  dsimp only
  split
  · next h => rw [h]; rfl
  · next h => rw [h]; exact Tbl.getD_putD_self _ _ _ _

/-- A head that is taken becomes DELIVERED, and nothing else of the core changes (R125). -/
theorem State.takeHead_keeps {β : Type} (s : State) (m d c : Nat) (g : CoreSt → β)
    (hg : ∀ (x : CoreSt) v d, g { x with voq := v, delivered := d } = g x) : g (s.takeHead m d c).core = g s.core := by
  unfold State.takeHead
  dsimp only
  split
  · rfl
  · exact hg _ _ _

theorem State.same_takeHead (s : State) (m d c : Nat) : SameBut [.core] s (s.takeHead m d c) := by
  unfold State.takeHead
  dsimp only
  split
  · exact .refl _ s
  · exact s.same_core _

/-- STAGE_TWO_READ in a slot in which its middle has not been read. -/
theorem stageTwoRead_sends (s : State) (m : SliceId) (slot o p : Nat) (c : Cls) (x : Cell) (hw : s.forwarding = true)
    (ho : s.slotOpen (48 + m.val) slot = true) (hi : s.core.injectWait = []) (hm : o = (m.val + slot) % 48)
    (hd : s.domain (o / 2) = .on) (hf : (s.stageTwoHeads m.val o).find? (fun h => s.readable o h.2.2) = some (p, c, x)) :
    ∃ t, exec (.stageTwoRead m slot) s = .next t ∧
      Tbl.getD t.core.flight2 o [] = Tbl.getD s.core.flight2 o [] ++ [x] ∧
      t.voq m.val p c.num = (s.voq m.val p c.num).drop 1 ∧ SameBut [.core] s t := by
  subst hm
  let o := (m.val + slot) % 48
  let u := s.useSlot (48 + m.val) slot
  let v := u.takeHead m.val p c.num
  have found : (u.stageTwoHeads m.val o).find? (fun h => u.readable o h.2.2) = some (p, c, x) := hf
  refine exec_shows (exec_stageTwoRead s m slot)
    (u := { v with core := { v.core with flight2 := Tbl.put v.core.flight2 o (Tbl.getD v.core.flight2 o [] ++ [x]) } })
    ((if_neg (by simp [hw, ho])).trans ?_) fun t q keep => ?_
  · dsimp only
    rw [State.retryInject_of_none (s := s.useSlot (48 + m.val) slot) hi, found]
    exact if_neg (by simp [show (s.useSlot (48 + m.val) slot).domain ((m.val + slot) % 48 / 2) = .on from hd])
  · have flight : v.core.flight2 = s.core.flight2 := u.takeHead_keeps m.val p c.num CoreSt.flight2 fun _ _ _ => rfl
    rw [State.voq, q.core, ← flight]
    exact ⟨Tbl.getD_put_self _ _ _ _, u.voq_takeHead m.val p c.num,
      keep _ (((s.same_useSlot _ _).trans (u.same_takeHead _ _ _)).trans (State.same_core _ _))⟩

/-- RESEQUENCING_ARRIVAL of a cell whose turn has come or is to come. -/
theorem resequencingArrival_enters (s : State) (o : SliceId) (c : Cell) (rest : List Cell)
    (hf : Tbl.getD s.core.flight2 o.val [] = c :: rest) (h : (c.sequence + 65536 - s.expected c.flow) % 65536 < 32768) :
    ∃ t, exec (.resequencingArrival o) s = .next t ∧ Tbl.getD t.core.flight2 o.val [] = rest ∧
      Tbl.getD t.core.window o.val [] = Tbl.getD s.core.window o.val [] ++ [{ c with waited := !s.releasable c }] ∧
      SameBut [.core, .regs] s t := by
  let u : State := { s with core := { s.core with
    flight2 := Tbl.putD s.core.flight2 o.val rest []
    window := Tbl.put s.core.window o.val (Tbl.getD s.core.window o.val [] ++ [{ c with waited := !s.releasable c }]) } }
  let k := K.coreReseqStatus + o.val
  refine exec_shows (exec_resequencingArrival s o)
    (u := u.w k (setBits (u.r k) 47 32 (max (bits (u.r k) 47 32) (u.windowUsed o.val)))) ?_ fun t q keep => ?_
  · dsimp only
    rw [hf]
    exact if_neg (Nat.not_le.2 h)
  · rw [q.core]
    exact ⟨Tbl.getD_putD_self _ _ _ _, Tbl.getD_put_self _ _ _ _, keep _ ((s.same_core u.core).then (u.same_w _ _))⟩

/-- RESEQUENCING_ARRIVAL of a cell older than its flow's release point. -/
theorem resequencingArrival_drops (s : State) (o : SliceId) (c : Cell) (rest : List Cell)
    (hf : Tbl.getD s.core.flight2 o.val [] = c :: rest) (h : 32768 ≤ (c.sequence + 65536 - s.expected c.flow) % 65536) :
    ∃ t, exec (.resequencingArrival o) s = .next t ∧ Tbl.getD t.core.flight2 o.val [] = rest ∧
      t.core.window = s.core.window ∧ SameBut [.core, .onyx] s t := by
  let u : State := { s with core := { s.core with flight2 := Tbl.putD s.core.flight2 o.val rest [] } }
  have occurred := u.same_occur (Src.slice o.val 6)
  refine exec_shows (exec_resequencingArrival s o) (u := u.occur (Src.slice o.val 6)) ?_ fun t q keep => ?_
  · dsimp only
    rw [hf]
    exact if_pos h
  · rw [q.core, occurred.core]
    exact ⟨Tbl.getD_putD_self _ _ _ _, rfl, keep _ ((s.same_core u.core).then occurred)⟩

/-- Settles O46: each hop of a cell, and the slot that has been used. -/
theorem cellsCrossTheCore : Obligations.CellsCrossTheCore :=
  ⟨stageOneSend_sends, stageOneSend_idle,
   fun s m c rest hf hx => ⟨poolCellArrival_stores s m c rest hf hx, poolCellArrival_waits s m c rest hf hx⟩,
   stageTwoRead_sends,
   fun s o c rest hf => ⟨resequencingArrival_enters s o c rest hf, resequencingArrival_drops s o c rest hf⟩⟩

end Sys2Proof.Machine
end

section
/-! How cells leave the switch core: the checks of a cell, its release, internal destinations, and the auditor (06; R107, R110,
R112, R117, R124, R125). -/

namespace Sys2Proof.Machine

variable {s : State}

/-! ## The checks of a cell (R117) -/

/-! The release and the take of a cell branch on `State.checkCell`. Their proofs put a variable in its place before they compute:
otherwise Lean's kernel would evaluate the CRCs of a symbolic cell to see on which branch it is. -/

/-- A cell that passes its checks goes on as it is, where no flow's message is poisoned. -/
theorem State.checkCell_passes {c : Cell} {h e : Nat} (hh : c.headerPasses h = true) (hp : c.payloadPasses h e = true)
    (s : State) (hdr pay : Nat) (ht : s.core.tainted = []) : s.checkCell c hdr pay h e = (some c, s) := by
  simp [State.checkCell, State.applyTaint, hh, hp, ht]

/-- A cell whose header fails its check is counted, reported and goes nowhere. -/
theorem State.checkCell_header {c : Cell} {h : Nat} (hh : c.headerPasses h = false) (s : State) (hdr pay e : Nat) :
    s.checkCell c hdr pay h e = (none, (s.bump K.coreCtrCellCrcFailures 1).occur hdr) := by
  simp [State.checkCell, hh]

/-! ## Release (R110, R112) -/

/-- The next Sequence of a flow, past a cell of it. -/
theorem State.expected_advance (s : State) (c : Cell) : (s.advance c).expected c.flow = (s.expected c.flow + 1) % 65536 :=
  Tbl.getD_put_self _ _ _ _

/-- A cell without messages that it shares with others of its flow is made of its messages. -/
theorem Cell.pieces_whole {c : Cell} (hh : c.headCont = false) (ht : c.tail = none) :
    c.pieces = c.msgs.map fun m => ⟨m, m.bytes, true, true⟩ := by
  simp [Cell.pieces, hh, ht]

/-- Such a cell, none of whose messages is discarded, keeps its messages and their bytes. -/
theorem Cell.keeping_whole {c : Cell} (hh : c.headCont = false) (ht : c.tail = none) {keep : Piece → Bool}
    (hk : ∀ m ∈ c.msgs, keep ⟨m, m.bytes, true, true⟩ = true) :
    (c.keeping keep).msgs = c.msgs ∧ (c.keeping keep).valid = sumOf (c.msgs.map (·.bytes)) := by
  have kept : c.pieces.filter keep = c.pieces := by
    rw [Cell.pieces_whole hh ht, List.filter_eq_self]
    simpa using hk
  rw [Cell.keeping]
  dsimp only
  rw [kept, Cell.pieces_whole hh ht]
  simp [List.filter_map, Function.comp_def]

/-- Where no flow's message is discarded, none is noted as such. -/
theorem State.setDropping_none (h : s.core.dropping = []) (f : Nat) : s.setDropping f false = s := by
  rw [State.setDropping, h]
  simp only [List.filter_nil, Bool.false_eq_true, if_false]
  rw [← h]

/-- A piece of a cell is discarded at release: the message that begins in it is stale, or the one that it continues is being
discarded (R112). -/
def State.discards (s : State) (c : Cell) (x : Piece) : Bool :=
  if x.begins then s.staleIn c x.msg else s.core.dropping.contains c.flow

/-- The cell with the pieces that are not discarded (R112). -/
def State.survivors (s : State) (c : Cell) : Cell := c.keeping fun x => !s.discards c x

/-- A cell of whole messages of present generations is released to the egress buffer of its port (R112). -/
theorem State.releaseCell_whole {c : Cell} (hh : c.headCont = false) (ht : c.tail = none) (hd : s.core.dropping = [])
    (hs : ∀ m ∈ c.msgs, s.staleIn c m = false) (hr : (s.port c.dst).retiredPort = false)
    (hb : sumOf (c.msgs.map (·.bytes)) ≠ 0) (o : Nat) :
    s.releaseCell o c = s.releaseToEgress (s.survivors c) ∧ (s.survivors c).msgs = c.msgs := by
  have fresh : ∀ m ∈ c.msgs, s.discards c ⟨m, m.bytes, true, true⟩ = false := hs
  obtain ⟨msgs, valid⟩ := Cell.keeping_whole hh ht (keep := fun x => !s.discards c x) (by simpa using fresh)
  refine ⟨?_, msgs⟩
  have lost : c.pieces.filter (fun x => x.begins && s.discards c x) = [] := by
    rw [Cell.pieces_whole hh ht, List.filter_eq_nil_iff]
    simpa using fresh
  have runs : c.pieces.filter (fun x => !x.ends) = [] := by
    rw [Cell.pieces_whole hh ht, List.filter_eq_nil_iff]
    simp
  simp only [State.discards] at lost valid
  rw [State.releaseCell]
  dsimp only
  rw [lost, runs, List.map_nil, List.any_nil, State.each_of_fixed (xs := []) (by simp), State.setDropping_none hd, hr,
    if_neg (by simp), if_neg (by rw [valid]; exact hb)]
  rfl

/-- A response cell enters the egress buffer of its port behind every other of its level (R128). -/
theorem State.releaseToEgress_memRsp {c : Cell} (hc : c.cls = .memRsp) (hm : ∀ m ∈ c.msgs, m.cls = .memRsp) {v : State}
    (hv : s.releaseToEgress c = v) :
    (v.egress c.dst).memRsp.map (·.cell) = (s.egress c.dst).memRsp.map (·.cell) ++ [c] ∧
    KeepsFlits [.tel, .ports] c.dst (s.egressEnter c.dst c) v := by
  have entered : s.releaseToEgress c = (s.egressEnter c.dst c).creditWatch c.dst := by
    rw [State.releaseToEgress, State.each_of_fixed (xs := c.msgs)]
    exact fun m h => if_pos (by simp [hm m h])
  subst hv
  rw [entered]
  have keeps := (s.egressEnter c.dst c).keeps_creditWatch c.dst
  refine ⟨?_, keeps⟩
  rw [keeps.egress, State.egressEnter, State.egress_modEgress]
  simp [hc]

/-- A cell leaves the window, and its flow's next one is expected. -/
def State.leaveWindow (s : State) (o : Nat) (c : Cell) : State :=
  ({ s with core := { s.core with window := Tbl.putD s.core.window o ((Tbl.getD s.core.window o []).erase c) [] } }).advance c

theorem State.same_leaveWindow (s : State) (o : Nat) (c : Cell) : SameBut [.core] s (s.leaveWindow o c) := s.same_core _

section Released

variable (s : State) (o : SliceId) (c : Cell) (h : BitVec 128) (e : BitVec 1920)
  (hf : (Tbl.getD s.core.window o.val []).find? s.ready = some c)
include hf

/-- CELL_RELEASE of a response cell of present generations that passes its checks. -/
theorem cellRelease_enters (hc : c.cls = .memRsp) (hm : ∀ m ∈ c.msgs, m.cls = .memRsp ∧ s.staleMsg m = false)
    (ht : s.core.tainted = []) (hd : s.core.dropping = []) (hr : (s.port c.dst).retiredPort = false)
    (hh : c.headCont = false) (hl : c.tail = none) (hb : sumOf (c.msgs.map (·.bytes)) ≠ 0)
    (hp : c.headerPasses h.toNat = true) (hq : c.payloadPasses h.toNat e.toNat = true) :
    ∃ t d, exec (.cellRelease o h e) s = .next t ∧
      Tbl.getD t.core.window o.val [] = (Tbl.getD s.core.window o.val []).erase c ∧
      t.expected c.flow = (s.expected c.flow + 1) % 65536 ∧
      (t.egress c.dst).memRsp.map (·.cell) = (s.egress c.dst).memRsp.map (·.cell) ++ [d] ∧ d.msgs = c.msgs ∧
      SameBut [.core, .ports, .tel] s t := by
  let u := s.leaveWindow o.val c
  let d := u.survivors c
  have fresh : ∀ m ∈ c.msgs, u.staleIn c m = false := fun m hx => by
    have stale : u.staleMsg m = false := (hm m hx).2
    simp [State.staleIn, stale]
  obtain ⟨released, msgs⟩ := State.releaseCell_whole (s := u) hh hl hd fresh hr hb o.val
  obtain ⟨egress, keeps⟩ := State.releaseToEgress_memRsp (s := u) (c := d) hc (fun m hx => (hm m (msgs ▸ hx)).1) rfl
  have checked := State.checkCell_passes hp hq
  obtain ⟨t, he, now, same⟩ := exec_shows (exec_cellRelease s o h e) (u := u.releaseToEgress d)
    (P := fun t => t.core = (u.releaseToEgress d).core ∧ SameBut [.core, .ports, .tel] s t)
    (by
      obtain ⟨check, hidden⟩ : ∃ check, State.checkCell = check := ⟨_, rfl⟩
      rw [hidden] at checked ⊢
      dsimp only
      rw [hf]
      dsimp only
      rw [checked]
      · exact released
      · exact ht)
    fun t q keep => ⟨q.core, keep _ (((s.same_leaveWindow _ _).trans (u.same_modEgress _ _)).then keeps.same)⟩
  have core := now.trans keeps.same.core
  refine ⟨t, d, he, ?_, ?_, ?_, msgs, same⟩
  · rw [core]
    exact Tbl.getD_putD_self _ _ _ _
  · rw [State.expected, core]
    exact State.expected_advance _ c
  · rw [State.egress_of_core now]
    exact egress

/-- CELL_RELEASE of a cell whose header fails its check. -/
theorem cellRelease_discards (hp : c.headerPasses h.toNat = false) :
    ∃ t, exec (.cellRelease o h e) s = .next t ∧ t.expected c.flow = (s.expected c.flow + 1) % 65536 ∧
      t.core.egress = s.core.egress ∧ SameBut [.core, .regs, .freeCtr, .onyx] s t := by
  let u := s.leaveWindow o.val c
  let v := (u.bump K.coreCtrCellCrcFailures 1).occur (Src.slice o.val 4)
  have same : SameBut [.regs, .freeCtr, .onyx] u v := (u.same_bump _ _).then (State.same_occur _ _)
  refine exec_shows (exec_cellRelease s o h e) (u := v) ?_ fun t q keep => ?_
  · have checked := State.checkCell_header hp
    obtain ⟨check, hidden⟩ : ∃ check, State.checkCell = check := ⟨_, rfl⟩
    rw [hidden] at checked ⊢
    dsimp only
    rw [hf]
    dsimp only
    rw [checked]
    rfl
  · rw [State.expected, q.core, same.core]
    exact ⟨State.expected_advance _ c, rfl, keep _ ((s.same_leaveWindow _ _).then same)⟩

end Released

/-! ## Internal destinations (R107) -/

/-- Whether a message is stale follows from the objects alone. -/
theorem State.staleIn_of_regs {t : State} (h : t.regs = s.regs) (c : Cell) (m : Msg) : t.staleIn c m = s.staleIn c m := by
  cases s; cases t; cases h; rfl

/-- An internal destination takes every message of a cell of present generations. -/
theorem State.takeCell_fresh {c : Cell} (h : ∀ x ∈ c.msgs, s.staleIn c x = false) (k : Nat) :
    s.takeCell k c = s.setInbox k (s.inbox k ++ c.msgs) := by
  have lost : c.msgs.filter (fun m => m.cls.isRequest && s.staleIn c m) = [] := by
    rw [List.filter_eq_nil_iff]
    intro m hm
    simp [h m hm]
  rw [State.takeCell, lost]
  rw [List.filter_eq_self.2 (by simp)]
  rfl

/-- The heads of a pool that internal destination k can take: next in sequence, of a class that it does not refuse. -/
def State.takeable (s : State) (k m : Nat) : List Cell :=
  classOrder.filterMap fun c =>
    match s.voq m (96 + k) c.num with
    | x :: _ => if x.cell.sequence = s.expected x.cell.flow && !s.unitRefuses k c then some x.cell else none
    | [] => none

/-- INTERNAL_DESTINATION_TAKE of a head of present generations that passes its checks. -/
theorem internalDestinationTake_takes (s : State) (k : Fin 13) (m : SliceId) (c : Cell) (rest : List Cell) (h : BitVec 128)
    (e : BitVec 1920) (hw : s.forwarding = true) (hd : dieOf (96 + k.val) = m.val % 2) (ht : s.core.tainted = [])
    (hc : s.takeable k.val m.val = c :: rest) (hs : ∀ x ∈ c.msgs, s.staleIn c x = false)
    (hp : c.headerPasses h.toNat = true) (hq : c.payloadPasses h.toNat e.toNat = true) :
    ∃ t, exec (.internalDestinationTake k m h e) s = .next t ∧ t.inbox k.val = s.inbox k.val ++ c.msgs ∧
      t.expected c.flow = (s.expected c.flow + 1) % 65536 ∧ SameBut [.core] s t := by
  let w := s.takeHead m.val (96 + k.val) c.cls.num
  let u := w.advance c
  have same := s.same_takeHead m.val (96 + k.val) c.cls.num
  have fresh : ∀ x ∈ c.msgs, u.staleIn c x = false := fun x hx => (State.staleIn_of_regs same.regs c x).trans (hs x hx)
  have inbox : u.inbox k.val = s.inbox k.val := 
    s.takeHead_keeps m.val (96 + k.val) c.cls.num (fun y => Tbl.getD y.inbox k.val []) fun _ _ _ => rfl
  have next : w.expected c.flow = s.expected c.flow := 
    s.takeHead_keeps m.val (96 + k.val) c.cls.num (fun y => Tbl.getD y.expected c.flow 0) fun _ _ _ => rfl
  have untainted : u.core.tainted = [] := 
    (s.takeHead_keeps m.val (96 + k.val) c.cls.num CoreSt.tainted fun _ _ _ => rfl).trans ht
  refine exec_shows (exec_internalDestinationTake s k m h e) (u := u.setInbox k.val (s.inbox k.val ++ c.msgs))
    ((if_neg (by simp [hw, hd])).trans ?_) fun t q keep => ?_
  · have checked := State.checkCell_passes hp hq
    obtain ⟨check, hidden⟩ : ∃ check, State.checkCell = check := ⟨_, rfl⟩
    rw [hidden] at checked ⊢
    dsimp only
    generalize heads : classOrder.filterMap _ = l
    obtain rfl : l = c :: rest := heads.symm.trans hc
    rcases internalSources k.val with ⟨hdr, pay⟩
    dsimp only
    rw [checked _ _ _ untainted]
    exact (State.takeCell_fresh fresh k.val).trans (by rw [inbox])
  · rw [State.inbox, State.expected, q.core, ← next]
    exact ⟨Tbl.getD_putD_self _ _ _ _, w.expected_advance c, keep _ (same.trans (w.same_core _))⟩

/-! ## DELIVERED cells and the auditor (R124, R125) -/

theorem State.poolDelivered_freeDelivered (s : State) (m n : Nat) :
    (s.freeDelivered m n).poolDelivered m = (s.poolDelivered m).filter fun x => decide (x.number ≠ n) :=
  Tbl.getD_putD_self _ _ _ _

/-- The DELIVERED cells of a pool follow from the core alone. -/
theorem State.poolDelivered_of_core {t : State} (h : t.core = s.core) (m : Nat) : t.poolDelivered m = s.poolDelivered m := by
  simp [State.poolDelivered, h]

theorem State.same_freeDelivered (s : State) (m n : Nat) : SameBut [.core] s (s.freeDelivered m n) := s.same_core _

/-- DELIVERED_CELL_FREE of the oldest DELIVERED cell. -/
theorem deliveredCellFree_frees (s : State) (m : SliceId) (x : PoolCell) (rest : List PoolCell)
    (hx : s.poolDelivered m.val = x :: rest) :
    ∃ t, exec (.deliveredCellFree m) s = .next t ∧ (∀ y ∈ t.poolDelivered m.val, y.number ≠ x.number) ∧ SameBut [.core] s t := by
  refine exec_shows (exec_deliveredCellFree s m) (u := s.freeDelivered m.val x.number) (by rw [hx])
    fun t q keep => ⟨fun y hy => ?_, keep _ (s.same_freeDelivered _ _)⟩
  rw [State.poolDelivered_of_core q.core, State.poolDelivered_freeDelivered] at hy
  exact of_decide_eq_true (List.mem_filter.1 hy).2

theorem State.same_endSegment (s : State) (m : Nat) : SameBut [.core] s (s.endSegment m) := s.same_core _

/-- A segment that has been examined or abandoned is done for the beat. -/
theorem State.segmentDone_endSegment (s : State) (m : Nat) : (s.endSegment m).segmentDone m = true :=
  decide_eq_true (Tbl.getD_put_self _ _ _ _)

/-- Whether a segment is done follows from the core and the beat. -/
theorem State.segmentDone_of_core {t : State} (h : t.core = s.core) (hb : t.beat = s.beat) (m : Nat) :
    t.segmentDone m = s.segmentDone m := by
  simp [State.segmentDone, h, hb]

/-- A cell that the auditor reclaims: it is free, counted and reported (R125). -/
def State.reclaim (s : State) (m n : Nat) : State :=
  (((s.freeDelivered m n).bump K.coreCtrLeaksReclaimed 1).bumpField (K.corePoolStatus + m) 47 32).occur (Src.pool m 2)

theorem State.same_reclaim (s : State) (m n : Nat) :
    SameBut [.regs, .freeCtr, .onyx] (s.freeDelivered m n) (s.reclaim m n) :=
  ((State.same_bump _ _ _).then (State.same_w _ _ _) (n := [.regs, .freeCtr])).then (State.same_occur _ _)

/-- A leak is counted where the counter does not pass its size. -/
theorem State.leaks_reclaim (s : State) {m : Nat} (hm : m < 48) (n : Nat)
    (h : s.r K.coreCtrLeaksReclaimed + 1 < 2 ^ Schema.width K.coreCtrLeaksReclaimed) :
    (s.reclaim m n).r K.coreCtrLeaksReclaimed = s.r K.coreCtrLeaksReclaimed + 1 := by
  have other : K.coreCtrLeaksReclaimed ≠ K.corePoolStatus + m := by
    simp [K.coreCtrLeaksReclaimed, K.corePoolStatus, obj]
    omega
  rw [State.reclaim, State.r_occur, State.bumpField, State.r_w_ne _ other]
  exact State.r_bump_self h

/-- A pool without QUEUED cells has none to examine. -/
theorem State.auditQueued_of_none (h : s.core.voq = []) (m : Nat) (found : List DescFind) : s.auditQueued m found = s :=
  State.each_of_fixed fun x hx => by simp [State.poolQueued, State.poolQueues, h] at hx

/-- A pool whose one DELIVERED cell lies in the segment and is older than the beat before reclaims it (R125). -/
theorem State.auditDelivered_leak {m : Nat} {x : PoolCell} (hx : s.poolDelivered m = [x])
    (hi : inSegment s.beat x.number = true) (ha : 2 ≤ (s.beat + 65536 - x.stamp) % 65536) :
    s.auditDelivered m = s.reclaim m x.number := by
  simp [State.auditDelivered, hx, hi, ha, State.each, State.reclaim]

/-- What is left of a pool whose leaked cell the auditor has reclaimed. -/
theorem State.endSegment_reclaim {m : Nat} (hm : m < 48) {x : PoolCell} (hx : s.poolDelivered m = [x]) {v : State}
    (hv : (s.reclaim m x.number).endSegment m = v) :
    v.poolDelivered m = [] ∧ v.segmentDone m = true ∧
    (s.r K.coreCtrLeaksReclaimed + 1 < 2 ^ Schema.width K.coreCtrLeaksReclaimed →
      v.r K.coreCtrLeaksReclaimed = s.r K.coreCtrLeaksReclaimed + 1) ∧ SameBut [.core, .regs, .freeCtr, .onyx] s v := by
  have reclaimed := s.same_reclaim m x.number
  obtain ⟨u, hu⟩ : ∃ u, s.reclaim m x.number = u := ⟨_, rfl⟩
  have leaks := s.leaks_reclaim hm x.number
  rw [hu] at reclaimed leaks hv
  have ended : SameBut [.core] u v := hv ▸ u.same_endSegment m
  have left : u.poolDelivered m = [] := by
    rw [State.poolDelivered_of_core reclaimed.core, State.poolDelivered_freeDelivered, hx]
    simp
  refine ⟨?_, hv ▸ u.segmentDone_endSegment m, fun h => (ended.r _).trans (leaks h),
    ((s.same_freeDelivered m x.number).then reclaimed (n := [.core, .regs, .freeCtr, .onyx])).then ended⟩
  rw [← hv]
  exact left

/-- AUDIT_SEGMENT of a leaked cell, within the work window. -/
theorem auditSegment_reclaims (s : State) (m : SliceId) (x : PoolCell) (ht : s.tick < s.quartz.cutoff)
    (hs : s.segmentDone m.val = false) (hv : s.core.voq = []) (hx : s.poolDelivered m.val = [x]) (hb : s.beat % 64 ≠ 63)
    (hi : inSegment s.beat x.number = true) (ha : 2 ≤ (s.beat + 65536 - x.stamp) % 65536) :
    ∃ t, exec (.auditSegment m []) s = .next t ∧ t.poolDelivered m.val = [] ∧ t.segmentDone m.val = true ∧
      (s.r K.coreCtrLeaksReclaimed + 1 < 2 ^ Schema.width K.coreCtrLeaksReclaimed →
        t.r K.coreCtrLeaksReclaimed = s.r K.coreCtrLeaksReclaimed + 1) ∧ SameBut [.core, .regs, .freeCtr, .onyx] s t := by
  obtain ⟨u, hu⟩ : ∃ u, (s.reclaim m.val x.number).endSegment m.val = u := ⟨_, rfl⟩
  obtain ⟨left, done, leaks, same⟩ := State.endSegment_reclaim m.isLt hx hu
  refine exec_shows (exec_auditSegment s m []) (u := u) ((if_neg (by simp [hs, ht])).trans ?_) fun t q keep => ?_
  · dsimp only
    rw [State.each_of_fixed (by simp), State.auditQueued_of_none hv, State.auditDelivered_leak hx hi ha, hu]
    exact if_pos (by rwa [same.beat])
  · have keeps := keep _ same
    rw [State.poolDelivered_of_core q.core, State.segmentDone_of_core q.core (keeps.beat.trans same.beat.symm), q.r]
    exact ⟨left, done, leaks, keeps⟩

/-- The pools whose sweep is broken once a segment of pool m is abandoned: the last segment ends the sweep (R124). -/
def State.brokenSweeps (s : State) (m : Nat) : List Nat :=
  if s.beat % 64 = 63 then s.core.sweepBroken.erase m
  else if s.core.sweepBroken.contains m then s.core.sweepBroken else s.core.sweepBroken ++ [m]

/-- A segment that is abandoned is counted and done, and breaks its sweep. -/
theorem State.abandonSegment_eq {m : Nat} (h : s.segmentDone m = false) {u : State} (hu : (s.missedWork 8 {}).endSegment m = u) :
    s.abandonSegment m = { u with core := { u.core with sweepBroken := u.brokenSweeps m } } := by
  rw [State.abandonSegment, if_neg (by simp [h]), hu, State.brokenSweeps]
  dsimp only
  split
  · rfl
  · split <;> rfl

/-- Before the last segment, a pool with a segment abandoned has its sweep broken. -/
theorem State.mem_brokenSweeps (h : s.beat % 64 ≠ 63) (m : Nat) : m ∈ s.brokenSweeps m := by
  rw [State.brokenSweeps, if_neg h]
  split
  · next known => exact List.contains_iff_mem.1 known
  · exact List.mem_concat_self

/-- What is left of a segment that has not been examined (R124). -/
theorem State.abandonSegment_notes {m : Nat} (h : s.segmentDone m = false) {v : State} (hv : s.abandonSegment m = v) :
    v.segmentDone m = true ∧ (s.beat % 64 ≠ 63 → m ∈ v.core.sweepBroken) ∧
    SameBut [.core, .regs, .freeCtr, .onyx] s v := by
  obtain ⟨u, hu⟩ : ∃ u, (s.missedWork 8 {}).endSegment m = u := ⟨_, rfl⟩
  have same : SameBut [.core, .regs, .freeCtr, .onyx] s u := by
    rw [← hu]
    exact (s.same_missedWork 8 {}).then (State.same_endSegment _ m)
  have done : u.segmentDone m = true := by
    rw [← hu]
    exact State.segmentDone_endSegment _ m
  rw [← hv, State.abandonSegment_eq h hu]
  exact ⟨done, fun hb => State.mem_brokenSweeps (by rwa [same.beat]) m, same.trans ((u.same_core _).mono (by decide))⟩

/-- AUDIT_SEGMENT_ABANDON of a segment that has not been examined by tick 1,023. -/
theorem auditSegmentAbandon_notes (s : State) (m : SliceId) (ht : 1023 ≤ s.tick) (hs : s.segmentDone m.val = false) :
    ∃ t, exec (.auditSegmentAbandon m) s = .next t ∧ t.segmentDone m.val = true ∧
      (s.beat % 64 ≠ 63 → m.val ∈ t.core.sweepBroken) ∧ SameBut [.core, .regs, .freeCtr, .onyx] s t := by
  obtain ⟨done, noted, same⟩ := State.abandonSegment_notes hs rfl
  refine exec_shows (exec_auditSegmentAbandon s m) (u := s.abandonSegment m.val) (if_neg (by omega)) fun t q keep => ?_
  have keeps := keep _ same
  rw [q.core, State.segmentDone_of_core q.core (keeps.beat.trans same.beat.symm)]
  exact ⟨done, noted, keeps⟩

/-- Settles O47: a response cell released or discarded, a head taken, a cell freed, and a segment examined or abandoned. -/
theorem cellsAreReleasedAndFreed : Obligations.CellsAreReleasedAndFreed :=
  ⟨fun s o c h e hf => ⟨cellRelease_enters s o c h e hf, cellRelease_discards s o c h e hf⟩,
   internalDestinationTake_takes, deliveredCellFree_frees, auditSegment_reclaims, auditSegmentAbandon_notes⟩

end Sys2Proof.Machine
end

section
/-! What the tables of the extent map share: the windows that R37 writes, and an entry's write into the array (09;
R37, R162, R164). -/

namespace Sys2Proof.Machine

variable {s t u : State}

/-! ## Windows of a table (R37) -/

/-- A list of checks refuses nothing exactly where each of them passes. -/
theorem firstOf_eq_none {l : List (Option Nat)} : firstOf l = none ↔ ∀ x ∈ l, x = none := by
  induction l with
  | nil => simp [firstOf]
  | cons x l ih => cases x <;> simp [firstOf, ih]

theorem length_pieces {n : Nat} (hn : 0 < n) (fuel : Nat) (l : List Byte) (h : n * fuel ≤ l.length) :
    (pieces n fuel l).length = fuel := by
  induction fuel generalizing l with
  | zero => rfl
  | succ fuel ih =>
    have hl : l ≠ [] := by rintro rfl; simp [Nat.mul_succ] at h; omega
    simp [pieces, hl, ih (l.drop n) (by simp [Nat.mul_succ] at h ⊢; omega)]

theorem length_rowsOf {n : Nat} (hn : 0 < n) (p : List Byte) : (rowsOf n p).length = p.length / n := by
  rw [rowsOf, if_neg (Nat.ne_of_gt hn), List.length_map, length_pieces hn _ p (Nat.mul_div_le _ _)]

/-- Whole rows that lie in the table are a window (R37). -/
theorem ObjInfo.windowRefusal_of_whole {o : ObjInfo} {row : Nat} {p : List Byte} (hp : p ≠ []) (hm : p.length % o.ty.size = 0)
    (hr : row + p.length / o.ty.size ≤ o.rows) : o.windowRefusal row p = none := by
  have hq : 0 < p.length / o.ty.size := by
    have := List.length_pos_iff.2 hp
    have := Nat.div_add_mod p.length o.ty.size
    rcases Nat.eq_zero_or_pos (p.length / o.ty.size) with h | h
    · rw [h] at this; omega
    · exact h
  simp [ObjInfo.windowRefusal, hp, hm]
  omega

/-- The rows of a window: from a first key on, one for each piece of the payload. -/
def windowRows (size first : Nat) (f : Nat → Nat) (p : List Byte) : List (Nat × Nat) :=
  (rowsOf size p).mapIdx fun k v => (first + k, f v)

theorem mem_windowRows_lt {size first : Nat} {f : Nat → Nat} {p : List Byte} (hn : 0 < size) {x : Nat × Nat}
    (hx : x ∈ windowRows size first f p) : x.1 < first + p.length / size := by
  obtain ⟨k, hk, rfl⟩ := List.mem_mapIdx.1 hx
  rw [length_rowsOf hn] at hk
  exact Nat.add_lt_add_left hk first

/-- The rows of a window that ends in the table all lie in the table. -/
theorem filter_windowRows {size first n : Nat} {f : Nat → Nat} {p : List Byte} (hn : 0 < size) (h : first + p.length / size ≤ n) :
    (windowRows size first f p).filter (fun x => decide (x.1 < n)) = windowRows size first f p :=
  List.filter_eq_self.2 fun _ hx => decide_eq_true (Nat.lt_of_lt_of_le (mem_windowRows_lt hn hx) h)

/-- No two rows of a window have one key. -/
theorem windowRows_apart (size first : Nat) (f : Nat → Nat) (p : List Byte) :
    (windowRows size first f p).Pairwise fun x y => x.1 ≠ y.1 := by
  rw [List.pairwise_iff_getElem]
  intro i j hi hj hij
  simp [windowRows]
  omega

/-- The rows of a window with another first key. -/
theorem windowRows_shift (size k row : Nat) (f : Nat → Nat) (p : List Byte) :
    (rowsOf size p).mapIdx (fun j v => (k + (row + j), f v)) = (windowRows size row f p).map fun x => (k + x.1, x.2) := by
  exact List.ext_getElem (by simp [windowRows]) fun _ _ _ => by simp [windowRows]

/-- Writes one after another, each at its own place, stand as they were written, and every other place holds what it held. -/
theorem State.each_writes {f : State → Nat × Nat → State} {g : State → Nat → Nat} (hs : ∀ v x, g (f v x) x.1 = x.2)
    (hn : ∀ v x i, x.1 ≠ i → g (f v x) i = g v i) {xs : List (Nat × Nat)} (ha : xs.Pairwise fun x y => x.1 ≠ y.1) (s : State) :
    (∀ x ∈ xs, g (s.each xs f) x.1 = x.2) ∧ ∀ i, (∀ x ∈ xs, x.1 ≠ i) → g (s.each xs f) i = g s i := by
  unfold State.each
  induction xs generalizing s with
  | nil => simp
  | cons x xs ih =>
    obtain ⟨hx, ha⟩ := List.pairwise_cons.1 ha
    obtain ⟨written, left⟩ := ih ha (f s x)
    refine ⟨?_, fun i hi => ?_⟩
    · rintro y hy
      rcases List.mem_cons.1 hy with rfl | hy
      · rw [List.foldl_cons, left y.1 fun z hz => (hx z hz).symm, hs]
      · exact written y hy
    · obtain ⟨h1, h2⟩ := List.forall_mem_cons.1 hi
      rw [List.foldl_cons, left i h2, hn s x i h1]

/-! ## Entries (R162, R164) -/

/-- The counters of Table 9-6 stand below the entries. -/
theorem entCounter_lt (st : Nat) : entCounter st < K.berylEntryTable := by
  unfold entCounter
  repeat' split
  all_goals decide

theorem State.entry_w_counter (s : State) (i st v : Nat) : (s.w (entCounter st) v).entry i = s.entry i :=
  s.r_w_ne (by have := entCounter_lt st; omega) v

theorem State.entry_of_regs (h : t.regs = s.regs) (i : Nat) : t.entry i = s.entry i := State.r_of_regs h _

theorem State.same_poisonExtent (s : State) (x : Nat × Nat × Nat) : SameBut [.beryl] s (s.poisonExtent x) := by
  unfold State.poisonExtent
  split
  · exact .refl _ s
  · exact s.same_beryl _

theorem State.same_mediaEvent (s : State) (v dpa : Nat) : SameBut [.vmds] s (s.mediaEvent v dpa) := s.same_modVmd _ _

/-- An entry in the array, with its check and its extent's mark, before the counters follow. -/
def State.storeEntry (s : State) (i e : Nat) : State :=
  let s := s.w (K.berylEntryTable + i) e
  let s := { s with beryl := { s.beryl with
    checks := Tbl.put s.beryl.checks i (Config.entryCheck e), errors := s.beryl.errors.filter (fun k => decide (k ≠ i)) } }
  if entState e = 4 then s.poisonExtent (entTarget e, entLd e, entExtent e) else s

/-- The counters follow an entry's change of state, and VMDs that map a poisoned entry are told (R178). -/
def State.countEntry (s : State) (i old new : Nat) : State :=
  if old = new then s
  else
    let s := s.lower (entCounter old) 1
    let s := s.w (entCounter new) (s.r (entCounter new) + 1)
    if new = 4 then s.each (s.mappings i) (fun t m => t.mediaEvent m.1 m.2) else s

theorem State.putEntry_eq (s : State) (i e : Nat) :
    s.putEntry i e = (s.storeEntry i e).countEntry i (entState (s.entry i)) (entState e) := rfl

theorem State.same_storeEntry (s : State) (i e : Nat) : SameBut [.regs, .beryl] s (s.storeEntry i e) :=
  ((s.same_w _ _).then (State.same_beryl _ _)).trans (((State.same_poisonExtent _ _).ite).mono (by decide))

theorem State.regs_storeEntry (s : State) (i e : Nat) : (s.storeEntry i e).regs = (s.w (K.berylEntryTable + i) e).regs :=
  ((State.same_poisonExtent _ _).ite).regs

theorem State.same_tellMappings (s : State) (l : List (Nat × Nat)) :
    SameBut [.vmds] s (s.each l fun (u : State) (m : Nat × Nat) => u.mediaEvent m.1 m.2) :=
  s.same_each _ _ (fun u (m : Nat × Nat) => u.same_mediaEvent m.1 m.2) _

theorem State.same_countEntry (s : State) (i old new : Nat) : SameBut [.regs, .vmds] s (s.countEntry i old new) := by
  unfold State.countEntry
  split
  · exact .refl _ s
  · exact ((s.same_w _ _).trans (State.same_w _ _ _)).then ((State.same_tellMappings _ _).ite)

theorem State.entry_countEntry (s : State) (i old new j : Nat) : (s.countEntry i old new).entry j = s.entry j := by
  unfold State.countEntry
  split
  · rfl
  · dsimp only
    rw [State.entry_of_regs ((State.same_tellMappings _ _).ite).regs, State.entry_w_counter, State.lower, State.entry_w_counter]

/-- An entry written stands in its place. -/
theorem State.entry_putEntry_self (s : State) (i e : Nat) : (s.putEntry i e).entry i = e := by
  rw [s.putEntry_eq, State.entry_countEntry, State.entry_of_regs (s.regs_storeEntry i e)]
  exact s.r_w_self _ e

theorem State.entry_of_putEntry {i e : Nat} (h : t.regs = (s.putEntry i e).regs) : t.entry i = e := by
  rw [State.entry_of_regs h, s.entry_putEntry_self]

theorem State.entry_putEntry_ne (s : State) {i j : Nat} (h : i ≠ j) (e : Nat) : (s.putEntry i e).entry j = s.entry j := by
  rw [s.putEntry_eq, State.entry_countEntry, State.entry_of_regs (s.regs_storeEntry i e)]
  exact s.r_w_ne (by omega) e

theorem State.same_putEntry (s : State) (i e : Nat) : SameBut [.regs, .beryl, .vmds] s (s.putEntry i e) :=
  s.putEntry_eq i e ▸ (s.same_storeEntry i e).then (State.same_countEntry _ _ _ _)

theorem State.same_putEntries (s : State) (rows : List (Nat × Nat)) :
    SameBut [.regs, .beryl, .vmds] s (s.each rows fun u x => u.putEntry x.1 x.2) :=
  s.same_each _ (fun u (x : Nat × Nat) => u.putEntry x.1 x.2) (fun v x => v.same_putEntry x.1 x.2) rows

theorem State.writes_poisonExtent (s : State) (x : Nat × Nat × Nat) : (s.poisonExtent x).beryl.writes = s.beryl.writes := by
  unfold State.poisonExtent
  split <;> rfl

/-- An entry that is written leaves the writes that wait. -/
theorem State.writes_putEntry (s : State) (i e : Nat) : (s.putEntry i e).beryl.writes = s.beryl.writes := by
  rw [s.putEntry_eq, (State.same_countEntry _ _ _ _).beryl, State.storeEntry]
  dsimp only
  split
  · rw [State.writes_poisonExtent]; rfl
  · rfl

end Sys2Proof.Machine
end

section
/-! How windows of entries, of runs and of the inventory are written (09; R164, R166, R171). -/

namespace Sys2Proof.Machine

variable {s t u : State}

/-! ## EntryTable (R171) -/

theorem State.same_queueWrites (s : State) (l : List (Nat × Nat × WriteOwner)) : SameBut [.beryl] s (s.queueWrites l) :=
  s.same_beryl _

theorem State.same_overtakeReleases (s : State) (l : List Nat) : SameBut [.beryl] s (s.overtakeReleases l) := s.same_beryl _

/-- A window of entries that every check of R171 passes is written. -/
theorem State.writeEntries_ok {p : Priv} {row : Nat} {data : List Byte} {rows : List (Nat × Nat)}
    (hw : s.writeRefusal p 0x3801 0x01 = none) (hp : data ≠ []) (hm : data.length % 8 = 0)
    (hr : row + data.length / 8 ≤ 4194304) (hrows : rows = windowRows 8 row entWritten data)
    (hx : ∀ x ∈ rows, s.entryLocked x.1 = false ∧ s.namesHeld x.2 = false ∧ stateRefusal x.2 = none ∧
      s.extentRefusal (s.trials rows) x.2 = none) :
    s.writeEntries p row data = .ok (((s.each rows (fun u x => u.putEntry x.1 x.2)).overtakeReleases (rows.map (·.1))).queueWrites
      (rows.map (fun x => (x.1, x.2, WriteOwner.entryTable))), []) := by
  have whole : ((rowsOf 8 data).mapIdx (fun k v => (row + k, entWritten v))).filter (fun x => decide (x.1 < 4194304)) = rows := by
    rw [hrows]
    exact filter_windowRows (by decide) hr
  have free : rows.any (fun x => s.entryLocked x.1 || s.namesHeld x.2) = false := by
    rw [List.any_eq_false]
    intro x h
    obtain ⟨locked, held, -⟩ := hx x h
    simp [locked, held]
  have window : ObjInfo.windowRefusal ⟨0x01, 4194304, .octets 8, .rw, .owner, false, 0, .any⟩ row data = none :=
    ObjInfo.windowRefusal_of_whole hp hm hr
  rw [State.writeEntries]
  simp only [whole]
  rw [firstOf_eq_none.2]
  simp only [hw, free, window, List.mem_append, List.mem_map, List.mem_cons]
  rintro x ((hc | ⟨y, hy, rfl⟩) | ⟨y, hy, rfl⟩)
  · simpa using hc
  · obtain ⟨-, -, state, -⟩ := hx y hy
    exact state
  · obtain ⟨-, -, -, extent⟩ := hx y hy
    exact extent

/-- ENTRY_TABLE_WRITE: the rows of an accepted window hold what was written, and every other entry what it held. -/
theorem entryTableWrite_stores (s u : State) (e : JdpEnv) (p : Priv) (rows : List (Nat × Nat))
    (h : Heard s e opWrite 0x3801 0x01 p u) (hw : u.writeRefusal p 0x3801 0x01 = none) (hp : e.payload ≠ [])
    (hm : e.payload.length % 8 = 0) (hr : e.row + e.payload.length / 8 ≤ 4194304)
    (hrows : rows = windowRows 8 e.row entWritten e.payload)
    (hx : ∀ x ∈ rows, u.entryLocked x.1 = false ∧ u.namesHeld x.2 = false ∧ stateRefusal x.2 = none ∧
      u.extentRefusal (u.trials rows) x.2 = none) :
    ∃ t, exec (.entryTableWrite e) s = .next t ∧ (∀ x ∈ rows, t.entry x.1 = x.2) ∧
      (∀ i, i < 4194304 → (∀ x ∈ rows, x.1 ≠ i) → t.entry i = s.entry i) ∧
      SameBut [.regs, .beryl, .vmds, .mgmt, .out] s t := by
  refine h.intro (u.writeEntries_ok hw hp hm hr hrows hx) fun t q keep => ?_
  obtain ⟨written, left⟩ := State.each_writes (f := fun u x => u.putEntry x.1 x.2) (g := State.entry)
    (fun v x => v.entry_putEntry_self x.1 x.2) (fun v x i hi => v.entry_putEntry_ne hi x.2)
    (hrows ▸ windowRows_apart 8 e.row entWritten e.payload) u
  have held (i : Nat) : t.entry i = (u.each rows fun u x => u.putEntry x.1 x.2).entry i := State.entry_of_regs q.regs i
  refine ⟨fun x hx => (held _).trans (written x hx), fun i _ hi => ?_, ?_⟩
  · rw [held, left i hi, State.entry_of_regs h.same.regs]
  · refine (keep [.regs, .beryl, .vmds] ?_).mono (by decide)
    exact ((u.same_putEntries rows).trans ((State.same_overtakeReleases _ _).mono (by decide))).trans
      ((State.same_queueWrites _ _).mono (by decide))

/-! ## DescriptorTable and RegionRunTable (R166) -/

/-- The STG fields that a window of runs writes (R166). -/
def State.runsWritten (s : State) (rows : List (Nat × Nat)) : Tbl Nat :=
  rows.foldl (fun t x => Tbl.put t x.1 (rrWithStg (s.r x.1) x.2)) []

/-- A window of runs that every check of R166 passes is staged, or applied at once in PREOP. -/
theorem State.writeRuns_ok {p : Priv} {region : Bool} {i n row : Nat} {data : List Byte} {rows : List (Nat × Nat)}
    (hi : (i, n) = if region then (0x3803, 256) else (0x3802, 4096))
    (hw : s.writeRefusal p i 0x01 = none) (hp : data ≠ []) (hm : data.length % 16 = 0) (hr : row + data.length / 16 ≤ n)
    (hrows : rows = windowRows 16 (obj i 0x01 + row) id data)
    (hx : ∀ x ∈ rows, rrFixed x.2 = rrFixed (s.shownRow x.1) ∧ rrKind (s.r x.1) ≠ 0 ∧ rrKind (s.r x.1) ≠ 2)
    (hk : s.device = .preop → s.runsOk (s.runsWritten rows) = true) :
    s.writeRuns p region row data =
      if s.device = .preop then .ok (s.each (s.runsWritten rows) (fun t x => t.applyRow x.1 x.2), [])
      else .ok ({ s with staged := (s.runsWritten rows).foldl (fun t x => Tbl.put t x.1 x.2) s.staged }, []) := by
  have whole : ((rowsOf 16 data).mapIdx (fun k v => (obj i 0x01 + row + k, v))).filter
      (fun x => decide (x.1 < obj i 0x01 + n)) = rows := by
    rw [hrows]
    exact filter_windowRows (f := id) (by decide) (by omega)
  have fixed : rows.any (fun x => decide (rrFixed x.2 ≠ rrFixed (s.shownRow x.1))) = false := by
    rw [List.any_eq_false]
    intro x h
    simp [(hx x h).1]
  have kinds : rows.any (fun x => rrKind (s.r x.1) = 0 || rrKind (s.r x.1) = 2) = false := by
    rw [List.any_eq_false]
    intro x h
    simp [(hx x h).2]
  have window : ObjInfo.windowRefusal ⟨0x01, n, .octets 16, .stg, .owner, false, 2 ^ 98, .any⟩ row data = none :=
    ObjInfo.windowRefusal_of_whole hp hm hr
  have sound : (decide (s.device = .preop) && !s.runsOk (s.runsWritten rows)) = false := by
    by_cases hd : s.device = .preop
    · simp [hk hd]
    · simp [hd]
  rw [State.writeRuns, ← hi]
  simp only [whole]
  rw [State.runsWritten] at sound ⊢
  rw [hw, fixed, kinds, window, sound]
  rfl

/-- The commands of the two tables of runs, and their sizes. -/
theorem exec_writeRuns {e : JdpEnv} {i n : Nat} {c : Instr} (s : State)
    (hc : (i = 0x3802 ∧ n = 4096 ∧ c = .descriptorTableWrite e) ∨ (i = 0x3803 ∧ n = 256 ∧ c = .regionRunTableWrite e)) :
    ∃ region : Bool, ((i, n) = if region then (0x3803, 256) else (0x3802, 4096)) ∧
      exec c s = effectOf e (fun s => s.serve e opWrite i 0x01 fun p s => s.writeRuns p region e.row e.payload) s := by
  rcases hc with ⟨rfl, rfl, rfl⟩ | ⟨rfl, rfl, rfl⟩
  · exact ⟨false, rfl, rfl⟩
  · exact ⟨true, rfl, rfl⟩

theorem State.same_staged (s : State) (x : Tbl Nat) : SameBut [.staged] s { s with staged := x } := by
  intro q hq
  cases q with
  | staged => simp at hq
  | time => exact ⟨rfl, rfl, rfl⟩
  | _ => rfl

theorem State.same_applyRow (s : State) (k v : Nat) : SameBut [.regs, .beryl] s (s.applyRow k v) := by
  unfold State.applyRow
  dsimp only
  split
  · exact .refl _ s
  · exact (s.same_w _ _).then (State.same_beryl _ _)

theorem State.same_applyRows (s : State) (rows : List (Nat × Nat)) :
    SameBut [.regs, .beryl] s (s.each rows fun u x => u.applyRow x.1 x.2) :=
  s.same_each _ (fun u (x : Nat × Nat) => u.applyRow x.1 x.2) (fun v x => v.same_applyRow x.1 x.2) rows

/-- DESCRIPTOR_TABLE_WRITE and REGION_RUN_TABLE_WRITE: an accepted window waits in the staged set, or applies at once in PREOP. -/
theorem runTableWrite_stages (s u : State) (e : JdpEnv) (p : Priv) (i n : Nat) (c : Instr) (set : Tbl Nat)
    (hc : (i = 0x3802 ∧ n = 4096 ∧ c = .descriptorTableWrite e) ∨ (i = 0x3803 ∧ n = 256 ∧ c = .regionRunTableWrite e))
    (h : Heard s e opWrite i 0x01 p u) (hw : u.writeRefusal p i 0x01 = none) (hp : e.payload ≠ [])
    (hm : e.payload.length % 16 = 0) (hr : e.row + e.payload.length / 16 ≤ n)
    (hx : ∀ x ∈ windowRows 16 (obj i 0x01 + e.row) id e.payload,
      rrFixed x.2 = rrFixed (u.shownRow x.1) ∧ rrKind (u.r x.1) ≠ 0 ∧ rrKind (u.r x.1) ≠ 2)
    (hset : set = u.runsWritten (windowRows 16 (obj i 0x01 + e.row) id e.payload)) :
    (s.device ≠ .preop → ∃ t, exec c s = .next t ∧ t.staged = set.foldl (fun t x => Tbl.put t x.1 x.2) s.staged ∧
      SameBut [.staged, .mgmt, .out] s t) ∧
    (s.device = .preop → u.runsOk set = true → ∃ t, exec c s = .next t ∧
      SameBut [.mgmt, .out, .queue, .time] (u.each set (fun v x => v.applyRow x.1 x.2)) t ∧
      SameBut [.regs, .beryl, .mgmt, .out] s t) := by
  obtain ⟨region, hi, hexec⟩ := exec_writeRuns s hc
  have device : u.device = s.device := State.device_of_regs h.same.regs
  rw [hexec]
  refine ⟨fun hd => ?_, fun hd hok => ?_⟩
  · have staged := u.writeRuns_ok hi hw hp hm hr rfl hx fun hu => absurd (device ▸ hu) hd
    rw [if_neg (device ▸ hd), ← hset] at staged
    refine h.intro staged fun t q keep => ⟨?_, (keep [.staged] (u.same_staged _)).mono (by decide)⟩
    rw [q.staged, h.same.staged]
  · have applied := u.writeRuns_ok hi hw hp hm hr rfl hx fun _ => hset ▸ hok
    rw [if_pos (device ▸ hd), ← hset] at applied
    exact h.intro applied fun t q keep =>
      ⟨q, (keep [.regs, .beryl] (u.same_applyRows set)).mono (by decide)⟩

/-! ## DeviceInventory (R164) -/

/-- A window of the inventory that every check of R164 passes is written. -/
theorem State.writeInventory_ok {p : Priv} {row : Nat} {data : List Byte} {rows inv : List (Nat × Nat)}
    (hw : s.writeRefusal p 0x3804 0x01 = none) (hp : data ≠ []) (hm : data.length % 16 = 0) (hr : row + data.length / 16 ≤ 1024)
    (hrows : rows = (windowRows 16 row inventoryWritten data).map fun x => (K.berylDeviceInventory + x.1, x.2))
    (hinv : inv = (s.each rows (fun v x => v.w x.1 x.2)).inventory)
    (hx : ∀ x ∈ rows, (x.2 = s.r x.1 ∨ s.targetInUse (s.r x.1) = false) ∧ inventoryRefusal x.2 = none)
    (ha : namesApart inv = true) (hn : sumOf (inv.map (fun x => bits x.2 110 88)) ≤ 8388608) :
    s.writeInventory p row data = .ok (s.each rows (fun v x => v.w x.1 x.2), []) := by
  have whole : ((rowsOf 16 data).mapIdx (fun j v => (row + j, inventoryWritten v))).filter (fun x => decide (x.1 < 1024))
      = windowRows 16 row inventoryWritten data := filter_windowRows (by decide) hr
  have keyed : (s.each (windowRows 16 row inventoryWritten data) fun u x => u.w (K.berylDeviceInventory + x.1) x.2)
      = s.each rows (fun v x => v.w x.1 x.2) := by
    rw [hrows, State.each, State.each, List.foldl_map]
  have hx' : ∀ x ∈ windowRows 16 row inventoryWritten data,
      (x.2 = s.r (K.berylDeviceInventory + x.1) ∨ s.targetInUse (s.r (K.berylDeviceInventory + x.1)) = false) ∧
        inventoryRefusal x.2 = none := fun x h => hx (K.berylDeviceInventory + x.1, x.2) (hrows ▸ List.mem_map_of_mem h)
  have unused : (windowRows 16 row inventoryWritten data).any (fun x => decide (x.2 ≠ s.r (K.berylDeviceInventory + x.1)) &&
      s.targetInUse (s.r (K.berylDeviceInventory + x.1))) = false := by
    rw [List.any_eq_false]
    intro x h
    rcases (hx' x h).1 with h | h <;> simp [h]
  have window : ObjInfo.windowRefusal ⟨0x01, 1024, .octets 16, .rw, .owner, true, 0, .any⟩ row data = none :=
    ObjInfo.windowRefusal_of_whole hp hm hr
  rw [State.writeInventory]
  simp only [whole, keyed, ← hinv]
  rw [firstOf_eq_none.2]
  simp only [hw, unused, window, List.mem_append, List.mem_map, List.mem_cons]
  rintro x ((hc | ⟨y, hy, rfl⟩) | hc)
  · simpa using hc
  · exact (hx' y hy).2
  · simpa [ha, Nat.not_lt.2 hn] using hc

/-- DEVICE_INVENTORY_WRITE: the rows of an accepted window hold what was written, and every other object what it held. -/
theorem deviceInventoryWrite_stores (s u : State) (e : JdpEnv) (p : Priv) (rows inv : List (Nat × Nat))
    (h : Heard s e opWrite 0x3804 0x01 p u) (hw : u.writeRefusal p 0x3804 0x01 = none) (hp : e.payload ≠ [])
    (hm : e.payload.length % 16 = 0) (hr : e.row + e.payload.length / 16 ≤ 1024)
    (hrows : rows = (rowsOf 16 e.payload).mapIdx (fun k v => (K.berylDeviceInventory + (e.row + k), inventoryWritten v)))
    (hinv : inv = (u.each rows (fun v x => v.w x.1 x.2)).inventory)
    (hx : ∀ x ∈ rows, (x.2 = u.r x.1 ∨ u.targetInUse (u.r x.1) = false) ∧ inventoryRefusal x.2 = none)
    (ha : namesApart inv = true) (hn : sumOf (inv.map (fun x => bits x.2 110 88)) ≤ 8388608) :
    ∃ t, exec (.deviceInventoryWrite e) s = .next t ∧ (∀ x ∈ rows, t.r x.1 = x.2) ∧
      (∀ k, (∀ x ∈ rows, x.1 ≠ k) → t.r k = s.r k) ∧ SameBut [.regs, .mgmt, .out] s t := by
  rw [windowRows_shift] at hrows
  have apart : rows.Pairwise fun x y => x.1 ≠ y.1 := by
    rw [hrows, List.pairwise_map]
    exact (windowRows_apart 16 e.row inventoryWritten e.payload).imp fun h => by simpa using h
  obtain ⟨written, left⟩ := State.each_writes (f := fun v x => v.w x.1 x.2) (g := State.r)
    (fun v x => v.r_w_self x.1 x.2) (fun v x k hk => v.r_w_ne hk.symm x.2) apart u
  refine h.intro (u.writeInventory_ok hw hp hm hr hrows hinv hx ha hn) fun t q keep => ⟨fun x hx => ?_, fun k hk => ?_, ?_⟩
  · exact (q.r _).trans (written x hx)
  · rw [q.r, left k hk, h.same.r]
  · exact (keep [.regs] (u.same_each _ _ (fun v x => v.same_w x.1 x.2) rows)).mono (by decide)

end Sys2Proof.Machine
end

section
/-! The work of the extent map's background slots, its replacements, and how rows settle and the scrub ends (09; R168 to R170,
R172, R173, R176, R177). -/

namespace Sys2Proof.Machine

variable {s t u : State}

/-! ## EntryRunWrite (R172) -/

@[simp] theorem length_runWriteRows (first count template : Nat) : (runWriteRows first count template).length = count := by
  simp [runWriteRows, upTo]

/-- Every key put into a table, and every key that stood there, is listed. -/
theorem Tbl.isSome_find_foldl_put {α : Type} (v : α) (xs : List (Nat × Nat)) (tbl : Tbl α) {k : Nat}
    (h : (∃ x ∈ xs, x.1 = k) ∨ (Tbl.find tbl k).isSome = true) :
    (Tbl.find (xs.foldl (fun t x => Tbl.put t x.1 v) tbl) k).isSome = true := by
  induction xs generalizing tbl with
  | nil => simpa using h
  | cons x xs ih =>
    refine ih _ ?_
    by_cases hk : x.1 = k
    · exact .inr (by simp [hk])
    · simpa [hk, Tbl.find_put_ne tbl (Ne.symm hk)] using h

/-- The rows of an accepted EntryRunWrite are held, and wait to be written. -/
def State.beginRun (s : State) (rows : List (Nat × Nat)) : State :=
  State.queueWrites { s with beryl := { s.beryl with
    runWrite := some (rows.length, rows.length)
    heldEntries := rows.foldl (fun t x => Tbl.put t x.1 1) s.beryl.heldEntries } }
    (rows.map fun x => (x.1, x.2, WriteOwner.entryRun))

theorem State.same_beginRun (s : State) (rows : List (Nat × Nat)) : SameBut [.beryl] s (s.beginRun rows) :=
  (s.same_beryl _).trans (State.same_queueWrites _ _)

/-- ENTRY_RUN_WRITE: the run is held, and the command is PENDING. -/
theorem entryRunWrite_holds (s u : State) (e : JdpEnv) (args : List Byte) (n : Nat)
    (h : Triggered s e 0x3805 (fun s args => s.runWriteChecks args) args u) (hn : n = fieldAt args 4 4) :
    ∃ t, exec (.entryRunWrite e) s = .next t ∧ t.beryl.runWrite = some (n, n) ∧
      (∀ j, j < n → (Tbl.find t.beryl.heldEntries (fieldAt args 0 4 + j)).isSome = true) ∧ (t.cmd 0x3805).state = .pending ∧
      SameBut [.beryl, .cmds, .mgmt, .out] s t := by
  have begun := (u.accept e 0x3805).same_beginRun (runWriteRows (fieldAt args 0 4) (fieldAt args 4 4) (fieldAt args 8 8))
  refine h.intro fun t q keep => ⟨?_, fun j hj => ?_, ?_, (keep _ begun).mono (by decide)⟩
  · rw [q.beryl, hn]
    simp [State.queueWrites]
  · rw [q.beryl]
    exact Tbl.isSome_find_foldl_put 1 _ _ (.inl ⟨_, List.mem_map_of_mem (List.mem_range.2 (hn ▸ hj)), rfl⟩)
  · rw [State.cmd, q.cmds]
    exact u.cmd_accept e 0x3805

/-! ## Background writes (R172, R173, R176, R177) -/

/-- A decoder whose Commit request is granted shows committed (R176). -/
def State.commitDecoder (s : State) (d : Nat) : State :=
  s.w (K.vmdDecodersCommitted (d / 4)) (setBit (s.r (K.vmdDecodersCommitted (d / 4))) (d % 4) true)

/-- A commit of decoders leaves the entries: they are other objects. -/
theorem State.entry_grantDecoders (s : State) {i : Nat} (hi : i < 4194304) : s.grantDecoders.entry i = s.entry i := by
  refine State.each_keeps (fun u => u.entry i) State.commitDecoder (fun u d => u.r_w_ne ?_ _) _ s
  simp only [K.berylEntryTable, K.vmdDecodersCommitted, obj]
  omega

theorem State.same_grantDecoders (s : State) : SameBut [.regs, .beryl] s s.grantDecoders :=
  (s.same_each [.regs] State.commitDecoder (fun u _ => u.same_w _ _) _).then (State.same_beryl _ _)

theorem State.writes_grantDecoders (s : State) : s.grantDecoders.beryl.writes = s.beryl.writes :=
  State.each_keeps (fun u => u.beryl.writes) State.commitDecoder (fun _ _ => rfl) _ s

theorem State.same_unholdEntry (s : State) (i : Nat) : SameBut [.beryl] s (s.unholdEntry i) := s.same_beryl _

theorem State.same_unholdExtent (s : State) (e : Nat) : SameBut [.beryl] s (s.unholdExtent e) := s.same_beryl _

/-- A creation's write done: the entry stands, its holds end, and decoders that waited for it are granted (R176). -/
def State.landWrite (s : State) (i e : Nat) : State := (((s.putEntry i e).unholdEntry i).unholdExtent e).grantDecoders

theorem State.same_landWrite (s : State) (i e : Nat) : SameBut [.regs, .beryl, .vmds] s (s.landWrite i e) :=
  (s.same_putEntry i e).then (((State.same_unholdEntry _ i).trans (State.same_unholdExtent _ e)).then (State.same_grantDecoders _)
    (n := [.regs, .beryl]))

theorem State.writes_landWrite (s : State) (i e : Nat) : (s.landWrite i e).beryl.writes = s.beryl.writes :=
  (State.writes_grantDecoders _).trans (s.writes_putEntry i e)

theorem State.entry_landWrite (s : State) {i : Nat} (hi : i < 4194304) (e : Nat) : (s.landWrite i e).entry i = e :=
  (State.entry_grantDecoders _ hi).trans
    (State.entry_of_putEntry ((State.same_unholdEntry _ i).trans (State.same_unholdExtent _ e)).regs)

/-- A write done changes the array, what is held, and what the VMDs are told. -/
theorem State.same_doneWrite (s : State) (i e : Nat) (o : WriteOwner) :
    SameBut [.regs, .beryl, .vmds] s (s.doneWrite i e o) := by
  have put := s.same_putEntry i e
  cases o with
  | patch => exact .refl _ s
  | entryTable => exact .refl _ s
  | release => exact put
  | entryRun => exact put.then ((State.same_unholdEntry _ i).trans (State.same_beryl _ _))
  | scrub => exact (s.same_putEntry _ _).ite
  | creation v => exact s.same_landWrite i e
  | region r => exact s.same_landWrite i e

/-- A write done leaves those that wait behind it. -/
theorem State.writes_doneWrite (s : State) (i e : Nat) (o : WriteOwner) :
    (s.doneWrite i e o).beryl.writes = s.beryl.writes := by
  cases o with
  | patch => rfl
  | entryTable => rfl
  | release => exact s.writes_putEntry i e
  | entryRun => exact s.writes_putEntry i e
  | scrub =>
    simp only [State.doneWrite]
    split
    · exact s.writes_putEntry i _
    · rfl
  | creation v => exact s.writes_landWrite i e
  | region r => exact s.writes_landWrite i e

/-- A write that carries its entry writes it. -/
theorem State.entry_doneWrite (s : State) {i : Nat} (hi : i < 4194304) (e : Nat) {o : WriteOwner} (h1 : o ≠ .entryTable)
    (h2 : o ≠ .patch) (h3 : o ≠ .scrub) : (s.doneWrite i e o).entry i = e := by
  cases o with
  | patch => exact absurd rfl h2
  | entryTable => exact absurd rfl h1
  | release => exact s.entry_putEntry_self i e
  | entryRun => exact State.entry_of_putEntry ((State.same_unholdEntry _ i).trans (State.same_beryl _ _)).regs
  | scrub => exact absurd rfl h3
  | creation v => exact s.entry_landWrite hi e
  | region r => exact s.entry_landWrite hi e

/-- A write of the scrub poisons an entry that names a retired target (R177). -/
theorem State.entry_doneWrite_scrub (s : State) (i e : Nat) (hs : entState (s.entry i) ≠ 0)
    (ht : entTarget (s.entry i) ∈ s.beryl.retiredTargets) :
    (s.doneWrite i e .scrub).entry i = setBits (s.entry i) 63 61 4 := by
  simp only [State.doneWrite, hs, ht, List.contains_eq_mem, decide_true, Bool.and_true, ne_eq, not_false_eq_true, if_true]
  exact s.entry_putEntry_self i _

/-- A bank's reserved cycle drains its first patch. -/
theorem backgroundWrite_drains (s : State) (b : BankId) (i : Nat) (h : s.firstPatch b.val = some i) :
    ∃ t, exec (.backgroundWrite b) s = .next t ∧ t.beryl.patches = Tbl.del s.beryl.patches i ∧
      t.beryl.writes = s.beryl.writes ∧ SameBut [.beryl] s t := by
  refine exec_shows (exec_backgroundWrite s b) (by simp only [h]; rfl) fun t q keep => ⟨?_, ?_, keep _ (s.same_beryl _)⟩
  · rw [q.beryl]
  · rw [q.beryl]

/-- The first write that waits for a bank has left its queue. -/
def State.withRest (s : State) (b : Nat) (rest : List (Nat × Nat × WriteOwner)) : State :=
  { s with beryl := { s.beryl with writes := Tbl.putD s.beryl.writes b rest [] } }

/-- Where no patch waits, a bank's reserved cycle performs the first write that does. -/
theorem backgroundWrite_writes (s : State) (b : BankId) (i x : Nat) (o : WriteOwner) (rest : List (Nat × Nat × WriteOwner))
    (hp : s.firstPatch b.val = none) (hw : Tbl.getD s.beryl.writes b.val [] = (i, x, o) :: rest) (hi : i < 4194304) :
    ∃ t, exec (.backgroundWrite b) s = .next t ∧ Tbl.getD t.beryl.writes b.val [] = rest ∧
      (o ≠ .entryTable → o ≠ .patch → o ≠ .scrub → t.entry i = x) ∧
      (o = .scrub → entState (s.entry i) ≠ 0 → entTarget (s.entry i) ∈ s.beryl.retiredTargets →
        t.entry i = setBits (s.entry i) 63 61 4) ∧ SameBut [.regs, .beryl, .vmds] s t := by
  refine exec_shows (exec_backgroundWrite s b) (u := (s.withRest b.val rest).doneWrite i x o) (by simp only [hp, hw]; rfl)
    fun t q keep => ⟨?_, fun h1 h2 h3 => ?_, ?_, keep _ ?_⟩
  · rw [q.beryl, State.writes_doneWrite]
    exact Tbl.getD_putD_self _ _ _ _
  · rw [State.entry_of_regs q.regs, State.entry_doneWrite _ hi x h1 h2 h3]
  · rintro rfl hs ht
    rw [State.entry_of_regs q.regs]
    exact State.entry_doneWrite_scrub _ i x hs ht
  · exact ((s.same_beryl _).mono (by decide)).trans (State.same_doneWrite _ i x o)

/-- A bank for which nothing waits performs no write. -/
theorem backgroundWrite_idle (s : State) (b : BankId) (hp : s.firstPatch b.val = none)
    (hw : Tbl.getD s.beryl.writes b.val [] = []) : ∃ t, exec (.backgroundWrite b) s = .next t ∧ SameBut [] s t :=
  exec_idle (exec_backgroundWrite s b) (by simp only [hp, hw])

/-- The writes of an EntryRunWrite, done. -/
def State.runDone (s : State) : State :=
  s.takeRunWrites.2.each s.takeRunWrites.1 fun t x => t.doneWrite x.1 x.2.1 x.2.2

theorem State.same_runDone (s : State) : SameBut [.regs, .beryl, .vmds] s s.runDone :=
  ((s.same_beryl _).mono (by decide)).trans
    (State.same_each _ _ (fun t (x : Nat × Nat × WriteOwner) => t.doneWrite x.1 x.2.1 x.2.2)
      (fun v x => v.same_doneWrite x.1 x.2.1 x.2.2) _)

/-- Once they are done no write of EntryRunWrite waits. -/
theorem State.writes_runDone (s : State) : ∀ q ∈ s.runDone.beryl.writes, ∀ x ∈ q.2, x.2.2 ≠ .entryRun := by
  have left : s.runDone.beryl.writes = s.takeRunWrites.2.beryl.writes :=
    State.each_keeps (fun u => u.beryl.writes) (fun t (x : Nat × Nat × WriteOwner) => t.doneWrite x.1 x.2.1 x.2.2)
      (fun v x => v.writes_doneWrite x.1 x.2.1 x.2.2) _ _
  rw [left]
  intro q hq x hx
  obtain ⟨y, -, rfl⟩ := List.mem_map.1 (List.mem_filter.1 hq).1
  simpa using (List.mem_filter.1 hx).2

/-- ENTRY_RUN_WRITE_COMPLETE: no write of the run waits any more, and the command is DONE with EntriesWritten. -/
theorem entryRunWriteComplete_ends (s : State) (m n : Nat) (hr : s.beryl.runWrite = some (m, n))
    (hc : (s.cmd 0x3805).state = .pending) :
    ∃ t, exec .entryRunWriteComplete s = .next t ∧ t.beryl.runWrite = none ∧
      (∀ q ∈ t.beryl.writes, ∀ x ∈ q.2, x.2.2 ≠ .entryRun) ∧ (t.cmd 0x3805).state = .done ∧
      (t.cmd 0x3805).results = toBytes 4 n ∧ SameBut [.regs, .beryl, .vmds, .cmds, .mgmt, .out] s t := by
  let v : State := { s.runDone with beryl := { s.runDone.beryl with runWrite := none } }
  have same : SameBut [.regs, .beryl, .vmds] s v := s.same_runDone.trans ((State.same_beryl _ _).mono (by decide))
  have ended := v.same_cmdDone 0x3805 (toBytes 4 n)
  have waiting : (v.cmd 0x3805).state = .pending := by rw [State.cmd, same.cmds]; exact hc
  refine exec_shows (exec_entryRunWriteComplete s) (u := v.cmdDone 0x3805 (toBytes 4 n)) (by simp only [hr]; rfl)
    fun t q keep => ⟨?_, ?_, ?_, ?_, keep _ (same.then ended)⟩
  · rw [q.beryl, ended.beryl]
  · rw [q.beryl, ended.beryl]
    exact s.writes_runDone
  · rw [State.cmd, q.cmds]
    exact congrArg CmdRec.state (v.cmd_cmdDone 0x3805 _ waiting)
  · rw [State.cmd, q.cmds]
    exact congrArg CmdRec.results (v.cmd_cmdDone 0x3805 _ waiting)

/-! ## EntryReplace (R170) -/

theorem State.same_applyPatch (s : State) (i e : Nat) : SameBut [.regs, .beryl, .vmds] s (s.applyPatch i e) :=
  (s.same_putEntry i e).trans ((State.same_beryl _ _).mono (by decide))

theorem State.same_stagedActs (s : State) (x : List StagedAct) : SameBut [.stagedActs] s { s with stagedActs := x } := by
  intro q hq
  cases q with
  | stagedActs => simp at hq
  | time => exact ⟨rfl, rfl, rfl⟩
  | _ => rfl

/-- A replacement applied at once in PREOP, or staged. -/
def State.replace (s : State) (i x : Nat) : State :=
  if s.device = .preop then s.applyPatch i x else { s with stagedActs := s.stagedActs ++ [.entryReplace i x] }

/-- ENTRY_REPLACE replaces and is DONE. -/
theorem entryReplace_done (s u v : State) (e : JdpEnv) (args : List Byte) {l : List Part}
    (h : Triggered s e 0x3806 (fun s args => s.replaceChecks args) args u)
    (hv : (u.accept e 0x3806).replace (fieldAt args 0 4) (entWritten (fieldAt args 4 8)) = v)
    (hl : SameBut l (u.accept e 0x3806) v) (hc : .cmds ∉ l) :
    ∃ t, exec (.entryReplace e) s = .next t ∧ SameBut [.cmds, .mgmt, .out, .queue, .time] v t ∧
      (t.cmd 0x3806).state = .done ∧ SameBut (l ++ [.cmds, .mgmt, .out]) s t := by
  have ended := v.same_cmdDone 0x3806 []
  have waiting : (v.cmd 0x3806).state = .pending := by
    rw [State.cmd, hl.cmds hc]
    exact u.cmd_accept e 0x3806
  have both : SameBut (l ++ [.cmds, .mgmt, .out]) (u.accept e 0x3806) (v.cmdDone 0x3806 []) :=
    (hl.mono (by simp +contextual)).trans (ended.mono (by simp))
  subst hv
  refine h.intro fun t q keep => ⟨ended.then q, ?_, (keep _ both).mono (by simp +contextual)⟩
  rw [State.cmd, q.cmds]
  exact congrArg CmdRec.state (State.cmd_cmdDone _ 0x3806 _ waiting)

/-- In OPERATIONAL a replacement waits in the staged set. -/
theorem entryReplace_stages (s u : State) (e : JdpEnv) (args : List Byte) (i x : Nat)
    (h : Triggered s e 0x3806 (fun s args => s.replaceChecks args) args u) (hi : i = fieldAt args 0 4)
    (hx : x = entWritten (fieldAt args 4 8)) (hd : s.device = .operational) :
    ∃ t, exec (.entryReplace e) s = .next t ∧ t.stagedActs = s.stagedActs ++ [.entryReplace i x] ∧
      (t.cmd 0x3806).state = .done ∧ SameBut [.stagedActs, .cmds, .mgmt, .out] s t := by
  have oper : (u.accept e 0x3806).device = .operational := (State.device_of_regs h.accepted.regs).trans hd
  obtain ⟨t, ht, q, done, same⟩ := entryReplace_done s u _ e args h (if_neg (by simp [oper])) (State.same_stagedActs _ _) (by decide)
  refine ⟨t, ht, ?_, done, same⟩
  rw [q.stagedActs, h.accepted.stagedActs, hi, hx]

/-- In PREOP a replacement is in the array and in its bank's patches at once. -/
theorem entryReplace_patches (s u : State) (e : JdpEnv) (args : List Byte) (i x : Nat)
    (h : Triggered s e 0x3806 (fun s args => s.replaceChecks args) args u) (hi : i = fieldAt args 0 4)
    (hx : x = entWritten (fieldAt args 4 8)) (hd : s.device = .preop) :
    ∃ t, exec (.entryReplace e) s = .next t ∧ t.entry i = x ∧ Tbl.find t.beryl.patches i = some x ∧
      (t.cmd 0x3806).state = .done ∧ SameBut [.regs, .beryl, .vmds, .cmds, .mgmt, .out] s t := by
  have preop : (u.accept e 0x3806).device = .preop := (State.device_of_regs h.accepted.regs).trans hd
  obtain ⟨t, ht, q, done, same⟩ := entryReplace_done s u _ e args h (if_pos preop) (State.same_applyPatch _ _ _) (by decide)
  subst hi hx
  refine ⟨t, ht, ?_, ?_, done, same⟩
  · rw [State.entry_of_regs q.regs]
    exact State.entry_putEntry_self _ _ _
  · rw [q.beryl]
    exact Tbl.find_put_self _ _ _

/-! ## Settling and the scrub (R168, R177) -/

/-- A row whose Settled bit is written settled reads settled. -/
theorem rrSettled_setBits (r : Nat) : rrSettled (setBits r 98 98 1) = true := by
  simp only [rrSettled, bit, setBits, Nat.testBit_eq_decide_div_mod_eq, decide_eq_true_eq]
  generalize r >>> (98 + 1) = high
  have low : r % 2 ^ 98 < 2 ^ 98 := Nat.mod_lt _ (by decide)
  have one : (high * 2 ^ (98 + 1 - 98) + 1 % 2 ^ (98 + 1 - 98)) = high * 2 + 1 := rfl
  rw [one, Nat.mul_comm, Nat.mul_add_div (by decide), Nat.div_eq_of_lt low]
  omega

/-- The key of a row of runs. -/
def runKey (region : Bool) (row : Nat) : Nat :=
  if region then K.berylRegionRunTable + row % 256 else K.berylDescriptorTable + row % 4096

theorem runKey_eq (region : Bool) (row : Nat) : (if region then K.berylRegionRunTable else K.berylDescriptorTable)
    + row % (if region then 256 else 4096) = runKey region row := by
  cases region <;> simp [runKey]

/-- A row settled: its Settled bit is set, and no entry waits for it any more. -/
def State.settleRow (s : State) (k : Nat) : State :=
  let s := s.w k (setBits (s.r k) 98 98 1)
  { s with beryl := { s.beryl with unsettled := s.beryl.unsettled.filter (fun u => decide (u.1 ≠ k)) } }

theorem State.same_settleRow (s : State) (k : Nat) : SameBut [.regs, .beryl] s (s.settleRow k) :=
  (s.same_w _ _).then (State.same_beryl _ _)

theorem State.regs_settleRow (s : State) (k : Nat) : (s.settleRow k).regs = (s.w k (setBits (s.r k) 98 98 1)).regs := rfl

theorem State.r_settleRow_self (s : State) (k : Nat) : (s.settleRow k).r k = setBits (s.r k) 98 98 1 := by
  rw [State.r_of_regs (s.regs_settleRow k), s.r_w_self]

theorem State.r_settleRow_ne (s : State) {j k : Nat} (h : j ≠ k) : (s.settleRow k).r j = s.r j := by
  rw [State.r_of_regs (s.regs_settleRow k), s.r_w_ne h]

theorem State.unsettled_settleRow (s : State) (k : Nat) : ∀ x ∈ (s.settleRow k).beryl.unsettled, x.1 ≠ k := by
  intro x hx
  simpa using (List.mem_filter.1 hx).2

/-- ROW_SETTLED, on the row's key. -/
theorem exec_rowSettled_key (s : State) (region : Bool) (row : Nat) : exec (.rowSettled region row) s =
    effect (fun s => if s.rowUnsettled (runKey region row) then s else s.settleRow (runKey region row)) s := by
  rw [exec_rowSettled, execRowSettled]
  simp only [runKey_eq]
  rfl

/-- ROW_SETTLED once the row's refills are done. -/
theorem rowSettled_settles (s : State) (region : Bool) (row : Nat) (h : s.rowUnsettled (runKey region row) = false) :
    ∃ t, exec (.rowSettled region row) s = .next t ∧ rrSettled (t.r (runKey region row)) = true ∧
      (∀ j, j ≠ runKey region row → t.r j = s.r j) ∧ (∀ x ∈ t.beryl.unsettled, x.1 ≠ runKey region row) ∧
      SameBut [.regs, .beryl] s t := by
  refine exec_shows (exec_rowSettled_key s region row) (if_neg (by simp [h]))
    fun t q keep => ⟨?_, fun j hj => ?_, ?_, keep _ (s.same_settleRow _)⟩
  · rw [q.r, s.r_settleRow_self, rrSettled_setBits]
  · rw [q.r, s.r_settleRow_ne hj]
  · rw [q.beryl]
    exact s.unsettled_settleRow _

/-- ROW_SETTLED while a refill of the row is outstanding. -/
theorem rowSettled_waits (s : State) (region : Bool) (row : Nat) (h : s.rowUnsettled (runKey region row) = true) :
    ∃ t, exec (.rowSettled region row) s = .next t ∧ SameBut [] s t :=
  exec_idle (exec_rowSettled_key s region row) (if_pos h)

/-- POISON_SCRUB_COMPLETE after the scrub's last write. -/
theorem poisonScrubComplete_ends (s : State) (ha : s.on K.berylScrubActive = true) (hs : s.scrubbing = false) :
    ∃ t, exec .poisonScrubComplete s = .next t ∧ t.on K.berylScrubActive = false ∧
      (∀ k, k ≠ K.berylScrubActive → t.r k = s.r k) ∧ SameBut [.regs] s t := by
  refine exec_shows (exec_poisonScrubComplete s) (u := s.wb K.berylScrubActive false) (by simp [ha, hs])
    fun t q keep => ⟨?_, fun k hk => (q.r k).trans (s.r_w_ne hk _), keep _ (s.same_w _ _)⟩
  rw [State.on, q.r]
  simp [State.wb, ofBool]

/-- POISON_SCRUB_COMPLETE while a write of the scrub waits. -/
theorem poisonScrubComplete_waits (s : State) (hs : s.scrubbing = true) :
    ∃ t, exec .poisonScrubComplete s = .next t ∧ SameBut [] s t :=
  exec_idle (exec_poisonScrubComplete s) (by simp [hs])

end Sys2Proof.Machine
end

section
/-! The extent map's tables as a whole (09). -/

namespace Sys2Proof.Machine

/-- Settles O53, command by command: what a window writes stands in its rows because no two of them share a key, and what a
background write does leaves the writes behind it. -/
theorem entriesAndRunsAreWritten : Obligations.EntriesAndRunsAreWritten := by
  refine ⟨entryTableWrite_stores, runTableWrite_stages, deviceInventoryWrite_stores, entryRunWrite_holds,
    entryRunWriteComplete_ends, fun s u e args i x h hi hx => ?_, ?_, fun s b => ?_, fun s ha => ?_⟩
  · exact ⟨entryReplace_stages s u e args i x h hi hx, entryReplace_patches s u e args i x h hi hx⟩
  · rintro s region row k rfl
    exact ⟨rowSettled_settles s region row, rowSettled_waits s region row⟩
  · exact ⟨backgroundWrite_drains s b, backgroundWrite_writes s b, backgroundWrite_idle s b⟩
  · exact ⟨poisonScrubComplete_ends s ha, poisonScrubComplete_waits s⟩

end Sys2Proof.Machine
end

section
/-! Why the migration jobs' statement fails (11; R208, R215, R219): a job record holds any number for its index, and the key of
an entry outside the extent map (R162) is that of another object. -/

namespace Sys2Proof.Machine

/-- A MOVE job whose index lies so far outside the extent map that the key of its entry is that of engine 0's ChunkSize. -/
def strayJob : Job := { state := .copying, code := 0, index := K.engineChunkSize 0 - K.berylEntryTable }

/-- What the stray job takes for its entry is the size of the engine's chunk. -/
theorem State.entry_strayJob (s : State) : s.entry strayJob.index = s.r (K.engineChunkSize 0) :=
  congrArg s.r (Nat.add_sub_of_le (by decide))

/-- A home grants the stray job's lines while the size of the engine's chunk reads as an entry of a COHERENT region. -/
theorem State.coherentLine_strayJob {s : State} (h : s.job 0 = strayJob) (line : Nat) :
    (s.coherentLine 0 line).isSome = (entInRegion (s.r (K.engineChunkSize 0)) &&
      decide (s.r (K.regionClass (entRegion (s.r (K.engineChunkSize 0)))) = 1)) := by
  have hfill : strayJob.fill = false := rfl
  simp only [State.coherentLine, h, hfill, State.entry_strayJob]
  split <;> simp_all

/-- The device is OPERATIONAL and LOCKED, region 0 is COHERENT, and engine 0 is ready to start a chunk of the stray job. Its
ChunkSize is still that of an earlier chunk of 4 MiB, which reads as an entry of region 0. -/
def strayChunk : State :=
  (((((State.reset.w K.deviceState DeviceState.operational.num).w K.beatBeatState BeatState.locked.num).w
    (K.regionClass 0) 1).w (K.engineChunkSize 0) 4194304).modJob 0 (fun _ => strayJob)).modEngine 0
      (fun _ => { job := some 0, settled := true })

/-- Before the chunk starts, its first line is a home's to grant (R219). -/
theorem strayChunk_coherent :
    (strayChunk.coherentLine 0 (strayChunk.r (K.engineChunkOffset 0) / 64)).isSome = true :=
  (State.coherentLine_strayJob rfl _).trans (by decide)

/-- The new chunk's size, 256 KiB, reads as an entry of no region. So the engine asks no home: it locks the line and reads it at
once, its unit refuses the access to a target without capacity, and the chunk fails (R257). -/
theorem chunkStart_strayChunk_fails {t : State} (h : exec (.chunkStart 0) strayChunk = .next t) :
    (t.engine 0).running = false := by
  cases h
  decide

/-- Refutes O55: CHUNK_START writes the engine's ChunkSize before it looks for the home of the first line, and the entry of a job
whose index lies outside the extent map can be that very object. The chunk of such a job fails although its first line was a
home's to grant before. -/
theorem not_jobsCopyTheirChunks : ¬ Obligations.JobsCopyTheirChunks := by
  intro h
  obtain ⟨-, -, hchunk, -⟩ := h
  obtain ⟨-, -, hstart⟩ := hchunk strayChunk 0 0 rfl rfl
  have starts := (hstart rfl rfl rfl rfl (by decide) (by decide) (by decide) rfl rfl
    (fun _ => rfl) (fun hfill => absurd hfill (by decide))).1 strayChunk_coherent
  obtain ⟨t, ht, hrunning, -⟩ := starts
  exact absurd (hrunning.symm.trans (chunkStart_strayChunk_fails ht)) (by decide)

end Sys2Proof.Machine
end
